-- ==== Sys2Proof/Word.lean ====
section
/-! DEFINITION. The words of the ANS48: bytes of a frame, readings of the running time, and the
fixed families of like things (one value for each latch, door, child lock, window, port). -/

namespace Sys2Proof

/-- One byte of a frame (R160). -/
abbrev Byte := BitVec 8

/-- A reading of the running time, in ms; the count wraps at 2 to the 32 (R185). -/
abbrev Time := BitVec 32

/-- The five latches (R1). -/
inductive Latch | FL | FR | RL | RR | TG
deriving DecidableEq, Repr

/-- The four side doors: the latches that have a dead contact (R3). -/
inductive Door | FL | FR | RL | RR
deriving DecidableEq, Repr

/-- The two child-lock actuators (R2). -/
inductive Child | CRL | CRR
deriving DecidableEq, Repr

/-- The seven actuators of the lock matrix: five latches and two child locks. -/
inductive Act
  | latch (l : Latch)
  | child (c : Child)
deriving DecidableEq, Repr

/-- The four windows (R39). -/
inductive Win | WFL | WFR | WRL | WRR
deriving DecidableEq, Repr

/-- The two master ports (R159). -/
inductive Port | M | E
deriving DecidableEq, Repr

/-- The two groups of the lock matrix (R25). -/
inductive Group | DOOR | TAIL
deriving DecidableEq, Repr

/-- One value for each latch. -/
structure PerLatch (α : Type) where
  fl : α
  fr : α
  rl : α
  rr : α
  tg : α
deriving DecidableEq, Repr

/-- One value for each side door. -/
structure PerDoor (α : Type) where
  fl : α
  fr : α
  rl : α
  rr : α
deriving DecidableEq, Repr

/-- One value for each child-lock actuator. -/
structure PerChild (α : Type) where
  crl : α
  crr : α
deriving DecidableEq, Repr

/-- One value for each window. -/
structure PerWin (α : Type) where
  wfl : α
  wfr : α
  wrl : α
  wrr : α
deriving DecidableEq, Repr

/-- One value for each port. -/
structure PerPort (α : Type) where
  m : α
  e : α
deriving DecidableEq, Repr

def PerLatch.get {α : Type} (v : PerLatch α) : Latch → α
  | .FL => v.fl | .FR => v.fr | .RL => v.rl | .RR => v.rr | .TG => v.tg

def PerLatch.set {α : Type} (v : PerLatch α) (l : Latch) (x : α) : PerLatch α :=
  match l with
  | .FL => { v with fl := x }
  | .FR => { v with fr := x }
  | .RL => { v with rl := x }
  | .RR => { v with rr := x }
  | .TG => { v with tg := x }

def PerDoor.get {α : Type} (v : PerDoor α) : Door → α
  | .FL => v.fl | .FR => v.fr | .RL => v.rl | .RR => v.rr

def PerDoor.set {α : Type} (v : PerDoor α) (d : Door) (x : α) : PerDoor α :=
  match d with
  | .FL => { v with fl := x }
  | .FR => { v with fr := x }
  | .RL => { v with rl := x }
  | .RR => { v with rr := x }

def PerChild.get {α : Type} (v : PerChild α) : Child → α
  | .CRL => v.crl | .CRR => v.crr

def PerChild.set {α : Type} (v : PerChild α) (c : Child) (x : α) : PerChild α :=
  match c with
  | .CRL => { v with crl := x }
  | .CRR => { v with crr := x }

def PerWin.get {α : Type} (v : PerWin α) : Win → α
  | .WFL => v.wfl | .WFR => v.wfr | .WRL => v.wrl | .WRR => v.wrr

def PerWin.set {α : Type} (v : PerWin α) (w : Win) (x : α) : PerWin α :=
  match w with
  | .WFL => { v with wfl := x }
  | .WFR => { v with wfr := x }
  | .WRL => { v with wrl := x }
  | .WRR => { v with wrr := x }

def PerPort.get {α : Type} (v : PerPort α) : Port → α
  | .M => v.m | .E => v.e

def PerPort.set {α : Type} (v : PerPort α) (p : Port) (x : α) : PerPort α :=
  match p with
  | .M => { v with m := x }
  | .E => { v with e := x }

/-- The latches in the order in which every record of the part lists them. -/
def Latch.all : List Latch := [.FL, .FR, .RL, .RR, .TG]

/-- The four doors as latches, in order. -/
def Latch.doors : List Latch := [.FL, .FR, .RL, .RR]

def Child.all : List Child := [.CRL, .CRR]

def Act.latches : List Act := Latch.all.map .latch

def Act.children : List Act := Child.all.map .child

def Act.all : List Act := Act.latches ++ Act.children

def Win.all : List Win := [.WFL, .WFR, .WRL, .WRR]

def Door.all : List Door := [.FL, .FR, .RL, .RR]

/-- The latch of a side door. -/
def Door.latch : Door → Latch
  | .FL => .FL | .FR => .FR | .RL => .RL | .RR => .RR

/-- The side door of a latch; the tailgate has none. -/
def Latch.door : Latch → Option Door
  | .FL => some .FL | .FR => some .FR | .RL => some .RL | .RR => some .RR | .TG => none

end Sys2Proof
end

