-- ==== Sys2Proof/Syntax.lean ====
section
/-! DEFINITION. The commands of the ANS48: one constructor for each row of the opcode table, with
the operands the row's event or request carries. Commands of the two ports carry their argument
bytes as received (R165), because the part checks them itself (R166). -/

namespace Sys2Proof

/-- A debounced lock, dead or engaged contact (R3). -/
inductive Contact
  | lock (l : Latch)
  | dead (d : Door)
  | engaged (c : Child)
deriving DecidableEq, Repr

/-- The two active positions of the central lock rocker and of the key cylinder (R10). -/
inductive LockTurn | LOCK | UNLOCK
deriving DecidableEq, Repr

/-- The seven window switches (R41). -/
inductive Switch
  | panel (w : Win)
  | frontPassenger
  | rearLeft
  | rearRight
deriving DecidableEq, Repr

/-- The stages of a two-stage window switch (chapter 3.2). -/
inductive Stage | NEUTRAL | UP1 | UP2 | DOWN1 | DOWN2
deriving DecidableEq, Repr

/-- The five touch inputs (R131). -/
inductive TouchInput | FL_UNLOCK | FL_LOCK | FR_UNLOCK | FR_LOCK | TG_OPEN
deriving DecidableEq, Repr

/-- The two Hall inputs of a window (R63). -/
inductive HallInput | A | B
deriving DecidableEq, Repr

/-- The panel and key inputs whose release is reported (R184). -/
inductive PanelInput | ROCKER | KEY | CHILD_BUTTON
deriving DecidableEq, Repr

/-- One value for each window switch. -/
structure PerSwitch (α : Type) where
  panel : PerWin α
  frontPassenger : α
  rearLeft : α
  rearRight : α
deriving DecidableEq, Repr

def PerSwitch.get {α : Type} (v : PerSwitch α) : Switch → α
  | .panel w => v.panel.get w
  | .frontPassenger => v.frontPassenger
  | .rearLeft => v.rearLeft
  | .rearRight => v.rearRight

def PerSwitch.set {α : Type} (v : PerSwitch α) (sw : Switch) (x : α) : PerSwitch α :=
  match sw with
  | .panel w => { v with panel := v.panel.set w x }
  | .frontPassenger => { v with frontPassenger := x }
  | .rearLeft => { v with rearLeft := x }
  | .rearRight => { v with rearRight := x }

/-- The debounced levels of the touch inputs: true is touched. -/
structure TouchLevels where
  flUnlock : Bool
  flLock : Bool
  frUnlock : Bool
  frLock : Bool
  tgOpen : Bool
deriving DecidableEq, Repr

/-- The states the Input Conditioner holds of every input line (block overview; R3, R10, R34, R41,
R54, R55, R65, R131, R148). -/
structure Pins where
  /-- lock contact closed -/
  lock : PerLatch Bool
  /-- dead contact closed -/
  dead : PerDoor Bool
  /-- engaged contact closed -/
  engaged : PerChild Bool
  /-- ajar contact OPEN: the ajar field of the latch record, which follows it always (R6) -/
  ajarOpen : PerLatch Bool
  switches : PerSwitch Stage
  touch : TouchLevels
  rocker : Option LockTurn
  key : Option LockTurn
  childButton : Bool
  /-- Hall sensor supply in range (R54) -/
  sensorOk : PerWin Bool
  /-- sampled level of CRASH_IN, true is active (R148) -/
  crashIn : Bool
  /-- latest supply sample in mV (R65) -/
  supply : Nat
  /-- OC_D active (R34) -/
  ocDoor : Bool
  /-- OC_T active (R34) -/
  ocTail : Bool
  /-- window bridge comparator active (R55) -/
  ocWin : PerWin Bool
deriving DecidableEq, Repr

/-- The recorded readings of the running time that can be marked expired (R185). -/
inductive ReadingRef
  | enqueue (job : Nat)
  | started (job : Option Nat) (g : Group)
  | searchOpened
  | lastOpened
  | lastClosed
  | acceptance (slot : Fin 8)
  | candidate (slot : Fin 8)
  | entry
  | keyLock
  | holdStart
  | holdFrame
deriving DecidableEq, Repr

/-- The commands: one constructor for each row of the opcode table. -/
inductive Instr
  | powerOnReset (pins : Pins)
  | portsEnabled
  | contactChange (c : Contact) (closed : Bool)
  | ajarChange (l : Latch) (isOpen : Bool)
  | sensedInvalidExpiry (d : Door)
  | centralLockRocker (t : LockTurn)
  | keyCylinder (t : LockTurn)
  | childSafetyButton
  | windowSwitchChange (sw : Switch) (st : Stage)
  | touch (i : TouchInput) (touched : Bool)
  | qualifiedEdge (w : Win) (h : HallInput) (since : Nat)
  | sensorSupplyChange (w : Win) (inRange : Bool)
  | supplySample (mv : Nat)
  | groupOvercurrent (g : Group) (active : Bool)
  | windowOvercurrent (w : Win) (active : Bool)
  | overcurrentFaultClear (w : Win)
  | crashInChange (active : Bool)
  | qualificationTimerExpiry
  | quietTimerExpiry
  | transferBegin (p : Port)
  | transferEnd (p : Port) (bytes : List Byte) (trailing : Bool)
  | nop (p : Port)
  | readNotices (p : Port)
  | clearNotices (p : Port) (kinds : BitVec 16)
  | setMask (p : Port) (kinds : BitVec 16)
  | readLatches (p : Port)
  | latchRequest (p : Port) (set : Byte) (target : Byte)
  | childRequest (p : Port) (sides : Byte) (action : Byte)
  | readWindow (p : Port) (window : Byte) (page : Byte)
  | windowRequest (p : Port) (window : Byte) (action : Byte) (position : BitVec 16)
  | clearProfile (p : Port) (window : Byte)
  | saveProfiles (p : Port)
  | present (p : Port) (identity : BitVec 32) (counter : BitVec 24) (button : Byte) (tag : Byte)
  | searchNone (p : Port) (tag : Byte)
  | readSearch (p : Port) (page : Byte)
  | readLastEntry (p : Port) (page : Byte)
  | enroll (p : Port) (slot : Byte) (identity : BitVec 32) (counter : BitVec 24)
  | revoke (p : Port) (slot : Byte)
  | select (p : Port) (table : Byte) (window : Byte) (index : Byte) (stepByte : Byte)
  | readNext (p : Port)
  | setParam (p : Port) (param : Byte) (value : BitVec 16)
  | readParam (p : Port) (param : Byte)
  | commitParams (p : Port)
  | crashNotify (p : Port)
  | crashClear (p : Port)
  | restart (p : Port)
  | standby (p : Port)
  | strokeEnd (job : Option Nat) (g : Group)
  | retryWaitExpiry (a : Act)
  | strokeCountDecay (a : Act)
  | relockTimerExpiry
  | brakingTimerExpiry (w : Win)
  | stall (w : Win)
  | heatingTimerExpiry (w : Win)
  | coolingTimerExpiry (w : Win)
  | tallyTimerExpiry (w : Win)
  | jobTurnsBlocking (job : Nat)
  | candidateLifetimeExpiry (slot : Fin 8)
  | startTimerExpiry
  | gapTimerExpiry
  | searchExpiry
  | holdOffEnd (l : Latch)
  | readingExpired (r : ReadingRef)
  | commitWriteComplete
  | profileWriteComplete
  | enrollWriteComplete
  | revokeWriteComplete
  | paramWriteComplete
  | panelKeyInputRelease (i : PanelInput)
deriving DecidableEq, Repr

end Sys2Proof
end

