-- ==== Sys2Proof/Decode.lean ====
section
/-! DEFINITION. The opcode table gives its rows no bits, so a table word spells no command. What the
spec does give a layout is the request frame of the master ports (R160, R165): this file reads a frame
into the command it carries, and writes it. -/

namespace Sys2Proof

/-- No row of the opcode table has bits. -/
def decodeTableWord (_nbits _w : Nat) : Option Instr := none

/-- The number of bytes in a frame (R160). -/
def frameLength : Nat := 12

/-- Argument byte `k` of a frame's argument bytes. -/
def argByte (args : List Byte) (k : Nat) : Byte := args.getD k 0#8

/-- A two-byte number, least significant byte first (R160). -/
def argWord (args : List Byte) (k : Nat) : BitVec 16 := argByte args (k + 1) ++ argByte args k

/-- A three-byte fob counter, least significant byte first (R160). -/
def argCounter (args : List Byte) (k : Nat) : BitVec 24 :=
  argByte args (k + 2) ++ (argByte args (k + 1) ++ argByte args k)

/-- A four-byte identity, least significant byte first (R160). -/
def argIdentity (args : List Byte) (k : Nat) : BitVec 32 :=
  argByte args (k + 3) ++ (argByte args (k + 2) ++ (argByte args (k + 1) ++ argByte args k))

/-- The command catalogue (R165): the command that a code and its argument bytes carry on a port. -/
def decodeRequest (p : Port) (code : Byte) (args : List Byte) : Option Instr :=
  match code.toNat with
  | 0x00 => some (.nop p)
  | 0x01 => some (.readNotices p)
  | 0x02 => some (.clearNotices p (argWord args 0))
  | 0x03 => some (.setMask p (argWord args 0))
  | 0x10 => some (.readLatches p)
  | 0x11 => some (.latchRequest p (argByte args 0) (argByte args 1))
  | 0x12 => some (.childRequest p (argByte args 0) (argByte args 1))
  | 0x20 => some (.readWindow p (argByte args 0) (argByte args 1))
  | 0x21 => some (.windowRequest p (argByte args 0) (argByte args 1) (argWord args 2))
  | 0x22 => some (.clearProfile p (argByte args 0))
  | 0x23 => some (.saveProfiles p)
  | 0x30 => some (.present p (argIdentity args 0) (argCounter args 4) (argByte args 7) (argByte args 8))
  | 0x31 => some (.searchNone p (argByte args 0))
  | 0x32 => some (.readSearch p (argByte args 0))
  | 0x33 => some (.readLastEntry p (argByte args 0))
  | 0x34 => some (.enroll p (argByte args 0) (argIdentity args 1) (argCounter args 5))
  | 0x35 => some (.revoke p (argByte args 0))
  | 0x40 => some (.select p (argByte args 0) (argByte args 1) (argByte args 2) (argByte args 3))
  | 0x41 => some (.readNext p)
  | 0x50 => some (.setParam p (argByte args 0) (argWord args 1))
  | 0x51 => some (.readParam p (argByte args 0))
  | 0x52 => some (.commitParams p)
  | 0x60 => some (.crashNotify p)
  | 0x61 => some (.crashClear p)
  | 0x70 => some (.restart p)
  | 0x71 => some (.standby p)
  | _ => none

/-- Bytes of a number, least significant first. -/
def wordBytes (v : BitVec 16) : List Byte := [v.extractLsb' 0 8, v.extractLsb' 8 8]

def counterBytes (v : BitVec 24) : List Byte :=
  [v.extractLsb' 0 8, v.extractLsb' 8 8, v.extractLsb' 16 8]

def identityBytes (v : BitVec 32) : List Byte :=
  [v.extractLsb' 0 8, v.extractLsb' 8 8, v.extractLsb' 16 8, v.extractLsb' 24 8]

/-- The code and argument bytes of a port command (R165); none for a row that is no port command. -/
def encodeRequest : Instr → Option (Port × Byte × List Byte)
  | .nop p => some (p, 0x00#8, [])
  | .readNotices p => some (p, 0x01#8, [])
  | .clearNotices p k => some (p, 0x02#8, wordBytes k)
  | .setMask p k => some (p, 0x03#8, wordBytes k)
  | .readLatches p => some (p, 0x10#8, [])
  | .latchRequest p s t => some (p, 0x11#8, [s, t])
  | .childRequest p s a => some (p, 0x12#8, [s, a])
  | .readWindow p w g => some (p, 0x20#8, [w, g])
  | .windowRequest p w a x => some (p, 0x21#8, [w, a] ++ wordBytes x)
  | .clearProfile p w => some (p, 0x22#8, [w])
  | .saveProfiles p => some (p, 0x23#8, [])
  | .present p i c b t => some (p, 0x30#8, identityBytes i ++ counterBytes c ++ [b, t])
  | .searchNone p t => some (p, 0x31#8, [t])
  | .readSearch p g => some (p, 0x32#8, [g])
  | .readLastEntry p g => some (p, 0x33#8, [g])
  | .enroll p s i c => some (p, 0x34#8, [s] ++ identityBytes i ++ counterBytes c)
  | .revoke p s => some (p, 0x35#8, [s])
  | .select p t w i st => some (p, 0x40#8, [t, w, i, st])
  | .readNext p => some (p, 0x41#8, [])
  | .setParam p c v => some (p, 0x50#8, [c] ++ wordBytes v)
  | .readParam p c => some (p, 0x51#8, [c])
  | .commitParams p => some (p, 0x52#8, [])
  | .crashNotify p => some (p, 0x60#8, [])
  | .crashClear p => some (p, 0x61#8, [])
  | .restart p => some (p, 0x70#8, [])
  | .standby p => some (p, 0x71#8, [])
  | _ => none

/-- The sum of bytes, modulo 256. -/
def byteSum : List Byte → Byte
  | [] => 0#8
  | b :: bs => b + byteSum bs

/-- The check byte of a frame's first eleven bytes, or of a stored item's other bytes: 255 less their sum, modulo 256
(R160, R177). -/
def checkByte (bytes : List Byte) : Byte := 255#8 - byteSum bytes

/-- A frame whose twelve bytes sum to 255 modulo 256 has a good check (R160). -/
def goodCheck (bytes : List Byte) : Bool := byteSum bytes == 255#8

/-- Byte lists filled up with zeros to a length. -/
def padTo (n : Nat) (bytes : List Byte) : List Byte :=
  bytes ++ List.replicate (n - bytes.length) 0#8

/-- The request frame of a port command: code, ten argument bytes with the unused ones 0, check
(R160). -/
def encodeFrame (i : Instr) : Option (Port × List Byte) :=
  match encodeRequest i with
  | some (p, code, args) =>
    let body := code :: padTo 10 args
    some (p, body ++ [checkByte body])
  | none => none

/-- A whole frame with a good check and a code of the catalogue carries a command (R161, tests 2 to 4). -/
def decodeFrame (p : Port) (bytes : List Byte) : Option Instr :=
  if bytes.length = frameLength ∧ goodCheck bytes = true then
    decodeRequest p (bytes.headD 0#8) (bytes.tail.take 10)
  else none

/-- The codes permitted on Port E (R165). -/
def permittedOnE (code : Byte) : Bool :=
  code.toNat ∈ [0x00, 0x01, 0x02, 0x03, 0x10, 0x20, 0x30, 0x31, 0x32, 0x33, 0x40, 0x41, 0x51]

/-- Every command but SEARCH_NONE is permitted on Port M (R165). -/
def permittedOn (p : Port) (code : Byte) : Bool :=
  match p with
  | .M => code != 0x31#8
  | .E => permittedOnE code

end Sys2Proof
end

