-- ==== Sys2Proof/Config.lean ====
section
/-! DEFINITION. The fourteen parameters with their defaults (R179), and what the model fixes where
the spec gives the part no value before the first power-on: the levels of the input lines at
State.reset. -/

namespace Sys2Proof

/-- The parameter values, as the numbers the ports carry (R179): OFF and LEFT are 0, ON and RIGHT 1. -/
structure Params where
  driveBudget : Nat
  strokeTime : Nat
  deadlockStrokeTime : Nat
  selectiveUnlock : Nat
  passiveUnlockAll : Nat
  relockTime : Nat
  pinchThreshold : Nat
  reverseDistance : Nat
  sealZone : Nat
  blanking : Nat
  heatLimit : Nat
  comfortHoldStart : Nat
  searchTimeout : Nat
  driverSide : Nat
deriving DecidableEq, Repr

/-- The parameters by code (R179). -/
inductive Param
  | DRIVE_BUDGET | STROKE_TIME | DEADLOCK_STROKE_TIME | SELECTIVE_UNLOCK | PASSIVE_UNLOCK_ALL
  | RELOCK_TIME | PINCH_THRESHOLD | REVERSE_DISTANCE | SEAL_ZONE | BLANKING | HEAT_LIMIT
  | COMFORT_HOLD_START | SEARCH_TIMEOUT | DRIVER_SIDE
deriving DecidableEq, Repr

/-- The default column of R179. -/
def Params.defaults : Params where
  driveBudget := 12
  strokeTime := 150
  deadlockStrokeTime := 250
  selectiveUnlock := 1
  passiveUnlockAll := 0
  relockTime := 30
  pinchThreshold := 12
  reverseDistance := 250
  sealZone := 12
  blanking := 24
  heatLimit := 600
  comfortHoldStart := 1000
  searchTimeout := 400
  driverSide := 0

/-- DESIGN CHOICE (log entry 3): the input lines at State.reset. Every contact is open and every door
CLOSED, every switch and sensor is at rest, every window sensor is supplied, CRASH_IN is inactive, and the
harness supply stands at 13500 mV, the reference supply of R70. -/
def Config.restPins : Pins where
  lock := ⟨false, false, false, false, false⟩
  dead := ⟨false, false, false, false⟩
  engaged := ⟨false, false⟩
  ajarOpen := ⟨false, false, false, false, false⟩
  switches := ⟨⟨.NEUTRAL, .NEUTRAL, .NEUTRAL, .NEUTRAL⟩, .NEUTRAL, .NEUTRAL, .NEUTRAL⟩
  touch := ⟨false, false, false, false, false⟩
  rocker := none
  key := none
  childButton := false
  sensorOk := ⟨true, true, true, true⟩
  crashIn := false
  supply := 13500
  ocDoor := false
  ocTail := false
  ocWin := ⟨false, false, false, false⟩

end Sys2Proof
end

