-- ==== Sys2Proof/Machine/State.lean ====
section
/-! DEFINITION. The state of the ANS48 as plain data: every record the manual gives each block, and the
state right after a power-on reset, at the moment the ports are enabled (R181). -/

namespace Sys2Proof.Machine

open Sys2Proof

/-! ## Time -/

/-- A recorded reading of the running time, with its expired mark (R185). -/
structure Reading where
  time : Time
  expired : Bool
deriving DecidableEq, Repr

/-- A running timer: when it started and how many ms it runs. A stopped timer is `none`. -/
structure Timer where
  start : Time
  span : Nat
deriving DecidableEq, Repr

/-- LOADING is the time between a power-on reset and the enabling of the ports (R181). -/
inductive Phase | LOADING | ACTIVE | STANDBY
deriving DecidableEq, Repr

/-! ## Lock table (R1, R2) -/

/-- Positions of an actuator: the first three of a latch, the last two of a child lock. -/
inductive Position | UNLOCKED | LOCKED | DEADLOCKED | ENGAGED | RELEASED
deriving DecidableEq, Repr

inductive Activity | IDLE | QUEUED | STROKING | RETRY_WAIT
deriving DecidableEq, Repr

inductive LockFault | NONE | NO_MOVE | SENSOR | OVERCURRENT
deriving DecidableEq, Repr

/-- The target of a latch job (first three) or child job (last two) (R9). -/
inductive Goal | LOCK | DEADLOCK | UNLOCK | ENGAGE | RELEASE
deriving DecidableEq, Repr

/-- Origins, in the order of the introduction. -/
inductive Origin
  | PORT_M | PORT_E | DRIVER_PANEL | KEY_CYLINDER | FRONT_PASSENGER | REAR_LEFT | REAR_RIGHT
  | SEARCH | RELOCK | RETRY | CRASH
deriving DecidableEq, Repr

inductive Priority | USER | COMFORT
deriving DecidableEq, Repr

inductive RunMode | MANUAL | AUTO | COMFORT | FORCED
deriving DecidableEq, Repr

inductive Dir | UP | DOWN
deriving DecidableEq, Repr

/-- Who owns a run or a queued window job: origin and rank, 0 for a reversal, which has none (R59). -/
structure Commander where
  origin : Origin
  rank : Nat
deriving DecidableEq, Repr

/-- What a window job asks for (R87). -/
structure WindowTask where
  win : Win
  mode : RunMode
  dir : Dir
  target : Option Nat
  commander : Commander
deriving DecidableEq, Repr

/-- The targets of a job; the class follows from them: LATCH and CHILD by the goal, WINDOW (R87). -/
inductive JobTargets
  | lock (goal : Goal) (acts : List Act)
  | window (task : WindowTask)
deriving DecidableEq, Repr

/-- A job record (R87). -/
structure Job where
  id : Nat
  origin : Origin
  targets : JobTargets
  priority : Priority
  enqueued : Reading
  blocking : Bool
  shed : Bool
  cost : Nat
deriving DecidableEq, Repr

/-- A retry wait (R22): its timer, the fault of the failed attempt, and the reserved retry job, which a
crash retry wait does not have. -/
structure RetryWait where
  timer : Timer
  cause : LockFault
  job : Option Job
deriving DecidableEq, Repr

/-- A latch or child record (R1, R2). Its sensed and ajar fields are views of the input lines, held
once in `Pins` (R3, R6). -/
structure ActRec where
  state : Position
  activity : Activity
  fault : LockFault
  attempts : Nat
  strokes : Nat
  /-- the decay timer of the stroke limiter (R24) -/
  decay : Option Timer
  /-- the 100 ms INVALID timer (R5) -/
  invalidT : Option Timer
  wait : Option RetryWait
deriving DecidableEq, Repr

/-- The lock table: five latch records and two child records. -/
structure LockTable where
  latches : PerLatch ActRec
  children : PerChild ActRec
deriving DecidableEq, Repr

/-! ## Lock matrix (R26, R27) -/

inductive Polarity | NONE | PLUS | MINUS
deriving DecidableEq, Repr

/-- A member of a stroke with the stroke target and duration the Latch Controller gave it (R27). -/
structure Member where
  act : Act
  target : Position
  duration : Nat
deriving DecidableEq, Repr

/-- A stroke record (R27). `job` is none for a stroke of the crash job. -/
structure Stroke where
  job : Option Nat
  group : Group
  polarity : Polarity
  members : List Member
  duration : Nat
  started : Reading
  allowance : Nat
  units : Nat
deriving DecidableEq, Repr

/-! ## Windows and Pinch Monitor (R39, R66, R82) -/

inductive RunState | IDLE | QUEUED | RUNNING | BRAKING | REVERSING
deriving DecidableEq, Repr

inductive WindowFault | NONE | STALL | SENSOR_LOST | OVERCURRENT | THERMAL
deriving DecidableEq, Repr

/-- What a window does when its braking ends (R48). A reversal is marked (R59). -/
structure Continuation where
  mode : RunMode
  dir : Dir
  target : Option Nat
  commander : Commander
  reversal : Bool
deriving DecidableEq, Repr

inductive MonitorPhase | OFF | BLANKING | ACTIVE
deriving DecidableEq, Repr

inductive PinchCause | TEST | STALL
deriving DecidableEq, Repr

inductive PinchTest | LEARNED | RATIO | NONE
deriving DecidableEq, Repr

/-- The last pinch record (R75). -/
structure LastPinch where
  cause : PinchCause
  position : Nat
  zone : Option Nat
  test : PinchTest
  F : Nat
  reference : Nat
  Fmin : Nat
deriving DecidableEq, Repr

/-- A scratch pair: sum and count of one zone (R66). -/
structure ZoneSum where
  sum : Nat
  count : Nat
deriving DecidableEq, Repr

/-- A monitor record (R66). -/
structure Monitor where
  phase : MonitorPhase
  blankingLength : Nat
  edges : Nat
  primed : Bool
  F : Nat
  Fmin : Nat
  c : Nat
  clean : Bool
  scratch : Vector ZoneSum 32
  marked : Bool
  lastPinch : Option LastPinch
deriving DecidableEq, Repr

/-- A profile: travel and 32 references (R82). L is `none` while UNKNOWN. -/
structure Profile where
  L : Option Nat
  R : Vector Nat 32
deriving DecidableEq, Repr

/-- A window record (R39), with its profile, its timers and the Hall qualification of its sensor. -/
structure Window where
  run : RunState
  mode : RunMode
  dir : Dir
  job : Option Nat
  cont : Option Continuation
  normalized : Bool
  P : Nat
  profile : Profile
  target : Option Nat
  commander : Option Commander
  H : Nat
  held : Bool
  tally : Nat
  fault : WindowFault
  mon : Monitor
  /-- the 128 ms stall timer (R49, R52) -/
  stallT : Option Timer
  /-- the 100 ms braking timer (R48); its age is the age of the stop (R50) -/
  brakeT : Option Timer
  /-- the 100 ms heating and 2 s cooling timers (R56) -/
  heatT : Option Timer
  coolT : Option Timer
  /-- the 10 s pinch tally timer (R61) -/
  tallyT : Option Timer
  /-- the 500 ms of drive that clear an OVERCURRENT fault (R55) -/
  clearT : Option Timer
  /-- reversal start position and the REVERSE_DISTANCE taken at its start (R59, R60, R86) -/
  revStart : Nat
  revDistance : Nat
  /-- input of the previous qualified edge, and whether one has been since power-on (R63, R64) -/
  lastHall : Option HallInput
  hasEdge : Bool
deriving DecidableEq, Repr

/-! ## Crash slot and Crash Unit (R107, R148) -/

/-- The crash slot. Its running strokes are the stroke records whose job is CRASH. -/
structure CrashSlot where
  isOpen : Bool
  pending : List Latch
  stroking : List Latch
  waiting : List Latch
deriving DecidableEq, Repr

inductive CrashSource | LINE | PORT_M | POWER_ON
deriving DecidableEq, Repr

inductive CrashLine | INACTIVE | QUALIFYING | ACTIVE
deriving DecidableEq, Repr

/-- The Crash Unit's record (R148); `latch` true is SET. -/
structure CrashUnit where
  latch : Bool
  lastSource : Option CrashSource
  line : CrashLine
  qualT : Option Timer
  quiet : Bool
  quietT : Option Timer
deriving DecidableEq, Repr

/-! ## Credentials (R111, R126, R16) -/

inductive Button | LOCK | UNLOCK | LOCK_HELD | PASSIVE
deriving DecidableEq, Repr

inductive SlotStatus | EMPTY | ACTIVE | CORRUPT
deriving DecidableEq, Repr

/-- The last ACCEPTED presentation of a slot (R111). -/
structure Acceptance where
  time : Reading
  port : Port
  button : Button
deriving DecidableEq, Repr

/-- A resync candidate (R117). -/
structure Candidate where
  counter : Nat
  time : Reading
deriving DecidableEq, Repr

/-- A fob slot (R111). The identity is 0 where the slot has none. -/
structure FobSlot where
  status : SlotStatus
  identity : BitVec 32
  C : Nat
  storedC : Nat
  candidate : Option Candidate
  rejects : Nat
  acceptance : Option Acceptance
  commitPending : Bool
deriving DecidableEq, Repr

/-- The comfort hold record (R126) and its two timers. -/
structure Hold where
  present : Bool
  isOpen : Bool
  slot : Fin 8
  counter : Nat
  port : Port
  start : Reading
  lastFrame : Reading
  started : Bool
  startT : Option Timer
  gapT : Option Timer
deriving DecidableEq, Repr

inductive EntryButton | LOCK | UNLOCK | PASSIVE
deriving DecidableEq, Repr

/-- The entry action record (R16). -/
structure EntryRecord where
  button : EntryButton
  slot : Fin 8
  time : Reading
  port : Port
deriving DecidableEq, Repr

/-- Presentation results in the order of R120. -/
inductive PresentResult
  | ACCEPTED | HOLD_EXTENDED | DUPLICATE | RESYNC_NEEDED | REPLAY | OUT_OF_WINDOW | UNKNOWN_FOB
  | LATE | WRONG_TAG
deriving DecidableEq, Repr

/-- Action results in the order of R120. -/
inductive ActionResult | DONE | DOOR_OPEN | DEADLOCK_REFUSED | CRASH_ACTIVE | QUEUE_FULL
deriving DecidableEq, Repr

/-! ## Searches (R132) -/

inductive Purpose | UNLOCK | LOCK
deriving DecidableEq, Repr

structure OpenSearch where
  tag : Nat
  purpose : Purpose
  latches : List Latch
  opened : Reading
deriving DecidableEq, Repr

inductive SearchOutcome | FOUND_ACCEPTED | FOUND_REJECTED | NOT_FOUND | EXPIRED | CANCELLED
deriving DecidableEq, Repr

/-- What a PASSIVE answer adds to the search it closes (R132, R139). -/
structure SearchAnswer where
  slot : Option (Fin 8)
  result : PresentResult
  action : Option ActionResult
  job : Option Nat
deriving DecidableEq, Repr

structure ClosedSearch where
  tag : Nat
  purpose : Purpose
  latches : List Latch
  opened : Reading
  closed : Reading
  outcome : SearchOutcome
  answer : Option SearchAnswer
deriving DecidableEq, Repr

/-- The Search Controller's state. A hold-off is a running 1.5 s timer (R136). -/
structure SearchUnit where
  current : Option OpenSearch
  last : Option ClosedSearch
  nextTag : Nat
  holdFL : Option Timer
  holdFR : Option Timer
  holdTG : Option Timer
deriving DecidableEq, Repr

/-! ## Ports and notices (R162, R163, R171, R173, R175) -/

inductive Status
  | NONE | DONE | ACCEPTED | IN_PROGRESS | REFUSED | UNKNOWN_COMMAND | NOT_PERMITTED | CHECK_FAILED
  | FRAME_ERROR
deriving DecidableEq, Repr

inductive Reason
  | QUEUE_FULL | DOOR_OPEN | CRASH_ACTIVE | RANK | NOT_NORMALIZED | NOT_LEARNED | THERMAL
  | UNDERVOLTAGE | DUPLICATE_IDENTITY | LINE_ACTIVE | BUSY_ACTIVITY | BAD_INDEX
deriving DecidableEq, Repr

/-- A response frame less its check byte: code, status and the 72 data bits (R160). -/
structure Response where
  code : Byte
  status : Status
  data : BitVec 72
deriving DecidableEq, Repr

inductive CursorTable | FOB | PROFILE | QUEUE
deriving DecidableEq, Repr

inductive CursorStep | FORWARD | BACKWARD | STAY
deriving DecidableEq, Repr

structure Cursor where
  table : CursorTable
  window : Win
  index : Nat
  step : CursorStep
deriving DecidableEq, Repr

/-- A transfer in progress (R159, R163): whether its data-out line is driven (it began with the ports
enabled), whether the port was in flight at its beginning, and the response it shifts out. -/
structure Transfer where
  driven : Bool
  inFlight : Bool
  out : Response
deriving DecidableEq, Repr

/-- A port: response slot, in-flight flag with the code of its command, cursor, transfer, pending set and
mask (one bit for each notice kind, R173). -/
structure PortRec where
  slot : Response
  inFlight : Option Byte
  cursor : Cursor
  transfer : Option Transfer
  pending : BitVec 16
  mask : BitVec 16
deriving DecidableEq, Repr

/-- Notice kinds by bit (R173). -/
inductive Notice
  | RESTARTED | LATCH_CHANGED | LATCH_FAULT | WINDOW_STOPPED | PINCH | WINDOW_FAULT
  | QUEUE_NEAR_FULL | CRASH | SEARCH_REQUEST | SEARCH_ENDED | ENTRY_ACCEPTED | PARAM_DEFAULTED
deriving DecidableEq, Repr

/-! ## Nonvolatile store (R177, R178) -/

/-- The contents of a fob slot item: status ACTIVE or EMPTY, identity and counter (R121, R177). -/
structure SlotRecord where
  active : Bool
  identity : BitVec 32
  counter : Nat
deriving DecidableEq, Repr

/-- A fob slot item with its check byte (R177). -/
structure StoredSlot extends SlotRecord where
  check : Byte
deriving DecidableEq, Repr

/-- A window profile item with its check byte (R177). -/
structure StoredProfile where
  profile : Profile
  check : Byte
deriving DecidableEq, Repr

/-- The parameter block with its check byte (R177). -/
structure StoredParams where
  values : Params
  check : Byte
deriving DecidableEq, Repr

/-- The thirteen items of the store (R177). -/
structure Store where
  params : StoredParams
  slots : Vector StoredSlot 8
  profiles : PerWin StoredProfile
deriving DecidableEq, Repr

/-- A write a port has requested and that waits (R178). -/
inductive PortWrite
  | enroll (slot : Fin 8) (identity : BitVec 32) (counter : Nat)
  | revoke (slot : Fin 8)
  | profile (w : Win)
  | params
deriving DecidableEq, Repr

/-- What a running write stores, taken from RAM when it began. -/
inductive Payload
  | commit (slot : Fin 8) (record : SlotRecord)
  | enroll (slot : Fin 8) (record : SlotRecord)
  | revoke (slot : Fin 8)
  | profile (w : Win) (p : Profile)
  | params (p : Params)
deriving DecidableEq, Repr

/-- The running write: its payload, whether a port requested it, whether its profile has changed since
it began (R83), and its timer. -/
structure Writing where
  payload : Payload
  byPort : Bool
  changed : Bool
  timer : Timer
deriving DecidableEq, Repr

/-- The Nonvolatile Store's work: the running write, the port-requested part of the write order, the
windows whose newly learned travel waits for a background write, and whether the parameter block failed its
check at its last load (R180). Waiting counter commits are the slots with commit pending (R121). -/
structure Writer where
  running : Option Writing
  portQueue : List PortWrite
  background : PerWin Bool
  paramsFailed : Bool
deriving DecidableEq, Repr

/-! ## The whole part -/

structure State where
  /-- commands that wait, first in first out -/
  pending : List Instr
  /-- the MODEL's own field: which of two things that arrive together is taken first -/
  schedule : List Nat
  /-- the MODEL's own field: an admission trigger has come in the event being handled (R96) -/
  attemptDue : Bool
  phase : Phase
  now : Time
  pins : Pins
  params : Params
  store : Store
  writer : Writer
  table : LockTable
  keyLock : Option Reading
  entry : Option EntryRecord
  relock : Option Timer
  strokes : List Stroke
  windows : PerWin Window
  /-- switches that are spent (R41) -/
  spent : PerSwitch Bool
  queue : List Job
  admitted : List Job
  nextId : Nat
  units : Nat
  nearFull : Bool
  slot : CrashSlot
  fobs : Vector FobSlot 8
  hold : Hold
  search : SearchUnit
  crash : CrashUnit
  ports : PerPort PortRec
deriving DecidableEq, Repr

/-- Why the part stops. No command of this part stops it: the manual gives every event an effect, so
this type has no reason. -/
inductive Fault
deriving DecidableEq, Repr

/-- Why a command has no meaning. -/
inductive Refusal
  /-- raised by an arm of exec whose command has no meaning yet (safe: no next state is claimed) -/
  | notModelled (mnemonic : String)
deriving DecidableEq, Repr

/-! ## Reset -/

def Reading.zero : Reading := ⟨0#32, false⟩

/-- A latch or child record after power-on with its contact at a valid position (R1, R2). -/
def ActRec.fresh (p : Position) : ActRec where
  state := p
  activity := .IDLE
  fault := .NONE
  attempts := 0
  strokes := 0
  decay := none
  invalidT := none
  wait := none

/-- A monitor record after power-on (R66). -/
def Monitor.fresh : Monitor where
  phase := .OFF
  blankingLength := 24
  edges := 0
  primed := false
  F := 0
  Fmin := 0
  c := 0
  clean := false
  scratch := Vector.replicate 32 ⟨0, 0⟩
  marked := false
  lastPinch := none

/-- A profile that is not known: L UNKNOWN and every R 0 (R82). -/
def Profile.unknown : Profile where
  L := none
  R := Vector.replicate 32 0

/-- A window record after power-on with its loaded profile (R39). -/
def Window.fresh (p : Profile) : Window where
  run := .IDLE
  mode := .MANUAL
  dir := .UP
  job := none
  cont := none
  normalized := false
  P := 0
  profile := p
  target := none
  commander := none
  H := 0
  held := false
  tally := 0
  fault := .NONE
  mon := Monitor.fresh
  stallT := none
  brakeT := none
  heatT := none
  coolT := none
  tallyT := none
  clearT := none
  revStart := 0
  revDistance := 0
  lastHall := none
  hasEdge := false

/-- An EMPTY fob slot (R111, R122). -/
def FobSlot.empty : FobSlot where
  status := .EMPTY
  identity := 0#32
  C := 0
  storedC := 0
  candidate := none
  rejects := 0
  acceptance := none
  commitPending := false

def Hold.closed : Hold where
  present := false
  isOpen := false
  slot := 0
  counter := 0
  port := .M
  start := Reading.zero
  lastFrame := Reading.zero
  started := false
  startT := none
  gapT := none

def SearchUnit.fresh : SearchUnit where
  current := none
  last := none
  nextTag := 1
  holdFL := none
  holdFR := none
  holdTG := none

def CrashSlot.closed : CrashSlot where
  isOpen := false
  pending := []
  stroking := []
  waiting := []

/-- The response slot after power-on: status NONE, code 0, data 0 (R162). -/
def Response.blank : Response := ⟨0#8, .NONE, 0#72⟩

/-- The cursor after power-on (R171). -/
def Cursor.fresh : Cursor := ⟨.FOB, .WFL, 0, .FORWARD⟩

/-- A port with a pending set and a mask, all else as after power-on (R162, R163, R171). -/
def PortRec.fresh (pending mask : BitVec 16) : PortRec where
  slot := Response.blank
  inFlight := none
  cursor := Cursor.fresh
  transfer := none
  pending := pending
  mask := mask

/-- The contents of an EMPTY slot (R124, log entry 25). -/
def SlotRecord.empty : SlotRecord := ⟨false, 0#32, 0⟩

def Writer.idle (failed : Bool) : Writer where
  running := none
  portQueue := []
  background := ⟨false, false, false, false⟩
  paramsFailed := failed

/-- DESIGN CHOICE (log entry 3): the store as it left the maker: every item passes its check, the
parameters hold their defaults, no fob is enrolled and no window's travel is known. The check byte of an item of
zeros is 255, and that of the defaults 68 (R177; Tests/Slice0.lean works them out). -/
def Store.factory : Store where
  params := ⟨Params.defaults, 68#8⟩
  slots := Vector.replicate 8 ⟨SlotRecord.empty, 255#8⟩
  profiles := ⟨⟨Profile.unknown, 255#8⟩, ⟨Profile.unknown, 255#8⟩, ⟨Profile.unknown, 255#8⟩,
    ⟨Profile.unknown, 255#8⟩⟩

/-- The state when the ports are enabled at power-on (the table of R181), with the input lines of
`Config.restPins` and the store `Store.factory`. -/
def State.reset : State where
  pending := []
  schedule := []
  attemptDue := false
  phase := .ACTIVE
  now := 0#32
  pins := Config.restPins
  params := Params.defaults
  store := Store.factory
  writer := Writer.idle false
  table :=
    { latches := ⟨.fresh .UNLOCKED, .fresh .UNLOCKED, .fresh .UNLOCKED, .fresh .UNLOCKED,
        .fresh .UNLOCKED⟩
      children := ⟨.fresh .RELEASED, .fresh .RELEASED⟩ }
  keyLock := none
  entry := none
  relock := none
  strokes := []
  windows := ⟨.fresh .unknown, .fresh .unknown, .fresh .unknown, .fresh .unknown⟩
  spent := ⟨⟨false, false, false, false⟩, false, false, false⟩
  queue := []
  admitted := []
  nextId := 1
  units := 0
  nearFull := false
  slot := CrashSlot.closed
  fobs := Vector.replicate 8 FobSlot.empty
  hold := Hold.closed
  search := SearchUnit.fresh
  crash := ⟨false, none, .INACTIVE, none, false, some ⟨0#32, 10000⟩⟩
  ports := ⟨PortRec.fresh 0x0001#16 0x0FFF#16, PortRec.fresh 0x0001#16 0x0181#16⟩

end Sys2Proof.Machine
end

