-- ==== Sys2Proof/Machine/Ops.lean ====
section
/-! DEFINITION. The shared operations on records: the running time and timers (R185), notices (R173),
access to the lock table, the windows, the fob slots and the ports, job numbers (R88) and the actuation
queue (R89, R90, R105). -/

namespace Sys2Proof.Machine

open Sys2Proof

/-! ## The spans of the manual, in ms -/

/-- A reading is marked expired at this age (R185). -/
def readingSpan : Nat := 120000
/-- R11, R14, R15: the span of a second turn or press. -/
def secondPressSpan : Nat := 3000
/-- R118: the span of a duplicate. -/
def duplicateSpan : Nat := 500
/-- R5. -/
def invalidSpan : Nat := 100
/-- R22: an ordinary retry wait and a crash retry wait. -/
def retryWaitSpan : Nat := 500
def crashWaitSpan : Nat := 200
/-- R24. -/
def decaySpan : Nat := 3000
def strokeLimit : Nat := 10
/-- R48, R49, R50. -/
def brakingSpan : Nat := 100
def stallSpan : Nat := 128
def coastSpan : Nat := 50
/-- R55, R56, R61. -/
def overcurrentClearSpan : Nat := 500
def heatingSpan : Nat := 100
def coolingSpan : Nat := 2000
def tallySpan : Nat := 10000
/-- R44, R58. -/
def undervoltage : Nat := 9000
/-- R89, R101, R105. -/
def queueCapacity : Nat := 16
def blockingAge : Nat := 2000
def nearFullMark : Nat := 14
/-- R117, R126, R136. -/
def candidateSpan : Nat := 10000
def gapSpan : Nat := 300
def holdOffSpan : Nat := 1500
/-- R149. -/
def qualificationSpan : Nat := 4
def quietSpan : Nat := 10000
/-- R177: the write times. -/
def slotWriteTime : Nat := 6
def blockWriteTime : Nat := 10

/-! ## The running time (R185) -/

/-- An age above every span the part tests, which an expired reading gives. -/
def expiredAge : Nat := 4294967296

/-- The age of a reading: the running time less the reading, modulo 2 to the 32 (R185). -/
def ageAt (now : Time) (r : Reading) : Nat :=
  if r.expired then expiredAge else (now - r.time).toNat

/-- How early a reading is against others: an expired one is earlier than any that is not, and among expired ones
the recorded times still tell which is the earlier (R89, R185; DEDUCED, log entry 41). -/
def seniority (now : Time) (r : Reading) : Nat :=
  (if r.expired then expiredAge else 0) + (now - r.time).toNat

/-- A span of time as a difference of readings. -/
def timeOf (ms : Nat) : Time := BitVec.ofNat 32 ms

def timerAge (now : Time) (t : Timer) : Nat := (now - t.start).toNat

/-- A timer is due when its age has reached its span. -/
def timerDue (now : Time) (t : Timer) : Bool := t.span ≤ timerAge now t

/-- The ms a running timer has left. -/
def timerLeft (now : Time) (t : Timer) : Nat := t.span - timerAge now t

def State.reading (s : State) : Reading := ⟨s.now, false⟩

def State.timer (s : State) (span : Nat) : Timer := ⟨s.now, span⟩

/-- A timer expires at the moment its age reaches its span: the running time is moved forward to that
moment where it has not reached it yet (log entry 5). -/
def advanceTo (t : Timer) (s : State) : State :=
  if timerDue s.now t then s else { s with now := t.start + timeOf t.span }

/-- The event of a timer's expiry: nothing where the timer does not run. -/
def expire (t : Option Timer) (event : State → State) (s : State) : State :=
  match t with
  | none => s
  | some t => event (advanceTo t s)

/-! ## Notices (R173) -/

/-- The bit of a kind in a kind set (R173). -/
def Notice.bit : Notice → BitVec 16
  | .RESTARTED => 0x0001#16
  | .LATCH_CHANGED => 0x0002#16
  | .LATCH_FAULT => 0x0004#16
  | .WINDOW_STOPPED => 0x0008#16
  | .PINCH => 0x0010#16
  | .WINDOW_FAULT => 0x0020#16
  | .QUEUE_NEAR_FULL => 0x0040#16
  | .CRASH => 0x0080#16
  | .SEARCH_REQUEST => 0x0100#16
  | .SEARCH_ENDED => 0x0200#16
  | .ENTRY_ACCEPTED => 0x0400#16
  | .PARAM_DEFAULTED => 0x0800#16

/-- The twelve kinds (R173). -/
def allKinds : BitVec 16 := 0x0FFF#16

def PortRec.notice (k : Notice) (p : PortRec) : PortRec := { p with pending := p.pending ||| k.bit }

/-- Raising a kind puts it into both pending sets, whatever the masks hold (R173). -/
def raise (k : Notice) (s : State) : State :=
  { s with ports := ⟨s.ports.m.notice k, s.ports.e.notice k⟩ }

/-! ## Access to the records -/

def State.port (s : State) (p : Port) : PortRec := s.ports.get p

def State.setPort (s : State) (p : Port) (r : PortRec) : State :=
  { s with ports := s.ports.set p r }

/-- The latch or child record of an actuator. -/
def State.act (s : State) : Act → ActRec
  | .latch l => s.table.latches.get l
  | .child c => s.table.children.get c

def State.setAct (s : State) (a : Act) (r : ActRec) : State :=
  match a with
  | .latch l => { s with table := { s.table with latches := s.table.latches.set l r } }
  | .child c => { s with table := { s.table with children := s.table.children.set c r } }

def State.win (s : State) (w : Win) : Window := s.windows.get w

def State.setWin (s : State) (w : Win) (r : Window) : State :=
  { s with windows := s.windows.set w r }

def State.fob (s : State) (i : Fin 8) : FobSlot := s.fobs[i]

def State.setFob (s : State) (i : Fin 8) (r : FobSlot) : State :=
  { s with fobs := s.fobs.set i r }

/-! ## Actuators -/

def isLatch : Act → Bool
  | .latch _ => true
  | .child _ => false

/-- The group an actuator belongs to (R25). -/
def groupOf : Act → Group
  | .latch .TG => .TAIL
  | .latch _ => .DOOR
  | .child _ => .TAIL

/-- The units of a stroke of the actuator: 2 for a latch, 1 for a child actuator (R27, R95). -/
def actUnits : Act → Nat
  | .latch _ => 2
  | .child _ => 1

def unitsOf (acts : List Act) : Nat := (acts.map actUnits).sum

/-- A set of latches in the order of the records, with one more member. -/
def addLatch (l : Latch) (set : List Latch) : List Latch :=
  Latch.all.filter (fun x => x = l ∨ x ∈ set)

def dropLatch (l : Latch) (set : List Latch) : List Latch := set.filter (· ≠ l)

/-! ## Jobs -/

def Job.goal? (j : Job) : Option Goal :=
  match j.targets with
  | .lock g _ => some g
  | .window _ => none

def Job.acts (j : Job) : List Act :=
  match j.targets with
  | .lock _ as => as
  | .window _ => []

def Job.task? (j : Job) : Option WindowTask :=
  match j.targets with
  | .lock _ _ => none
  | .window t => some t

def Job.names (j : Job) (a : Act) : Bool := j.acts.contains a

def Job.namesWindow (j : Job) (w : Win) : Bool :=
  match j.targets with
  | .lock _ _ => false
  | .window t => t.win = w

/-- The queued job that names an actuator. -/
def State.queuedFor (s : State) (a : Act) : Option Job := s.queue.find? (·.names a)

/-- The queued job that names a window. -/
def State.queuedWindow (s : State) (w : Win) : Option Job := s.queue.find? (·.namesWindow w)

/-- The reserved retry jobs (R22). -/
def State.reserved (s : State) : List Job :=
  Act.all.filterMap (fun a => match (s.act a).wait with | some x => x.job | none => none)

/-- The live jobs: queued, admitted and reserved (R87, R88). -/
def State.liveJobs (s : State) : List Job := s.queue ++ s.admitted ++ s.reserved

/-- The ids of live jobs (R88). -/
def State.liveIds (s : State) : List Nat := s.liveJobs.map (·.id)

/-- The counter's next value: from 255 to 1 and never to 0 (R88). -/
def succId (id : Nat) : Nat := if id < 255 then id + 1 else 1

/-- The first id from `id` on that no live job holds (R88). -/
def freeId (live : List Nat) : Nat → Nat → Nat
  | 0, id => id
  | fuel + 1, id => if live.contains id then freeId live fuel (succId id) else id

/-- The id that the next new job takes (R88). DESIGN CHOICE (log entry 46): an id that a live job holds is skipped when an
id is taken, not when the counter moves on. -/
def State.newId (s : State) : Nat := freeId s.liveIds 255 s.nextId

/-- Takes the next id (R88). -/
def State.tookId (s : State) : State := { s with nextId := succId s.newId }

/-! ## The actuation queue (R89, R90, R105) -/

/-- An admission trigger of R96: the attempt is made when the event has done its own work. -/
def trigger (s : State) : State := { s with attemptDue := true }

/-- Replaces the queue, and updates the near-full flag by the change of occupancy (R105). -/
def State.setQueue (s : State) (q : List Job) : State :=
  let t := { s with queue := q }
  if s.queue.length < q.length ∧ nearFullMark ≤ q.length ∧ s.nearFull = false then
    raise .QUEUE_NEAR_FULL { t with nearFull := true }
  else if q.length < s.queue.length ∧ q.length < nearFullMark ∧ s.nearFull = true then
    { t with nearFull := false }
  else t

/-- The place of a job by enqueue time: after every job whose enqueue time is not later (R89). -/
def insertByAge (now : Time) (j : Job) : List Job → List Job
  | [] => [j]
  | x :: xs =>
    if seniority now x.enqueued < seniority now j.enqueued then j :: x :: xs
    else x :: insertByAge now j xs

def State.queueFull (s : State) : Bool := queueCapacity ≤ s.queue.length

/-- A job enters the queue, blocking at once where its age has reached the blocking age (R89, R101).
The entry is an admission trigger (R96). -/
def enterQueue (j : Job) (s : State) : State :=
  let j := { j with blocking := j.blocking || decide (blockingAge ≤ ageAt s.now j.enqueued) }
  trigger (s.setQueue (insertByAge s.now j s.queue))

/-- A queued job leaves the queue by the admission scan. -/
def takeFromQueue (id : Nat) (s : State) : State := s.setQueue (s.queue.filter (·.id ≠ id))

/-- A queued job leaves the queue without admission: an admission trigger (R96). -/
def removeFromQueue (id : Nat) (s : State) : State := trigger (takeFromQueue id s)

/-- Changes the queued jobs of a kind in place. -/
def changeQueued (kind : Job → Bool) (f : Job → Job) (s : State) : State :=
  s.setQueue (s.queue.map (fun j => if kind j then f j else j))

/-- A job less one actuator; none when that was its last (R87). -/
def Job.without (a : Act) (j : Job) : Option Job :=
  match j.targets with
  | .lock g as =>
    if as.contains a then
      let rest := as.filter (· ≠ a)
      if rest.isEmpty then none else some { j with targets := .lock g rest }
    else some j
  | .window _ => some j

/-- Removes an actuator from the queued job that names it; a job left empty is deleted, which is an
admission trigger (R87, R91, R96). -/
def dropQueued (a : Act) (s : State) : State :=
  let q := s.queue.filterMap (Job.without a)
  let t := s.setQueue q
  if q.length < s.queue.length then trigger t else t

/-- Removes an admitted job's record. -/
def dropAdmitted (id : Nat) (s : State) : State :=
  { s with admitted := s.admitted.filter (·.id ≠ id) }

/-! ## Packing a response (R160) -/

/-- Bit fields from bit 0 upward, each a width and a value. -/
def packFields : List (Nat × Nat) → Nat
  | [] => 0
  | (w, v) :: fs => v % 2 ^ w + 2 ^ w * packFields fs

def packData (fs : List (Nat × Nat)) : BitVec 72 := BitVec.ofNat 72 (packFields fs)

/-- A field that is absent carries all ones in its width (R160). -/
def ones (w : Nat) : Nat := 2 ^ w - 1

def bit (b : Bool) : Nat := if b then 1 else 0

/-- An age or time in 16 bits, saturating (R106, R145, R169). -/
def sat16 (n : Nat) : Nat := min n 65535

/-- The answer a command gives: status and data (R164). -/
structure Answer where
  status : Status
  data : BitVec 72
deriving DecidableEq, Repr

def Answer.done : Answer := ⟨.DONE, 0#72⟩

def Answer.doneWith (fs : List (Nat × Nat)) : Answer := ⟨.DONE, packData fs⟩

/-- The reason codes of R164. -/
def Reason.code : Reason → Nat
  | .QUEUE_FULL => 0 | .DOOR_OPEN => 1 | .CRASH_ACTIVE => 2 | .RANK => 3 | .NOT_NORMALIZED => 4
  | .NOT_LEARNED => 5 | .THERMAL => 6 | .UNDERVOLTAGE => 7 | .DUPLICATE_IDENTITY => 8
  | .LINE_ACTIVE => 9 | .BUSY_ACTIVITY => 10 | .BAD_INDEX => 11

/-- The status codes of R164. -/
def Status.code : Status → Nat
  | .NONE => 0 | .DONE => 1 | .ACCEPTED => 2 | .IN_PROGRESS => 3 | .REFUSED => 4
  | .UNKNOWN_COMMAND => 5 | .NOT_PERMITTED => 6 | .CHECK_FAILED => 7 | .FRAME_ERROR => 8

def Answer.refused (r : Reason) : Answer := ⟨.REFUSED, packData [(4, r.code)]⟩

def Answer.accepted (id : Nat) : Answer := ⟨.ACCEPTED, packData [(8, id)]⟩

end Sys2Proof.Machine
end

