-- ==== Sys2Proof/Machine/Flags.lean ====
section
/-! DEFINITION. What the part derives and never stores: decoded contacts (R3), vehicle lock status (R7),
polarity in force and half-bridges (R25, R26), window terminals (R40), zones and the learned condition (R72,
R81), attention lines (R176), the check bytes of stored items (R177), and the order of the parameters with their
clamping (R179). -/

namespace Sys2Proof.Machine

open Sys2Proof

/-! ## Contacts (R3) -/

/-- The position decoded from a door's lock and dead contacts; none is INVALID (R3). -/
def decodeDoor (lock dead : Bool) : Option Position :=
  match lock, dead with
  | false, false => some .UNLOCKED
  | true, false => some .LOCKED
  | true, true => some .DEADLOCKED
  | false, true => none

def decodeTailgate (lock : Bool) : Option Position := some (if lock then .LOCKED else .UNLOCKED)

def decodeChild (engaged : Bool) : Option Position := some (if engaged then .ENGAGED else .RELEASED)

/-- The sensed position of an actuator; none is INVALID (R3). -/
def decodeContacts (p : Pins) : Act → Option Position
  | .latch l =>
    match l.door with
    | some d => decodeDoor (p.lock.get l) (p.dead.get d)
    | none => decodeTailgate (p.lock.get l)
  | .child c => decodeChild (p.engaged.get c)

def State.sensed (s : State) (a : Act) : Option Position := decodeContacts s.pins a

/-- A record follows its contacts while IDLE or QUEUED (R4). -/
def follows : Activity → Bool
  | .IDLE => true
  | .QUEUED => true
  | .STROKING => false
  | .RETRY_WAIT => false

/-- Any of the five ajar fields is OPEN (R6). -/
def State.anyAjar (s : State) : Bool := Latch.all.any (fun l => s.pins.ajarOpen.get l)

/-! ## Vehicle lock status (R7) -/

inductive VehicleStatus | ALL_UNLOCKED | PARTIAL | ALL_LOCKED | DEADLOCKED
deriving DecidableEq, Repr

/-- The vehicle lock status of five latch states (R7). -/
def lockStatus (v : PerLatch Position) : VehicleStatus :=
  if Latch.all.all (fun l => v.get l = .UNLOCKED) then .ALL_UNLOCKED
  else if Latch.doors.all (fun l => v.get l = .DEADLOCKED) ∧ v.tg = .LOCKED then .DEADLOCKED
  else if Latch.all.all (fun l => v.get l = .LOCKED ∨ v.get l = .DEADLOCKED) then .ALL_LOCKED
  else .PARTIAL

def State.vehicle (s : State) : VehicleStatus :=
  lockStatus ⟨(s.table.latches.fl).state, (s.table.latches.fr).state, (s.table.latches.rl).state,
    (s.table.latches.rr).state, (s.table.latches.tg).state⟩

/-! ## Stroke targets (R9, R26) -/

/-- The stroke target of an actuator under a job target (R9). -/
def strokeTarget (g : Goal) (a : Act) : Position :=
  match g with
  | .LOCK => .LOCKED
  | .DEADLOCK => if a = .latch .TG then .LOCKED else .DEADLOCKED
  | .UNLOCK => .UNLOCKED
  | .ENGAGE => .ENGAGED
  | .RELEASE => .RELEASED

/-- An actuator already at its stroke target is dropped at admission; a latch DEADLOCKED is dropped
from a LOCK job too (R9). -/
def atTarget (g : Goal) (a : Act) (p : Position) : Bool :=
  p = strokeTarget g a || (g = .LOCK && p = .DEADLOCKED)

/-- The polarity of a job target (R9, R26). -/
def goalPolarity : Goal → Polarity
  | .LOCK => .PLUS
  | .DEADLOCK => .PLUS
  | .UNLOCK => .MINUS
  | .ENGAGE => .PLUS
  | .RELEASE => .MINUS

/-- The duration of an actuator's stroke, from the parameters in force (R9, R29). -/
def strokeDuration (v : Params) (g : Goal) (a : Act) (p : Position) : Nat :=
  match g with
  | .DEADLOCK => if a = .latch .TG then v.strokeTime else v.deadlockStrokeTime
  | .UNLOCK => if p = .DEADLOCKED then v.deadlockStrokeTime else v.strokeTime
  | _ => v.strokeTime

/-- Whether two job targets count as the same for an actuator when a request meets a queued job (R91). -/
def sameGoal (g h : Goal) (a : Act) : Bool :=
  g = h || (a = .latch .TG && (g = .LOCK || g = .DEADLOCK) && (h = .LOCK || h = .DEADLOCK))

/-! ## Lock matrix (R25, R26) -/

/-- The polarity in force on a group: that of its running strokes, NONE without one (R26). -/
def State.polarity (s : State) (g : Group) : Polarity :=
  match s.strokes.find? (fun st => st.group = g) with
  | some st => st.polarity
  | none => .NONE

/-- A half-bridge's or terminal's condition (R25, R40). -/
inductive Drive | OFF | HIGH | LOW
deriving DecidableEq, Repr

/-- DC and TC: HIGH on PLUS, LOW on MINUS (R25). -/
def commonDrive : Polarity → Drive
  | .NONE => .OFF
  | .PLUS => .HIGH
  | .MINUS => .LOW

/-- Individual half-bridges: LOW on PLUS, HIGH on MINUS (R25). -/
def memberDrive : Polarity → Drive
  | .NONE => .OFF
  | .PLUS => .LOW
  | .MINUS => .HIGH

def Stroke.has (st : Stroke) (a : Act) : Bool := st.members.any (fun m => m.act = a)

/-- The running stroke an actuator is a member of. -/
def State.strokeOf (s : State) (a : Act) : Option Stroke := s.strokes.find? (·.has a)

/-- The common half-bridge of a group (R25). -/
def State.commonBridge (s : State) (g : Group) : Drive := commonDrive (s.polarity g)

/-- The individual half-bridge of an actuator (R25). -/
def State.bridge (s : State) (a : Act) : Drive :=
  match s.strokeOf a with
  | some st => memberDrive st.polarity
  | none => .OFF

/-- The group's overcurrent comparator (R34). -/
def overcurrentLine (p : Pins) : Group → Bool
  | .DOOR => p.ocDoor
  | .TAIL => p.ocTail

/-! ## Windows (R40, R44, R45) -/

/-- Terminals A and B of a window's H-bridge (R40). -/
def terminals (r : Window) : Drive × Drive :=
  match r.run with
  | .IDLE => (.OFF, .OFF)
  | .QUEUED => (.OFF, .OFF)
  | .RUNNING => match r.dir with
    | .UP => (.HIGH, .LOW)
    | .DOWN => (.LOW, .HIGH)
  | .REVERSING => (.LOW, .HIGH)
  | .BRAKING => (.LOW, .LOW)

/-- A window is driven while RUNNING or REVERSING (R40). -/
def driven : RunState → Bool
  | .RUNNING => true
  | .REVERSING => true
  | _ => false

/-- A window is busy under an admitted job while RUNNING, BRAKING or REVERSING (R95). -/
def busy : RunState → Bool
  | .IDLE => false
  | .QUEUED => false
  | _ => true

/-- A window BRAKING before a reversal (R59). -/
def Window.beforeReversal (r : Window) : Bool :=
  match r.cont with
  | some c => r.run = .BRAKING && c.reversal
  | none => false

/-- Who owns the window: in BRAKING the commander of the continuation or of a queued follow-up job
when one exists, otherwise that of the run (R45). -/
def State.owner (s : State) (w : Win) : Option Commander :=
  let r := s.win w
  if r.run = .BRAKING then
    match r.cont with
    | some c => some c.commander
    | none =>
      match (s.queuedWindow w).bind Job.task? with
      | some t => some t.commander
      | none => r.commander
  else r.commander

/-! ## Zones and the learned condition (R72, R81) -/

/-- The zone of a position: floor(P x 32 / L), limited to 31 (R72). -/
def zoneOf (P L : Nat) : Fin 32 := Fin.ofNat 32 (min (P * 32 / L) 31)

/-- The zone where a window's travel is known (R72). -/
def Window.zone (r : Window) : Option (Fin 32) := r.profile.L.map (fun L => zoneOf r.P L)

/-- L is known and every required zone, from that of SEAL_ZONE + 1 to 31, has R above 0 (R81). -/
def isLearned (sealZone : Nat) (p : Profile) : Bool :=
  match p.L with
  | none => false
  | some L =>
    (List.range 32).all (fun z => decide (z < (zoneOf (sealZone + 1) L).val) || decide (0 < p.R.toList.getD z 0))

def State.learned (s : State) (w : Win) : Bool := isLearned s.params.sealZone (s.win w).profile

/-! ## Attention (R176) -/

/-- An attention line is active exactly when the pending set and the mask have a kind in common; it is
inactive before the ports are enabled (R159, R176). -/
def State.attention (s : State) (p : Port) : Bool :=
  s.phase != .LOADING && ((s.port p).pending &&& (s.port p).mask) != 0#16

/-! ## Crash (R110, R154) -/

/-- A stroke the crash job watches: an ordinary UNLOCK stroke, which can run in an open slot only if it
ran at the launch (R154). -/
def Stroke.watched (st : Stroke) : Bool :=
  st.job.isSome && st.members.any (fun m => isLatch m.act && m.target = .UNLOCKED)

/-- The slot's three sets are empty and no watched stroke runs (R110). -/
def State.slotDone (s : State) : Bool :=
  s.slot.pending.isEmpty && s.slot.stroking.isEmpty && s.slot.waiting.isEmpty &&
    !(s.strokes.any Stroke.watched)

/-- A latch of the crash job: in pending, stroking or waiting (R107). -/
def CrashSlot.has (c : CrashSlot) (a : Act) : Bool :=
  match a with
  | .latch l => c.pending.contains l || c.stroking.contains l || c.waiting.contains l
  | .child _ => false

/-! ## Parameters (R179) -/

/-- A parameter's code (R179). -/
def paramOfCode : Nat → Option Param
  | 0 => some .DRIVE_BUDGET
  | 1 => some .STROKE_TIME
  | 2 => some .DEADLOCK_STROKE_TIME
  | 3 => some .SELECTIVE_UNLOCK
  | 4 => some .PASSIVE_UNLOCK_ALL
  | 5 => some .RELOCK_TIME
  | 6 => some .PINCH_THRESHOLD
  | 7 => some .REVERSE_DISTANCE
  | 8 => some .SEAL_ZONE
  | 9 => some .BLANKING
  | 10 => some .HEAT_LIMIT
  | 11 => some .COMFORT_HOLD_START
  | 12 => some .SEARCH_TIMEOUT
  | 13 => some .DRIVER_SIDE
  | _ => none

/-- The value of a parameter. -/
def paramGet (v : Params) : Param → Nat
  | .DRIVE_BUDGET => v.driveBudget
  | .STROKE_TIME => v.strokeTime
  | .DEADLOCK_STROKE_TIME => v.deadlockStrokeTime
  | .SELECTIVE_UNLOCK => v.selectiveUnlock
  | .PASSIVE_UNLOCK_ALL => v.passiveUnlockAll
  | .RELOCK_TIME => v.relockTime
  | .PINCH_THRESHOLD => v.pinchThreshold
  | .REVERSE_DISTANCE => v.reverseDistance
  | .SEAL_ZONE => v.sealZone
  | .BLANKING => v.blanking
  | .HEAT_LIMIT => v.heatLimit
  | .COMFORT_HOLD_START => v.comfortHoldStart
  | .SEARCH_TIMEOUT => v.searchTimeout
  | .DRIVER_SIDE => v.driverSide

def paramSet (v : Params) (p : Param) (x : Nat) : Params :=
  match p with
  | .DRIVE_BUDGET => { v with driveBudget := x }
  | .STROKE_TIME => { v with strokeTime := x }
  | .DEADLOCK_STROKE_TIME => { v with deadlockStrokeTime := x }
  | .SELECTIVE_UNLOCK => { v with selectiveUnlock := x }
  | .PASSIVE_UNLOCK_ALL => { v with passiveUnlockAll := x }
  | .RELOCK_TIME => { v with relockTime := x }
  | .PINCH_THRESHOLD => { v with pinchThreshold := x }
  | .REVERSE_DISTANCE => { v with reverseDistance := x }
  | .SEAL_ZONE => { v with sealZone := x }
  | .BLANKING => { v with blanking := x }
  | .HEAT_LIMIT => { v with heatLimit := x }
  | .COMFORT_HOLD_START => { v with comfortHoldStart := x }
  | .SEARCH_TIMEOUT => { v with searchTimeout := x }
  | .DRIVER_SIDE => { v with driverSide := x }

/-- A value clamped into a range (introduction, Conventions). -/
def clampTo (lo hi x : Nat) : Nat := max lo (min hi x)

/-- The clamping column of R179. -/
def paramClamp (p : Param) (x : Nat) : Nat :=
  match p with
  | .DRIVE_BUDGET => clampTo 10 16 x
  | .STROKE_TIME => clampTo 50 400 x / 10 * 10
  | .DEADLOCK_STROKE_TIME => clampTo 100 600 x / 10 * 10
  | .SELECTIVE_UNLOCK => min x 1
  | .PASSIVE_UNLOCK_ALL => min x 1
  | .RELOCK_TIME => if x = 0 then 0 else clampTo 10 120 x
  | .PINCH_THRESHOLD => clampTo 4 32 x
  | .REVERSE_DISTANCE => clampTo 100 600 x
  | .SEAL_ZONE => clampTo 4 40 x
  | .BLANKING => clampTo 8 48 x
  | .HEAT_LIMIT => clampTo 300 900 x
  | .COMFORT_HOLD_START => clampTo 500 3000 x
  | .SEARCH_TIMEOUT => clampTo 200 1000 x
  | .DRIVER_SIDE => min x 1

def allParams : List Param :=
  [.DRIVE_BUDGET, .STROKE_TIME, .DEADLOCK_STROKE_TIME, .SELECTIVE_UNLOCK, .PASSIVE_UNLOCK_ALL,
   .RELOCK_TIME, .PINCH_THRESHOLD, .REVERSE_DISTANCE, .SEAL_ZONE, .BLANKING, .HEAT_LIMIT,
   .COMFORT_HOLD_START, .SEARCH_TIMEOUT, .DRIVER_SIDE]

/-- Every value of a block clamped, as at the load (R181). -/
def paramsClamped (v : Params) : Params :=
  allParams.foldl (fun acc p => paramSet acc p (paramClamp p (paramGet v p))) v

/-! ## The items of the store and their check bytes (R177) -/

/-- The bytes of a fob slot item but its check: status, identity, counter. DESIGN CHOICE (log entry 29): the manual gives
the items no byte layout; each value has the bytes it has in a frame. -/
def slotBytes (r : SlotRecord) : List Byte :=
  [if r.active then 1#8 else 0#8] ++ identityBytes r.identity ++ counterBytes (BitVec.ofNat 24 r.counter)

/-- The bytes of a profile item but its check: L, 0 where it is UNKNOWN, then R[0..31] (log entry 29). -/
def profileBytes (p : Profile) : List Byte :=
  (p.L.getD 0 :: p.R.toList).flatMap (fun x => wordBytes (BitVec.ofNat 16 x))

/-- The bytes of the parameter block but its check, in code order (log entry 29). -/
def paramBytes (v : Params) : List Byte :=
  allParams.flatMap (fun p => wordBytes (BitVec.ofNat 16 (paramGet v p)))

/-- A written item carries a fresh check byte (R177). -/
def storedSlot (r : SlotRecord) : StoredSlot := ⟨r, checkByte (slotBytes r)⟩

def storedProfile (p : Profile) : StoredProfile := ⟨p, checkByte (profileBytes p)⟩

def storedParams (v : Params) : StoredParams := ⟨v, checkByte (paramBytes v)⟩

/-- The test of an item's check byte (R177, R181). -/
def StoredSlot.ok (x : StoredSlot) : Bool := x.check = checkByte (slotBytes x.toSlotRecord)

def StoredProfile.ok (x : StoredProfile) : Bool := x.check = checkByte (profileBytes x.profile)

def StoredParams.ok (x : StoredParams) : Bool := x.check = checkByte (paramBytes x.values)

/-- The block in force after a load: the stored values clamped, or the defaults where the check fails
(R181, R182). -/
def loadedParams (b : StoredParams) : Params :=
  if b.ok then paramsClamped b.values else Params.defaults

/-- The driver's latch (introduction): FL where DRIVER_SIDE is LEFT. -/
def driverLatch (v : Params) : Latch := if v.driverSide = 0 then .FL else .FR

/-- The other front window, which the front passenger's switch moves (R41). -/
def passengerWindow (v : Params) : Win := if v.driverSide = 0 then .WFR else .WFL

end Sys2Proof.Machine
end

