-- ==== Sys2Proof/Machine/Matrix.lean ====
section
/-! DEFINITION. The lock table and the strokes that move it (chapters 1 and 2): record changes with their
notices (R8), returns to following (R4, R5), retry waits and how queued jobs meet them (R22, R93), start, end
and cuts of strokes (R20, R21, R31 to R38). -/

namespace Sys2Proof.Machine

open Sys2Proof

/-! ## Record changes and their notices (R8) -/

/-- State takes a position; LATCH_CHANGED where that changes it (R8). -/
def setPosition (a : Act) (p : Position) (s : State) : State :=
  if (s.act a).state = p then s
  else raise .LATCH_CHANGED (s.setAct a { s.act a with state := p })

/-- Fault is set; LATCH_FAULT for NO_MOVE, SENSOR and OVERCURRENT, also where the fault held already (R8). -/
def setFault (a : Act) (f : LockFault) (s : State) : State :=
  let t := s.setAct a { s.act a with fault := f }
  if f = .NONE then t else raise .LATCH_FAULT t

def setAttempts (a : Act) (n : Nat) (s : State) : State :=
  s.setAct a { s.act a with attempts := n }

/-- Changes only what the drive path is doing with a record that follows before and after. -/
def setActivity (a : Act) (x : Activity) (s : State) : State :=
  s.setAct a { s.act a with activity := x }

/-- QUEUED where a queued job names the actuator, IDLE otherwise (R20, R37; log entry 12). -/
def restActivity (a : Act) (s : State) : Activity :=
  if s.queue.any (·.names a) then .QUEUED else .IDLE

/-- A record leaves STROKING or RETRY_WAIT and follows its contacts again (R4): state becomes sensed, kept
where that is INVALID, and an INVALID position then starts the 100 ms timer (R5). A retry wait ends with its
timer and its reserved job. DESIGN CHOICE (log entry 31): the fault is kept here, SENSOR as well. -/
def resumeAs (a : Act) (x : Activity) (s : State) : State :=
  let r := s.act a
  match s.sensed a with
  | some p => setPosition a p (s.setAct a { r with activity := x, wait := none, invalidT := none })
  | none => s.setAct a { r with activity := x, wait := none, invalidT := some (s.timer invalidSpan) }

/-- An actuator leaves every set of the crash slot. -/
def leaveSlot (a : Act) (s : State) : State :=
  match a with
  | .latch l =>
    { s with slot := { s.slot with
        pending := dropLatch l s.slot.pending
        stroking := dropLatch l s.slot.stroking
        waiting := dropLatch l s.slot.waiting } }
  | .child _ => s

/-- An actuator joins the crash slot's waiting set (R110). -/
def joinWaiting (a : Act) (s : State) : State :=
  match a with
  | .latch l =>
    { s with slot := { s.slot with
        pending := dropLatch l s.slot.pending
        stroking := dropLatch l s.slot.stroking
        waiting := addLatch l s.slot.waiting } }
  | .child _ => s

/-- The final failure (R20): the fault, state from sensed, attempts 0, IDLE or QUEUED, out of the slot. -/
def finalFailure (a : Act) (f : LockFault) (s : State) : State :=
  let s := leaveSlot a (setAttempts a 0 (setFault a f s))
  resumeAs a (restActivity a s) s

/-! ## The retry wait (R22, R23, R93) -/

/-- The stroke target a retry wait works toward: UNLOCKED for a crash retry wait (R22). -/
def waitTarget (a : Act) (x : RetryWait) : Position :=
  match x.job.bind Job.goal? with
  | some g => strokeTarget g a
  | none => .UNLOCKED

/-- A retry is abandoned: state from sensed, fault kept, attempts 0, the wait and its reserved job gone
(R23). -/
def abandonRetry (a : Act) (x : Activity) (s : State) : State :=
  resumeAs a x (leaveSlot a (setAttempts a 0 s))

/-- A queued job that names an actuator entering the retry wait loses it where the stroke targets are the
same, and abandons the retry otherwise (R93). -/
def meetQueued (a : Act) (s : State) : State :=
  match s.queuedFor a, (s.act a).wait with
  | some j, some x =>
    match j.goal? with
    | some g =>
      if strokeTarget g a = waitTarget a x then dropQueued a s else abandonRetry a .QUEUED s
    | none => s
  | _, _ => s

/-- The reserved retry job of an actuator: a fresh id, the actuator alone, the original target, origin
RETRY, the original priority and enqueue time (R22). -/
def retryJob (id : Nat) (a : Act) (g : Goal) (j : Job) : Job :=
  { j with
    id := id
    origin := .RETRY
    targets := .lock g [a]
    blocking := false
    shed := false
    cost := 0 }

/-- Enters an ordinary retry wait of 500 ms with its reserved job (R22). DESIGN CHOICE (log entry 32): it runs until a
contact changes or it expires, also where sensed is at the target already (R21). -/
def enterOrdinaryWait (a : Act) (f : LockFault) (g : Goal) (j : Job) (s : State) : State :=
  let id := s.newId
  let s := s.tookId
  let x : RetryWait := ⟨s.timer retryWaitSpan, f, some (retryJob id a g j)⟩
  meetQueued a (s.setAct a { s.act a with activity := .RETRY_WAIT, invalidT := none, wait := some x })

/-- Enters a crash retry wait of 200 ms, in the slot's waiting set and with no job (R22, R110). -/
def enterCrashWait (a : Act) (f : LockFault) (s : State) : State :=
  let x : RetryWait := ⟨s.timer crashWaitSpan, f, none⟩
  let s := s.setAct a { s.act a with activity := .RETRY_WAIT, invalidT := none, wait := some x }
  meetQueued a (joinWaiting a s)

/-- Whether a failed member of the stroke belongs to the crash job: of a crash stroke, or of an ordinary
UNLOCK stroke the open slot watches (R154). -/
def crashOwned (st : Stroke) (s : State) : Bool :=
  st.job.isNone || (s.slot.isOpen && st.watched)

/-- The attempt allowance at a stroke's end or overcurrent cut: 3 where the crash job owns or watches the
stroke, the stroke's own otherwise (R20, R27, R154). -/
def allowanceOf (st : Stroke) (s : State) : Nat :=
  if crashOwned st s then 3 else st.allowance

/-- A job whose target carries a member of a stroke to its stroke target (R9). -/
def Job.carries (m : Member) (j : Job) : Bool :=
  match j.goal? with
  | some g => strokeTarget g m.act = m.target
  | none => false

/-- The admitted job that drives a member of a stroke: the one the stroke names (R27, R87). -/
def drivingJob (st : Stroke) (m : Member) (s : State) : Option Job :=
  st.job.bind (fun id => s.admitted.find? (fun j => j.id = id && j.carries m))

/-- A failed attempt of a member: the retry wait below the allowance, the final failure at it (R20, R21). -/
def failAttempt (st : Stroke) (m : Member) (f : LockFault) (s : State) : State :=
  if (s.act m.act).attempts < allowanceOf st s then
    if crashOwned st s then enterCrashWait m.act f s
    else
      match drivingJob st m s with
      | some j =>
        match j.goal? with
        | some g => enterOrdinaryWait m.act f g j s
        | none => finalFailure m.act f s
      | none => finalFailure m.act f s
  else finalFailure m.act f s

/-! ## Start of a stroke (R20, R31) -/

/-- An actuator of an admitted job goes to STROKING; its attempts and stroke count go up by 1, and the
decay timer starts when the count rises from 0 (R20, R24). -/
def beginMember (a : Act) (s : State) : State :=
  let r := s.act a
  s.setAct a { r with
    activity := .STROKING
    attempts := min 3 (r.attempts + 1)
    strokes := min strokeLimit (r.strokes + 1)
    decay := if r.strokes = 0 then some (s.timer decaySpan) else r.decay
    invalidT := none
    wait := none }

/-- The member an actuator gives to a stroke: stroke target and duration of R9. -/
def memberOf (g : Goal) (s : State) (a : Act) : Member :=
  ⟨a, strokeTarget g a, strokeDuration s.params g a (s.act a).state⟩

/-- The stroke record a job gives a group (R27, R28, R29). -/
def strokeRecord (job : Option Nat) (grp : Group) (g : Goal) (allowance : Nat) (as : List Act)
    (s : State) : Stroke :=
  let ms := as.map (memberOf g s)
  { job := job
    group := grp
    polarity := goalPolarity g
    members := ms
    duration := ms.foldl (fun d m => max d m.duration) 0
    started := s.reading
    allowance := allowance
    units := unitsOf as }

/-- A stroke starts with its record, its units are held, and its members go to STROKING; no actuator gives
no stroke (R28, R31). -/
def startStroke (job : Option Nat) (grp : Group) (g : Goal) (allowance : Nat) (as : List Act)
    (s : State) : State :=
  if as.isEmpty then s
  else
    let st := strokeRecord job grp g allowance as s
    as.foldl (fun t a => beginMember a t)
      { s with strokes := s.strokes ++ [st], units := s.units + st.units }

/-! ## End of a stroke (R20, R32) -/

/-- A member whose stroke's time has run: a match, a retry wait or a final failure (R20). -/
def verifyMember (st : Stroke) (s : State) (m : Member) : State :=
  if s.sensed m.act = some m.target then
    let s := leaveSlot m.act (setAttempts m.act 0 (setFault m.act .NONE s))
    resumeAs m.act (restActivity m.act s) s
  else failAttempt st m .NO_MOVE s

/-- Removes an admitted job whose last stroke has ended or been cut (R100). -/
def settleJob (job : Option Nat) (s : State) : State :=
  match job with
  | none => s
  | some id => if s.strokes.any (fun st => st.job = some id) then s else dropAdmitted id s

/-- Removes one stroke record and returns its units (R32, R95). -/
def removeStroke (st : Stroke) (s : State) : State :=
  { s with strokes := s.strokes.erase st, units := s.units - st.units }

/-- A stroke's duration has expired: the record and its drives go, its members are verified, and its units
come back, which is an admission trigger (R32). DESIGN CHOICE (log entry 33): failed members take fresh job ids in
member order. DESIGN CHOICE (log entry 46): the id of the stroke's job is live until they have taken them. -/
def endStroke (st : Stroke) (s : State) : State :=
  let s := removeStroke st s
  trigger (settleJob st.job (st.members.foldl (verifyMember st) s))

/-! ## Cuts (R21, R34 to R38) -/

/-- A member of a stroke cut by overcurrent: fault OVERCURRENT, and the attempt has failed (R21). -/
def overcurrentMember (st : Stroke) (s : State) (m : Member) : State :=
  failAttempt st m .OVERCURRENT (setFault m.act .OVERCURRENT s)

/-- An overcurrent of a group cuts every running stroke of it at once; the cut is an admission trigger
(R34). DESIGN CHOICE (log entry 33): the failed members take fresh job ids stroke by stroke in the order of their
starts, and within a stroke in member order. DESIGN CHOICE (log entry 46): the ids of the cut jobs are live until they
have taken them. -/
def cutGroup (g : Group) (s : State) : State :=
  let cut := s.strokes.filter (fun st => st.group = g)
  if cut.isEmpty then s
  else
    let s := cut.foldl (fun t st => removeStroke st t) s
    let s := cut.foldl (fun t st => st.members.foldl (overcurrentMember st) t) s
    trigger (cut.foldl (fun t st => settleJob st.job t) s)

/-- A stroke that starts in a group whose comparator is already active is cut at once (R31, R34). -/
def checkOverload (g : Group) (s : State) : State :=
  if overcurrentLine s.pins g then cutGroup g s else s

/-- An actuator loses its stroke, wait or queued job with no fault: state from sensed, attempts 0 (R21,
R22). -/
def releaseAct (a : Act) (x : Activity) (s : State) : State :=
  resumeAs a x (setAttempts a 0 s)

/-- A latch cut by the crash leaves its job and is IDLE; a cut child actuator returns to the queue, or keeps the place
a later request gave it there (R21, R37). -/
def crashMember (s : State) (m : Member) : State :=
  releaseAct m.act (if isLatch m.act then .IDLE else restActivity m.act s) s

/-- The child members of a cut stroke return to the queue as one fresh job with the cut job's origin and
enqueue time, less those a queued job already names; in a full queue it is not created (R37). -/
def returnChildren (st : Stroke) (job : Option Job) (s : State) : State :=
  match job with
  | none => s
  | some j =>
    let back := (st.members.map (·.act)).filter (fun a => !isLatch a && !s.queue.any (·.names a))
    if back.isEmpty ∨ s.queueFull then s
    else
      let id := s.newId
      let new : Job :=
        { j with
          id := id
          targets := .lock .ENGAGE back
          priority := .USER
          blocking := false
          shed := false
          cost := 0 }
      let s := enterQueue new s.tookId
      back.foldl (fun t a => setActivity a .QUEUED t) s

/-- The crash cut of one PLUS stroke (R36). DESIGN CHOICE (log entry 46): the id of the cut job is live until the returned
job has taken its own (R37). -/
def crashCutStroke (s : State) (st : Stroke) : State :=
  let job := st.job.bind (fun id => s.admitted.find? (fun j => j.id = id))
  let s := st.members.foldl crashMember (removeStroke st s)
  trigger (settleJob st.job (returnChildren st job s))

/-- The crash cut: every running PLUS stroke of both groups (R36). DESIGN CHOICE (log entry 35): the strokes are taken
in the order of their starts, so the returned jobs are offered in that order (R37). -/
def crashCut (s : State) : State :=
  (s.strokes.filter (fun st => st.polarity = .PLUS)).foldl crashCutStroke s

end Sys2Proof.Machine
end

