-- ==== Sys2Proof/Machine/Pinch.lean ====
section
/-! DEFINITION. The Pinch Monitor (chapter 4): the normalized period and the filter (R70, R71), the two tests
(R73, R74), the monitored edge (R68, R69, R75, R78) and learning on a clean end (R79, R80). -/

namespace Sys2Proof.Machine

open Sys2Proof

/-- A quotient rounded toward zero (introduction, Conventions). -/
def truncDiv (a b : Int) : Int := Int.tdiv a b

/-- A value moved a quarter of the way toward another, the step rounded toward zero (R71, R80). -/
def quarterStep (x y : Nat) : Nat := ((x : Int) + truncDiv ((y : Int) - (x : Int)) 4).toNat

/-- The supply value the monitor uses: the sample clamped to 6000..18000 mV (R65). -/
def supplyValue (mv : Nat) : Nat := clampTo 6000 18000 mv

/-- The normalized period N = floor(T x V / 13500), saturating at 65535 (R70). -/
def normalizedPeriod (T V : Nat) : Nat := min (T * V / 13500) 65535

/-- The learned-reference test: F - R above floor(R x PINCH_THRESHOLD / 64) (R73). -/
def overLearned (threshold R F : Nat) : Bool := R + R * threshold / 64 < F

/-- The ratio test: F above Fmin + floor(Fmin / 2) (R74). -/
def overRatio (F Fmin : Nat) : Bool := Fmin + Fmin / 2 < F

def emptyScratch : Vector ZoneSum 32 := Vector.replicate 32 ⟨0, 0⟩

/-- Monitoring begins (R67, R71). DESIGN CHOICE (log entry 39): F and Fmin keep their numbers until the priming edge
sets them, which no read shows. -/
def beginMonitor (blanking : Nat) (clean : Bool) (m : Monitor) : Monitor :=
  { m with
    phase := .BLANKING
    blankingLength := blanking
    edges := 0
    primed := false
    c := 0
    scratch := emptyScratch
    clean := clean }

/-- Monitoring ends by a stop other than a pinch or the top, or by a take-over with mode FORCED: scratch
discarded, clean NO (R77). -/
def endMonitor (m : Monitor) : Monitor :=
  if m.phase = .OFF then m
  else { m with phase := .OFF, c := 0, clean := false, scratch := emptyScratch }

/-- The filter after one more normalized period (R71). -/
def filterEdge (N : Nat) (m : Monitor) : Monitor :=
  if m.primed then
    let F := quarterStep m.F N
    { m with F := F, Fmin := min m.Fmin F }
  else { m with F := N, Fmin := N, primed := true }

/-- N is added to the scratch sum of the zone and 1 to its count (R78). -/
def learnEdge (z : Fin 32) (N : Nat) (m : Monitor) : Monitor :=
  let x := m.scratch[z]
  { m with scratch := m.scratch.set z ⟨min (x.sum + N) 4294967295, min (x.count + 1) 65535⟩ }

/-- The reference a position is tested against: R of its zone, 0 while L is UNKNOWN (R72 to R74). -/
def referenceAt (p : Profile) (z : Option (Fin 32)) : Nat :=
  match z with
  | some z => p.R[z]
  | none => 0

/-- Whether the filtered edge is over: by the reference where it is above 0, by the ratio otherwise. -/
def edgeOver (threshold ref : Nat) (m : Monitor) : Bool :=
  if 0 < ref then overLearned threshold ref m.F else overRatio m.F m.Fmin

/-- A tested edge: normalized, filtered, learned where it has a zone, tested, and counted by the
persistence counter (R70 to R75, R78). -/
def testedEdge (v : Params) (p : Profile) (z : Option (Fin 32)) (N : Nat) (m : Monitor) : Monitor :=
  let m := filterEdge N m
  let m := match z with
    | some z => learnEdge z N m
    | none => m
  if edgeOver v.pinchThreshold (referenceAt p z) m then { m with c := m.c + 1 } else { m with c := 0 }

/-- A counted edge of a monitored run at position P with period T and supply sample mv (R68, R69, R70).
The pinch is declared when c reaches 2 (R75). -/
def monitorEdge (v : Params) (p : Profile) (P T mv : Nat) (m : Monitor) : Monitor :=
  let edges := min (m.edges + 1) 65535
  let m := { m with edges := edges }
  if m.phase = .BLANKING ∧ edges ≤ m.blankingLength then m
  else
    let m := { m with phase := .ACTIVE }
    if P ≤ v.sealZone then { m with c := 0 }
    else testedEdge v p (p.L.map (fun L => zoneOf P L)) (normalizedPeriod T (supplyValue mv)) m

/-- The persistence counter has reached 2 (R75). -/
def pinched (m : Monitor) : Bool := 2 ≤ m.c

/-- The last pinch record of a declaration by test (R75). -/
def testPinch (p : Profile) (P : Nat) (m : Monitor) : LastPinch :=
  let z := p.L.map (fun L => zoneOf P L)
  let ref := referenceAt p z
  { cause := .TEST
    position := P
    zone := z.map (·.val)
    test := if 0 < ref then .LEARNED else .RATIO
    F := m.F
    reference := ref
    Fmin := m.Fmin }

/-- The last pinch record of a declaration by stall; F, reference and Fmin are 0 where the filter is not
primed (R76). -/
def stallPinch (p : Profile) (P : Nat) (m : Monitor) : LastPinch :=
  let z := p.L.map (fun L => zoneOf P L)
  { cause := .STALL
    position := P
    zone := z.map (·.val)
    test := .NONE
    F := if m.primed then m.F else 0
    reference := if m.primed then referenceAt p z else 0
    Fmin := if m.primed then m.Fmin else 0 }

/-- The monitor record at a declaration: phase OFF, c 0, clean NO, scratch discarded (R75). -/
def declarePinch (x : LastPinch) (m : Monitor) : Monitor :=
  { m with
    phase := .OFF
    c := 0
    clean := false
    scratch := emptyScratch
    lastPinch := some x }

/-- A zone's new reference from its scratch pair: the mean where R is 0, a quarter step toward it where R is
above 0, R itself where nothing was learned (R80). -/
def learnedReference (R : Nat) (x : ZoneSum) : Nat :=
  if x.count = 0 then R
  else if R = 0 then x.sum / x.count
  else quarterStep R (x.sum / x.count)

/-- The references after a clean end (R80). -/
def learnedReferences (R : Vector Nat 32) (scratch : Vector ZoneSum 32) : Vector Nat 32 :=
  Vector.zipWith learnedReference R scratch

/-- A monitored run ends clean at the top where clean is YES and L is known (R79). -/
def endsClean (p : Profile) (m : Monitor) : Bool := m.phase != .OFF && m.clean && p.L.isSome

end Sys2Proof.Machine
end

