-- ==== Sys2Proof/Machine/Windows.lean ====
section
/-! DEFINITION. Window motion (chapter 3): requirements (R44), stops and starts of drive (R48, R49, R55), the
end of braking, counting (R50), end stops (R52, R53), the thermal hold (R57), pinch and reversal (R59, R60), and
what window events do to queued jobs (R94). -/

namespace Sys2Proof.Machine

open Sys2Proof

/-! ## Requirements (R44) -/

/-- How a request meets R44: it does, it fails on supply alone, or it fails on another requirement. -/
inductive Fit | FIT | SUPPLY | UNFIT
deriving DecidableEq, Repr

/-- The requirements other than supply, with the sensor supply in range (R44, R54). -/
def meetsHard (mode : RunMode) (dir : Dir) (target : Option Nat) (w : Win) (s : State) : Bool :=
  let r := s.win w
  let common := s.pins.sensorOk.get w && !r.held
  match mode, dir with
  | .MANUAL, _ => common
  | .FORCED, _ => common && r.normalized && !s.crash.latch
  | _, .UP => common && r.normalized && s.learned w && !s.crash.latch
  | _, .DOWN => common && r.normalized && (target.isNone || r.profile.L.isSome) && !s.crash.latch

/-- AUTO up, GOTO up and COMFORT need the supply sample at 9000 mV or more (R44). -/
def needsSupply (mode : RunMode) (dir : Dir) : Bool :=
  dir = .UP && (mode = .AUTO || mode = .COMFORT)

def lowSupply (s : State) : Bool := s.pins.supply < undervoltage

def fits (mode : RunMode) (dir : Dir) (target : Option Nat) (w : Win) (s : State) : Fit :=
  if meetsHard mode dir target w s then
    if needsSupply mode dir && lowSupply s then .SUPPLY else .FIT
  else .UNFIT

/-! ## Stops (R48) -/

/-- A driven window stops: BRAKING for 100 ms with a continuation or none. A monitored run's monitoring ends
(R77), a FORCED run's tally clears whatever stops it (R61, R62), and the heat model passes to cooling (R56). -/
def stopRecord (now : Time) (c : Option Continuation) (r : Window) : Window :=
  { r with
    run := .BRAKING
    cont := c
    stallT := none
    brakeT := some ⟨now, brakingSpan⟩
    heatT := none
    clearT := none
    coolT := if 0 < r.H then some ⟨now, coolingSpan⟩ else none
    tally := if r.mode = .FORCED then 0 else r.tally
    tallyT := if r.mode = .FORCED then none else r.tallyT
    mon := endMonitor r.mon }

def stopWindow (w : Win) (c : Option Continuation) (s : State) : State :=
  s.setWin w (stopRecord s.now c (s.win w))

/-- Drops the continuation of a BRAKING window. -/
def dropContinuation (w : Win) (s : State) : State :=
  s.setWin w { s.win w with cont := none }

def setWindowFault (w : Win) (f : WindowFault) (s : State) : State :=
  raise .WINDOW_FAULT (s.setWin w { s.win w with fault := f })

/-- Becoming IDLE clears commander, target and continuation; from any other run state it raises
WINDOW_STOPPED (R48). DESIGN CHOICE (log entry 44): an IDLE window keeps the mode of its last run or job. -/
def idleWindow (w : Win) (s : State) : State :=
  let r := s.win w
  let t := s.setWin w { r with
    run := .IDLE
    job := none
    cont := none
    target := none
    commander := none
    brakeT := none }
  if r.run = .IDLE then t else raise .WINDOW_STOPPED t

/-- A queued window job leaves without admission: its window becomes IDLE, or stays BRAKING (R94). -/
def removeWindowJob (w : Win) (s : State) : State :=
  match s.queuedWindow w with
  | none => s
  | some j =>
    let t := removeFromQueue j.id s
    if (t.win w).run = .QUEUED then idleWindow w t else t

/-! ## Starts (R49, R55, R59) -/

/-- A run upward on a normalized window that is not FORCED is monitored (R67). -/
def monitored (run : RunState) (mode : RunMode) (dir : Dir) (normalized : Bool) : Bool :=
  run = .RUNNING && dir = .UP && normalized && mode != .FORCED

/-- The window record as its drive starts: the stall, heating and fault-clearing timers run, and a
monitored run begins at the Pinch Monitor (R49, R55, R56, R67). -/
def driveRecord (now : Time) (blanking : Nat) (run : RunState) (mode : RunMode) (dir : Dir)
    (target : Option Nat) (cmd : Option Commander) (r : Window) : Window :=
  { r with
    run := run
    mode := mode
    dir := dir
    target := target
    commander := cmd
    cont := none
    brakeT := none
    stallT := some ⟨now, stallSpan⟩
    heatT := some ⟨now, heatingSpan⟩
    coolT := none
    clearT := some ⟨now, overcurrentClearSpan⟩
    mon := if monitored run mode dir r.normalized then beginMonitor blanking true r.mon else r.mon }

/-- A window overcurrent stops the window with fault OVERCURRENT (R55). -/
def overcurrentWindow (w : Win) (s : State) : State :=
  setWindowFault w .OVERCURRENT (stopWindow w none s)

/-- A window starts driving; one whose comparator is already active is stopped at its start (R55). -/
def startDrive (w : Win) (run : RunState) (mode : RunMode) (dir : Dir) (target : Option Nat)
    (cmd : Option Commander) (s : State) : State :=
  let t := s.setWin w (driveRecord s.now s.params.blanking run mode dir target cmd (s.win w))
  if s.pins.ocWin.get w then overcurrentWindow w t else t

/-- An admitted window job's run starts (R49, R100). -/
def startRun (t : WindowTask) (s : State) : State :=
  startDrive t.win .RUNNING t.mode t.dir t.target (some t.commander) s

/-- A reversal starts: its position is P as the braking leaves it, and REVERSE_DISTANCE is taken now
(R59, R60, R86). -/
def startReversal (w : Win) (c : Continuation) (s : State) : State :=
  let s := s.setWin w { s.win w with
    revStart := (s.win w).P
    revDistance := s.params.reverseDistance }
  startDrive w .REVERSING c.mode c.dir none (some c.commander) s

/-! ## The end of braking (R48) -/

/-- A job ends at the end of a braking: its record goes and its 4 units come back, which is an admission
trigger; the window is QUEUED under a follow-up job or IDLE (R48, R95). -/
def endBraking (w : Win) (s : State) : State :=
  let r := s.win w
  let s := match r.job with
    | some id => dropAdmitted id s
    | none => s
  let s := trigger { s with units := s.units - 4 }
  match s.queuedWindow w with
  | some j =>
    match j.task? with
    | some t =>
      s.setWin w { s.win w with
        run := .QUEUED
        job := some j.id
        mode := t.mode
        cont := none
        target := none
        commander := some t.commander
        brakeT := none }
    | none => idleWindow w s
  | none => idleWindow w s

/-- The braking timer has expired: the continuation, tested under R44 unless it is a reversal, or the end
of the job (R48). -/
def brakingOver (w : Win) (s : State) : State :=
  match (s.win w).cont with
  | some c =>
    if c.reversal then startReversal w c s
    else if fits c.mode c.dir c.target w s = .FIT then
      startDrive w .RUNNING c.mode c.dir c.target (some c.commander) s
    else endBraking w s
  | none => endBraking w s

/-! ## Pinch (R59) -/

/-- The continuation of a pinched run: AUTO down, no rank, the run's commander (R59). -/
def reversalOf (r : Window) : Continuation where
  mode := .AUTO
  dir := .DOWN
  target := none
  commander := ⟨(r.commander.map (·.origin)).getD .CRASH, 0⟩
  reversal := true

/-- A pinch is declared: the record, the stop with its reversal, the tally and PINCH (R59, R75). -/
def pinch (w : Win) (x : LastPinch) (s : State) : State :=
  let r := s.win w
  let s := stopWindow w (some (reversalOf r)) (s.setWin w { r with mon := declarePinch x r.mon })
  let r := s.win w
  raise .PINCH (s.setWin w { r with
    tally := min 3 (r.tally + 1)
    tallyT := some (s.timer tallySpan) })

/-! ## Counting (R50, R51, R60) -/

/-- The limit of P upward in number: L on a normalized window that knows it, 65535 otherwise (R50). -/
def positionLimit (r : Window) : Nat :=
  match r.profile.L with
  | some L => if r.normalized then L else 65535
  | none => 65535

/-- P after one counted edge (R50). -/
def countedPosition (r : Window) : Nat :=
  match r.dir with
  | .UP => r.P - 1
  | .DOWN => min (r.P + 1) (positionLimit r)

/-- An edge is counted while the window is driven, and for 50 ms from a stop (R50). -/
def counts (now : Time) (r : Window) : Bool :=
  driven r.run ||
    (r.run = .BRAKING && (match r.brakeT with
      | some t => decide (timerAge now t ≤ coastSpan)
      | none => false))

/-- A counted edge has brought P to the target of the run (R51). -/
def targetReached (r : Window) : Bool :=
  r.run = .RUNNING && (match r.target with
    | some t => match r.dir with
      | .UP => decide (r.P ≤ t)
      | .DOWN => decide (t ≤ r.P)
    | none => false)

/-- A counted edge has brought a reversal to its end (R60). -/
def reversalOver (r : Window) : Bool :=
  r.run = .REVERSING && (decide (r.revStart + r.revDistance ≤ r.P) || (match r.profile.L with
    | some L => decide (L ≤ r.P)
    | none => false))

/-- The stop at a target, which is then cleared (R51). -/
def stopAtTarget (w : Win) (s : State) : State :=
  let t := stopWindow w none s
  t.setWin w { t.win w with target := none }

/-- The head of the schedule, which says whether the second of two things that arrive together is taken
first (log entry 7). -/
def State.secondFirst (s : State) : Bool := s.schedule.headD 0 % 2 = 1

def State.tookChoice (s : State) : State := { s with schedule := s.schedule.tail }

/-- What a counted edge of a driven window leads to, after its count: the monitor, the target or the end of
a reversal. Where one edge both completes a pinch and reaches the target, the two arrive together and the
schedule says which is taken first (R75). -/
def edgeEffects (w : Win) (T : Nat) (s : State) : State :=
  let r := s.win w
  if r.run = .RUNNING ∧ r.mon.phase ≠ .OFF then
    let m := monitorEdge s.params r.profile r.P T s.pins.supply r.mon
    if pinched m then
      let declared := pinch w (testPinch r.profile r.P m) (s.setWin w { r with mon := m })
      if targetReached r then
        if s.secondFirst then stopAtTarget w s.tookChoice else declared.tookChoice
      else declared
    else
      let t := s.setWin w { r with mon := m }
      if targetReached r then stopAtTarget w t else t
  else if targetReached r then stopAtTarget w s
  else if reversalOver r then stopWindow w none s
  else s

/-- The period of a qualified edge: 65535 for the first after power-on, saturating (R64). -/
def edgePeriod (r : Window) (since : Nat) : Nat := if r.hasEdge then min since 65535 else 65535

/-- The qualification of a level change, its 20 us past: sensor supply in range, the other input from the
previous qualified edge, and at least 100 us after it (R63). -/
def qualifies (s : State) (w : Win) (h : HallInput) (since : Nat) : Bool :=
  let r := s.win w
  s.pins.sensorOk.get w && r.lastHall != some h && (!r.hasEdge || decide (100 ≤ since))

/-- A qualified Hall edge (R50, R64). -/
def qualifiedEdge (w : Win) (h : HallInput) (since : Nat) (s : State) : State :=
  let r := s.win w
  let T := edgePeriod r since
  let r := { r with lastHall := some h, hasEdge := true }
  if counts s.now r then
    let r := { r with
      P := countedPosition r
      stallT := if driven r.run then some (s.timer stallSpan) else r.stallT }
    edgeEffects w T (s.setWin w r)
  else s.setWin w r

/-! ## Marked profiles (R80, R83) -/

/-- A window's profile changes: marked YES, and a running write of it has an old profile (R83). -/
def markProfile (w : Win) (s : State) : State :=
  let s := s.setWin w { s.win w with mon := { (s.win w).mon with marked := true } }
  match s.writer.running with
  | some x =>
    match x.payload with
    | .profile v _ =>
      if v = w then { s with writer := { s.writer with running := some { x with changed := true } } }
      else s
    | _ => s
  | none => s

/-- A background write of a newly learned travel is asked for; a profile that already waits in the
port-requested part stays there (R83, R178). -/
def askBackground (w : Win) (s : State) : State :=
  if s.writer.portQueue.contains (.profile w) then s
  else { s with writer := { s.writer with background := s.writer.background.set w true } }

/-! ## End stops (R52, R53) -/

/-- A STALL fault clears at an accepted top or bottom (R52, R53). -/
def clearStall (f : WindowFault) : WindowFault := if f = .STALL then .NONE else f

/-- Learning at the top (R79, R80): the references change on a clean end, which marks the profile where one
of them has changed; the monitor record is then OFF with its scratch cleared (R77). -/
def learnAtTop (w : Win) (s : State) : State :=
  let r := s.win w
  let R := learnedReferences r.profile.R r.mon.scratch
  let off := { r.mon with phase := MonitorPhase.OFF, c := 0, scratch := emptyScratch }
  if endsClean r.profile r.mon ∧ R ≠ r.profile.R then
    markProfile w (s.setWin w { r with profile := { r.profile with R := R }, mon := off })
  else s.setWin w { r with mon := if r.mon.phase = .OFF then r.mon else off }

/-- An upward stall within the seal zone of a normalized window, or on an unnormalized one: the top (R52). -/
def topReached (w : Win) (s : State) : State :=
  let s := learnAtTop w s
  let r := s.win w
  let was := r.normalized
  stopWindow w none (s.setWin w { r with
    P := 0
    normalized := true
    fault := clearStall r.fault
    tally := if was then 0 else r.tally
    tallyT := if was then none else r.tallyT })

/-- A stall that is a fault (R52, R53). -/
def stallFault (w : Win) (s : State) : State := setWindowFault w .STALL (stopWindow w none s)

/-- An upward stall (R52, R76). -/
def stallUp (w : Win) (s : State) : State :=
  let r := s.win w
  if r.normalized = false ∨ r.P ≤ s.params.sealZone then topReached w s
  else if r.mode = .FORCED then stallFault w s
  else pinch w (stallPinch r.profile r.P r.mon) s

/-- A bottom that is accepted (R53). -/
def bottomReached (w : Win) (L : Nat) (s : State) : State :=
  let r := s.win w
  stopWindow w none (s.setWin w { r with P := L, fault := clearStall r.fault })

/-- A travel is learned at a bottom: L becomes P, the profile is marked and its write is asked for (R53,
R83). -/
def learnTravel (w : Win) (s : State) : State :=
  let r := s.win w
  let s := askBackground w (markProfile w (s.setWin w { r with
    profile := { r.profile with L := some r.P }
    fault := clearStall r.fault }))
  stopWindow w none s

/-- A downward stall (R53). -/
def stallDown (w : Win) (s : State) : State :=
  let r := s.win w
  if r.normalized = false then stopWindow w none s
  else
    match r.profile.L with
    | none => if 300 ≤ r.P then learnTravel w s else stallFault w s
    | some L => if L - L / 8 ≤ r.P then bottomReached w L s else stallFault w s

/-- A driven window has produced no counted edge for 128 ms (R52, R53). -/
def stallWindow (w : Win) (s : State) : State :=
  let r := s.win w
  if driven r.run then
    match r.dir with
    | .UP => stallUp w s
    | .DOWN => stallDown w s
  else s

/-! ## Heat (R56, R57) -/

/-- The thermal hold is set: THERMAL, the run stops, a non-reversal continuation is dropped and the queued
job is removed; a reversal goes on (R57). -/
def thermalHold (w : Win) (s : State) : State :=
  let s := setWindowFault w .THERMAL (s.setWin w { s.win w with held := true })
  let r := s.win w
  let s :=
    if r.run = .RUNNING then stopWindow w none s
    else if r.run = .BRAKING ∧ r.beforeReversal = false then dropContinuation w s
    else s
  removeWindowJob w s

/-- The thermal hold is cleared: an admission trigger (R57). -/
def thermalClear (w : Win) (s : State) : State :=
  let r := s.win w
  trigger (s.setWin w { r with
    held := false
    fault := if r.fault = .THERMAL then .NONE else r.fault })

/-- Every change of H and of HEAT_LIMIT is tested for the hold (R56, R57). -/
def testHold (w : Win) (s : State) : State :=
  let r := s.win w
  if r.held = false ∧ s.params.heatLimit ≤ r.H then thermalHold w s
  else if r.held = true ∧ r.H + 150 ≤ s.params.heatLimit then thermalClear w s
  else s

/-! ## Stops of many windows -/

/-- A window's run stops and a braking loses its continuation, reversals included (R39, R153). -/
def haltWindow (w : Win) (s : State) : State :=
  let r := s.win w
  if driven r.run then stopWindow w none s
  else if r.run = .BRAKING then dropContinuation w s
  else s

/-- Every window stops at a crash or RESTART; what these two keep of a window, its tally among it, the stop itself does
not touch (R39, R153, R182). DEDUCED (log entry 38): the end of a FORCED run is the one exception, since its stop clears
the tally whatever its cause (R61, R62), a crash and RESTART among the causes (R48). -/
def haltAllWindows (s : State) : State := Win.all.foldl (fun t w => haltWindow w t) s

def removeAllWindowJobs (s : State) : State := Win.all.foldl (fun t w => removeWindowJob w t) s

/-- Undervoltage stops the RUNNING upward AUTO and COMFORT runs (R58). -/
def undervoltageStop (w : Win) (s : State) : State :=
  let r := s.win w
  if r.run = .RUNNING ∧ needsSupply r.mode r.dir = true then stopWindow w none s else s

end Sys2Proof.Machine
end

