-- ==== Sys2Proof/Machine/Scheduler.lean ====
section
/-! DEFINITION. The Drive Scheduler (chapter 5): the conditions of admission (R98, R99), admission (R100), the
scan (R97), shedding (R102, R103), the crash slot's service (R109, R110), the admission attempt (R96), and the
forming of latch, child and window jobs (R9, R23, R45, R90 to R94). -/

namespace Sys2Proof.Machine

open Sys2Proof

/-! ## Latch and child jobs (R9, R28, R30, R98) -/

/-- The actuators that remain after the drops of R9: those not at their stroke target, and every member of
a running stroke, which waits behind it (R92; DESIGN CHOICE, log entry 11). -/
def remaining (g : Goal) (as : List Act) (s : State) : List Act :=
  as.filter (fun a => !(atTarget g a (s.act a).state) || (s.strokeOf a).isSome)

def ofGroup (grp : Group) (as : List Act) : List Act := as.filter (fun a => groupOf a = grp)

/-- The polarity condition of R30 for the stroke a job gives a group. -/
def polarityFree (grp : Group) (g : Goal) (as : List Act) (s : State) : Bool :=
  (ofGroup grp as).isEmpty || s.polarity grp = .NONE || s.polarity grp = goalPolarity g

/-- The membership condition of R30. -/
def membersFree (as : List Act) (s : State) : Bool := as.all (fun a => (s.strokeOf a).isNone)

/-- The matrix and limiter conditions of R98; the limiter tests every actuator the job names. -/
def matrixFree (g : Goal) (named rem : List Act) (s : State) : Bool :=
  polarityFree .DOOR g rem s && polarityFree .TAIL g rem s && membersFree rem s &&
    named.all (fun a => decide ((s.act a).strokes < strokeLimit))

/-- The units condition: a job of cost 0 holds no units and always meets it (R98, R104). -/
def unitsFree (cost : Nat) (s : State) : Bool :=
  cost = 0 || decide (s.units + cost ≤ s.params.driveBudget)

/-- An actuator dropped at admission returns to IDLE with attempts 0 (R9, R109). -/
def dropAct (a : Act) (s : State) : State := setActivity a .IDLE (setAttempts a 0 s)

/-- The admission of a latch or child job with the actuators that remain (R28, R100). A comparator that
is already active cuts the stroke at its start (R34). DESIGN CHOICE (log entry 43): where both comparators are active,
the door group is cut first. -/
def admitLock (j : Job) (g : Goal) (as rem : List Act) (s : State) : State :=
  let s := takeFromQueue j.id s
  let s := (as.filter (fun a => !rem.contains a)).foldl (fun t a => dropAct a t) s
  if rem.isEmpty then s
  else
    let s := { s with admitted := s.admitted ++ [{ j with cost := unitsOf rem }] }
    let s := startStroke (some j.id) .DOOR g 2 (ofGroup .DOOR rem) s
    let s := startStroke (some j.id) .TAIL g 2 (ofGroup .TAIL rem) s
    checkOverload .TAIL (checkOverload .DOOR s)

/-! ## Window jobs (R46, R99) -/

/-- The direction of a queued GOTO job, worked out from its target and the P of the moment (R46, R99). DESIGN CHOICE (log
entry 49): a job whose target equals P is tested as one that goes down. -/
def taskDir (t : WindowTask) (s : State) : Dir :=
  match t.target with
  | some x => if x < (s.win t.win).P then .UP else .DOWN
  | none => t.dir

/-- A GOTO job whose target equals P completes at admission (R46, R95). -/
def atGoal (t : WindowTask) (s : State) : Bool := t.target = some (s.win t.win).P

/-- A window job leaves the queue by its own admission test; its window becomes IDLE, or stays BRAKING
(R99). -/
def rejectWindowJob (j : Job) (w : Win) (s : State) : State :=
  let t := takeFromQueue j.id s
  if (t.win w).run = .QUEUED then idleWindow w t else t

/-- The admission of a window job: 4 units, and its run starts (R49, R100). -/
def admitWindow (j : Job) (t : WindowTask) (s : State) : State :=
  let s := takeFromQueue j.id s
  let s := { s with admitted := s.admitted ++ [{ j with cost := 4 }], units := s.units + 4 }
  startRun { t with dir := taskDir t s } (s.setWin t.win { s.win t.win with job := some j.id })

/-! ## Shedding (R102, R103) -/

/-- The units already being returned: 4 for each window BRAKING with no continuation (R102). -/
def returning (s : State) : Nat :=
  4 * (Win.all.filter (fun w => (s.win w).run = .BRAKING && (s.win w).cont.isNone)).length

/-- The windows RUNNING in mode COMFORT, youngest first by the admission of their jobs (R102). -/
def comfortRuns (s : State) : List Win :=
  s.admitted.reverse.filterMap (fun j => match j.task? with
    | some t =>
      if (s.win t.win).run = .RUNNING ∧ (s.win t.win).mode = .COMFORT ∧ (s.win t.win).job = some j.id
      then some t.win else none
    | none => none)

/-- A shed window whose hold is still open is re-queued as a new COMFORT follow-up job; not in a full queue
(R103). DESIGN CHOICE (log entry 48): the new job's origin is that of the shed run's commander. -/
def requeueComfort (w : Win) (cmd : Commander) (s : State) : State :=
  if s.hold.isOpen = false ∨ s.queueFull = true then s
  else
    let id := s.newId
    enterQueue
      { id := id
        origin := cmd.origin
        targets := .window ⟨w, .COMFORT, .UP, none, cmd⟩
        priority := .COMFORT
        enqueued := s.reading
        blocking := false
        shed := false
        cost := 0 }
      s.tookId

/-- Stops one COMFORT run for a shed (R102). -/
def shedWindow (w : Win) (s : State) : State :=
  let cmd := (s.win w).commander
  let s := stopWindow w none s
  match cmd with
  | some c => requeueComfort w c s
  | none => s

/-- Stops COMFORT runs until `need` units are covered or none is left (R102). -/
def shedRuns : List Win → Nat → Nat → State → State
  | [], _, _, s => s
  | w :: ws, covered, need, s =>
    if need ≤ covered then s else shedRuns ws (covered + 4) need (shedWindow w s)

/-- The shed test of the first job that fails in a scan (R102). -/
def shedFor (j : Job) (cost : Nat) (s : State) : State :=
  let need := s.units + cost - s.params.driveBudget
  if j.shed ∨ need ≤ returning s then s
  else
    match comfortRuns s with
    | [] => s
    | w :: ws =>
      changeQueued (fun x => x.id = j.id) (fun x => { x with shed := true }) (shedRuns (w :: ws) (returning s) need s)

/-! ## The admission scan (R97) -/

/-- The outcome of a visit: the job has left the queue, or it stays; a latch or child job that fails on
units alone tells its cost. -/
inductive Visit
  | passed (s : State)
  | failed (unitsAlone : Option Nat)

def visitLock (j : Job) (g : Goal) (as : List Act) (s : State) : Visit :=
  let rem := remaining g as s
  if matrixFree g as rem s then
    if unitsFree (unitsOf rem) s then .passed (admitLock j g as rem s)
    else .failed (some (unitsOf rem))
  else .failed none

/-- A visit to a window job (R99). DESIGN CHOICE (log entry 47): the direction of a GOTO job worked out here is used for
this visit and fixed at the admission; a job that stays queued keeps the direction it was requested with. -/
def visitWindow (j : Job) (t : WindowTask) (s : State) : Visit :=
  match fits t.mode (taskDir t s) t.target t.win s with
  | .UNFIT => .passed (rejectWindowJob j t.win s)
  | .SUPPLY => .failed none
  | .FIT =>
    if busy (s.win t.win).run then .failed none
    else if atGoal t s then .passed (rejectWindowJob j t.win s)
    else if unitsFree 4 s then .passed (admitWindow j t s)
    else .failed none

def visit (j : Job) (s : State) : Visit :=
  match j.targets with
  | .lock g as => visitLock j g as s
  | .window t => visitWindow j t s

/-- One scan over job ids in scan order; `failedBefore` says whether a job has failed in it already (R97,
R102). -/
def scanJobs : List Nat → Bool → State → State
  | [], _, s => s
  | id :: ids, failedBefore, s =>
    match s.queue.find? (fun j => j.id = id) with
    | none => scanJobs ids failedBefore s
    | some j =>
      match visit j s with
      | .passed s => scanJobs ids failedBefore s
      | .failed unitsAlone =>
        let t := match failedBefore, unitsAlone with
          | false, some cost => shedFor j cost s
          | _, _ => s
        if j.blocking then t else scanJobs ids true t

/-- Scan order: every USER job in queue order, then every COMFORT job (R97). -/
def scanOrder (q : List Job) : List Nat :=
  ((q.filter (fun j => j.priority = .USER)) ++ (q.filter (fun j => j.priority = .COMFORT))).map (·.id)

def scanQueue (s : State) : State := scanJobs (scanOrder s.queue) false s

/-! ## The crash slot (R109, R110) -/

/-- A pending latch that is UNLOCKED already leaves the slot (R109). -/
def dropPending (l : Latch) (s : State) : State :=
  if l ∈ s.slot.pending ∧ (s.act (.latch l)).state = .UNLOCKED then
    dropAct (.latch l) { s with slot := { s.slot with pending := dropLatch l s.slot.pending } }
  else s

/-- A group's pending latches are admitted in one crash stroke where the group runs none, the units suffice
and R30 holds (R109). No half-bridge is driven in standby, so none is admitted there (R184; DEDUCED, log entry 13). -/
def serveGroup (grp : Group) (s : State) : State :=
  let ls := s.slot.pending.filter (fun l => groupOf (.latch l) = grp)
  let as := ls.map Act.latch
  let runs := s.strokes.any (fun st => st.job.isNone && st.group = grp)
  if s.phase = .STANDBY || ls.isEmpty || runs || !(unitsFree (unitsOf as) s) || !(polarityFree grp .UNLOCK as s) ||
      !(membersFree as s) then s
  else
    let s := startStroke none grp .UNLOCK 3 as s
    checkOverload grp { s with slot := { s.slot with
      pending := s.slot.pending.filter (fun l => !ls.contains l)
      stroking := Latch.all.filter (fun l => s.slot.stroking.contains l || ls.contains l) } }

/-- One service of the open slot: the door group first (R109). -/
def serveSlot (s : State) : State :=
  let s := Latch.all.foldl (fun t l => dropPending l t) s
  serveGroup .TAIL (serveGroup .DOOR s)

def closeSlot (s : State) : State := { s with slot := { s.slot with isOpen := false } }

/-- An admission attempt: the open slot is served, and the queue is scanned only when the slot is closed
(R96, R109, R110). -/
def attempt (s : State) : State :=
  if s.slot.isOpen then
    let s := serveSlot s
    if s.slotDone then scanQueue (closeSlot s) else s
  else scanQueue s

/-- The triggers that have come are taken up by the attempt that follows. -/
def takeTriggers (s : State) : State := { s with attemptDue := false }

/-- Attempts while a trigger has come: one for the event, and one more where the attempt itself was a
trigger (R96). -/
def settleFuel : Nat → State → State
  | 0, s => takeTriggers s
  | n + 1, s => if s.attemptDue then settleFuel n (attempt (takeTriggers s)) else s

/-- The close of the open crash slot whose sets have emptied is an admission trigger (R96, R110). -/
def closeDue (s : State) : State := if s.slot.isOpen && s.slotDone then trigger s else s

/-- The admission attempt an event makes after its own work (R96). -/
def settle (s : State) : State := settleFuel 64 (closeDue s)

/-! ## Forming latch and child jobs (R9, R23, R90 to R92) -/

/-- A request being formed: what remains of its actuators, and the jobs that absorbed the others, each
with the seniority of its enqueue time. -/
structure Forming where
  state : State
  rest : List Act
  absorbed : List (Nat × Nat)

/-- A request meets an actuator's retry wait (R23). The crash job has id 0 and is passed over when the
oldest absorbing job is chosen. -/
def meetWait (g : Goal) (f : Forming) (a : Act) : Forming :=
  match (f.state.act a).wait with
  | some x =>
    if strokeTarget g a = waitTarget a x then
      match x.job with
      | some j => { f with absorbed := f.absorbed ++ [(j.id, seniority f.state.now j.enqueued)] }
      | none => f
    else { f with state := abandonRetry a .IDLE f.state, rest := f.rest ++ [a] }
  | none => { f with rest := f.rest ++ [a] }

/-- A request meets the queued job that names an actuator (R91). -/
def meetJob (g : Goal) (f : Forming) (a : Act) : Forming :=
  match f.state.queuedFor a with
  | some j =>
    if (match j.goal? with | some h => sameGoal g h a | none => false) then
      { f with absorbed := f.absorbed ++ [(j.id, seniority f.state.now j.enqueued)] }
    else { f with state := dropQueued a f.state, rest := f.rest ++ [a] }
  | none => { f with rest := f.rest ++ [a] }

/-- The id of the oldest absorbing job by enqueue time; 0 where the crash job alone absorbed (R23, R92). DESIGN
CHOICE (log entry 34): of several with one enqueue time, the first met answers. -/
def oldestAbsorber : List (Nat × Nat) → Nat
  | [] => 0
  | x :: xs => (xs.foldl (fun best y => if best.2 < y.2 then y else best) x).1

/-- The scheduler's answer to a request: a job id, or a full queue (R90, R92). -/
inductive Taken
  | job (id : Nat)
  | full
deriving DecidableEq, Repr

/-- An actuator taken into a job is QUEUED with attempts 0 (R9); one that strokes reads STROKING on (R92). -/
def queueAct (a : Act) (s : State) : State :=
  if (s.act a).activity = .STROKING then setAttempts a 0 s else setActivity a .QUEUED (setAttempts a 0 s)

/-- An actuator that merging took from an older job and the full queue keeps out of the new one is IDLE with attempts
0, as one whose retry was abandoned (R23, R90). A latch that the crash job holds stays with it (R154). -/
def keepOut (a : Act) (s : State) : State :=
  if (s.act a).activity = .QUEUED ∧ s.slot.has a = false then dropAct a s else s

/-- The actuators that need a new job after R23 and R91. -/
def mergeRequest (g : Goal) (as : List Act) (s : State) : Forming :=
  let f := as.foldl (meetWait g) ⟨s, [], []⟩
  f.rest.foldl (meetJob g) ⟨f.state, [], f.absorbed⟩

/-- Forms a latch or child job from a request (R9, R90). DESIGN CHOICE (log entry 46): the jobs that the request deletes
and the retries that it abandons have given up their ids when the new job takes its own. -/
def formJob (o : Origin) (g : Goal) (as : List Act) (s : State) : Taken × State :=
  let f := mergeRequest g as s
  let s := f.state
  if f.rest.isEmpty then (.job (oldestAbsorber f.absorbed), s)
  else if s.queueFull then (.full, f.rest.foldl (fun t a => keepOut a t) s)
  else
    let id := s.newId
    let s := enterQueue
      { id := id
        origin := o
        targets := .lock g f.rest
        priority := .USER
        enqueued := s.reading
        blocking := false
        shed := false
        cost := 0 }
      s.tookId
    (.job id, f.rest.foldl (fun t a => queueAct a t) s)

/-! ## Window requests (R45, R94) -/

/-- The answer to a window request (R45, R46). -/
inductive WinTaken
  | job (id : Nat)
  | rank
  | full
deriving DecidableEq, Repr

/-- A new window job enters the queue, for an IDLE window or as a follow-up (R45, R90). DESIGN CHOICE (log entry 36):
while the window is QUEUED its direction is that of its last run, and its target is absent until admission. DESIGN CHOICE
(log entry 45): a BRAKING window with a follow-up job keeps the mode of the run that stopped until its braking ends. -/
def newWindowJob (t : WindowTask) (p : Priority) (s : State) : WinTaken × State :=
  if s.queueFull then (.full, s)
  else
    let id := s.newId
    let s := enterQueue
      { id := id
        origin := t.commander.origin
        targets := .window t
        priority := p
        enqueued := s.reading
        blocking := false
        shed := false
        cost := 0 }
      s.tookId
    let r := s.win t.win
    if r.run = .IDLE then
      (.job id, s.setWin t.win { r with
        run := .QUEUED
        mode := t.mode
        job := some id
        commander := some t.commander })
    else (.job id, s)

/-- The queued job of a window is replaced in place: an admission trigger (R45, R94). -/
def replaceJob (j : Job) (t : WindowTask) (p : Priority) (s : State) : WinTaken × State :=
  let s := trigger (changeQueued (·.namesWindow t.win) (fun x => { x with targets := .window t, priority := p }) s)
  let r := s.win t.win
  if r.run = .QUEUED then
    (.job j.id, s.setWin t.win { r with mode := t.mode, commander := some t.commander })
  else (.job j.id, s)

/-- The monitor of a run taken over in its direction with a new mode (R67, R77). -/
def takeOverMonitor (blanking : Nat) (t : WindowTask) (r : Window) : Monitor :=
  if r.dir = .UP ∧ r.normalized = true then
    if t.mode = .FORCED then endMonitor r.mon
    else if r.mode = .FORCED then beginMonitor blanking false r.mon
    else if r.mode ≠ t.mode then { r.mon with clean := false }
    else r.mon
  else r.mon

/-- A RUNNING window is taken in its own direction: mode, target and commander change; a FORCED run that another mode
takes over ends as FORCED and its tally clears (R45, R62). DESIGN
CHOICE (log entry 37): a FORCED request leaves it FORCED. -/
def takeOver (t : WindowTask) (s : State) : State :=
  let r := s.win t.win
  let ends := r.mode = .FORCED ∧ t.mode ≠ .FORCED
  s.setWin t.win { r with
    mode := t.mode
    target := t.target
    commander := some t.commander
    tally := if ends then 0 else r.tally
    tallyT := if ends then none else r.tallyT
    mon := takeOverMonitor s.params.blanking t r }

def continuationOf (t : WindowTask) : Continuation := ⟨t.mode, t.dir, t.target, t.commander, false⟩

/-- The id of the job a window runs under, 0 where it has none. -/
def runningJob (r : Window) : Nat := r.job.getD 0

/-- The rank of the window's owner, 0 without one. -/
def ownerRank (w : Win) (s : State) : Nat :=
  match s.owner w with
  | some c => c.rank
  | none => 0

/-- A request that meets R44 is decided by the run state and the rank rule (R45). -/
def requestWindow (t : WindowTask) (p : Priority) (s : State) : WinTaken × State :=
  let w := t.win
  let r := s.win w
  match r.run with
  | .IDLE => newWindowJob t p s
  | .QUEUED =>
    if t.commander.rank < ownerRank w s then (.rank, s)
    else
      match s.queuedWindow w with
      | some j => replaceJob j t p s
      | none => newWindowJob t p s
  | .RUNNING =>
    if t.commander.rank < ownerRank w s then (.rank, s)
    else if t.dir = r.dir then (.job (runningJob r), takeOver t s)
    else (.job (runningJob r), stopWindow w (some (continuationOf t)) s)
  | .BRAKING =>
    if r.beforeReversal then (.rank, s)
    else if t.commander.rank < ownerRank w s then (.rank, s)
    else
      match r.cont with
      | some _ => (.job (runningJob r), s.setWin w { r with cont := some (continuationOf t) })
      | none =>
        match s.queuedWindow w with
        | some j => replaceJob j t p s
        | none => newWindowJob t p s
  | .REVERSING => (.rank, s)

end Sys2Proof.Machine
end

