-- ==== Sys2Proof/Machine/Operands.lean ====
section
/-! DEFINITION. The operand forms: argument bytes read as sets, names and pages (R160, R165, R166), and the
enumerations as the numbers a response carries (R160, R167 to R172). -/

namespace Sys2Proof.Machine

open Sys2Proof

/-! ## Argument bytes -/

/-- A latch set: FL, FR, RL, RR and TG as bits 0 to 4; an empty set and bits 5 to 7 are out of range (R12,
R160, R166). -/
def latchSetOf (b : Byte) : Option (List Act) :=
  if b = 0#8 ∨ 32 ≤ b.toNat then none
  else some (((Act.latches.zip [0, 1, 2, 3, 4]).filter (fun x => b.getLsbD x.2)).map (·.1))

/-- A child side set: CRL and CRR as bits 0 and 1 (R13, R160, R166). -/
def childSetOf (b : Byte) : Option (List Act) :=
  if b = 0#8 ∨ 4 ≤ b.toNat then none
  else some (((Act.children.zip [0, 1]).filter (fun x => b.getLsbD x.2)).map (·.1))

/-- The targets of LATCH_REQUEST in the order of R165. -/
def latchGoalOf (b : Byte) : Option Goal := [Goal.LOCK, .DEADLOCK, .UNLOCK][b.toNat]?

/-- The actions of CHILD_REQUEST in the order of R165. -/
def childGoalOf (b : Byte) : Option Goal := [Goal.ENGAGE, .RELEASE][b.toNat]?

/-- A window byte (R165). -/
def winOf (b : Byte) : Option Win := Win.all[b.toNat]?

/-- The actions of WINDOW_REQUEST in the order of R165. -/
inductive WindowAction | AUTO_UP | AUTO_DOWN | GOTO | STOP
deriving DecidableEq, Repr

def windowActionOf (b : Byte) : Option WindowAction :=
  [WindowAction.AUTO_UP, .AUTO_DOWN, .GOTO, .STOP][b.toNat]?

/-- A slot number 0..7 (R123, R124). -/
def slotOf (b : Byte) : Option (Fin 8) := if h : b.toNat < 8 then some ⟨b.toNat, h⟩ else none

/-- The buttons of PRESENT in the order of R113 and R165. -/
def buttonOf (b : Byte) : Option Button :=
  [Button.LOCK, .UNLOCK, .LOCK_HELD, .PASSIVE][b.toNat]?

/-- A table byte (R171). -/
def tableOf (b : Byte) : Option CursorTable := [CursorTable.FOB, .PROFILE, .QUEUE][b.toNat]?

/-- A step byte: 0x01 for +1, 0xFF for -1, 0x00 for 0 (R171). -/
def stepOf (b : Byte) : Option CursorStep :=
  if b = 1#8 then some .FORWARD else if b = 0xFF#8 then some .BACKWARD
  else if b = 0#8 then some .STAY else none

/-- The number of entries of a table (R171). -/
def tableSize : CursorTable → Nat
  | .FOB => 8
  | .PROFILE => 32
  | .QUEUE => 16

/-! ## Positions in the lists of values -/

/-- Latch states and sensed positions (R1); child states (R2). -/
def positionCode : Position → Nat
  | .UNLOCKED => 0 | .LOCKED => 1 | .DEADLOCKED => 2 | .ENGAGED => 0 | .RELEASED => 1

/-- Sensed, with INVALID last (R1). -/
def sensedCode (p : Option Position) : Nat := (p.map positionCode).getD 3

def activityCode : Activity → Nat
  | .IDLE => 0 | .QUEUED => 1 | .STROKING => 2 | .RETRY_WAIT => 3

def lockFaultCode : LockFault → Nat
  | .NONE => 0 | .NO_MOVE => 1 | .SENSOR => 2 | .OVERCURRENT => 3

def polarityCode : Polarity → Nat
  | .NONE => 0 | .PLUS => 1 | .MINUS => 2

def vehicleCode : VehicleStatus → Nat
  | .ALL_UNLOCKED => 0 | .PARTIAL => 1 | .ALL_LOCKED => 2 | .DEADLOCKED => 3

def crashSourceCode : Option CrashSource → Nat
  | none => 0 | some .LINE => 1 | some .PORT_M => 2 | some .POWER_ON => 3

def runStateCode : RunState → Nat
  | .IDLE => 0 | .QUEUED => 1 | .RUNNING => 2 | .BRAKING => 3 | .REVERSING => 4

def runModeCode : RunMode → Nat
  | .MANUAL => 0 | .AUTO => 1 | .COMFORT => 2 | .FORCED => 3

def dirCode : Dir → Nat
  | .UP => 0 | .DOWN => 1

/-- Origins in the order of the introduction, from PORT_M 0 to CRASH 10 (R168). -/
def originCode : Origin → Nat
  | .PORT_M => 0 | .PORT_E => 1 | .DRIVER_PANEL => 2 | .KEY_CYLINDER => 3 | .FRONT_PASSENGER => 4
  | .REAR_LEFT => 5 | .REAR_RIGHT => 6 | .SEARCH => 7 | .RELOCK => 8 | .RETRY => 9 | .CRASH => 10

def windowFaultCode : WindowFault → Nat
  | .NONE => 0 | .STALL => 1 | .SENSOR_LOST => 2 | .OVERCURRENT => 3 | .THERMAL => 4

def monitorPhaseCode : MonitorPhase → Nat
  | .OFF => 0 | .BLANKING => 1 | .ACTIVE => 2

def pinchCauseCode : PinchCause → Nat
  | .TEST => 0 | .STALL => 1

def pinchTestCode : PinchTest → Nat
  | .LEARNED => 0 | .RATIO => 1 | .NONE => 2

/-- Presentation results from ACCEPTED 0 to WRONG_TAG 8 (R169). -/
def presentCode : PresentResult → Nat
  | .ACCEPTED => 0 | .HOLD_EXTENDED => 1 | .DUPLICATE => 2 | .RESYNC_NEEDED => 3 | .REPLAY => 4
  | .OUT_OF_WINDOW => 5 | .UNKNOWN_FOB => 6 | .LATE => 7 | .WRONG_TAG => 8

/-- Action results from DONE 0 to QUEUE_FULL 4 (R169). -/
def actionCode : ActionResult → Nat
  | .DONE => 0 | .DOOR_OPEN => 1 | .DEADLOCK_REFUSED => 2 | .CRASH_ACTIVE => 3 | .QUEUE_FULL => 4

def purposeCode : Purpose → Nat
  | .UNLOCK => 0 | .LOCK => 1

def outcomeCode : SearchOutcome → Nat
  | .FOUND_ACCEPTED => 0 | .FOUND_REJECTED => 1 | .NOT_FOUND => 2 | .EXPIRED => 3 | .CANCELLED => 4

def entryButtonCode : EntryButton → Nat
  | .LOCK => 0 | .UNLOCK => 1 | .PASSIVE => 2

def portCode : Port → Nat
  | .M => 0 | .E => 1

def slotStatusCode : SlotStatus → Nat
  | .EMPTY => 0 | .ACTIVE => 1 | .CORRUPT => 2

def winCode : Win → Nat
  | .WFL => 0 | .WFR => 1 | .WRL => 2 | .WRR => 3

def goalCode : Goal → Nat
  | .LOCK => 0 | .DEADLOCK => 1 | .UNLOCK => 2 | .ENGAGE => 0 | .RELEASE => 1

def priorityCode : Priority → Nat
  | .USER => 0 | .COMFORT => 1

/-- A parameter's code (R179). -/
def paramCode : Param → Nat
  | .DRIVE_BUDGET => 0 | .STROKE_TIME => 1 | .DEADLOCK_STROKE_TIME => 2 | .SELECTIVE_UNLOCK => 3
  | .PASSIVE_UNLOCK_ALL => 4 | .RELOCK_TIME => 5 | .PINCH_THRESHOLD => 6 | .REVERSE_DISTANCE => 7
  | .SEAL_ZONE => 8 | .BLANKING => 9 | .HEAT_LIMIT => 10 | .COMFORT_HOLD_START => 11
  | .SEARCH_TIMEOUT => 12 | .DRIVER_SIDE => 13

/-- The origin of a port's requests. -/
def portOrigin : Port → Origin
  | .M => .PORT_M
  | .E => .PORT_E

end Sys2Proof.Machine
end

