-- ==== Sys2Proof/Machine/Writes.lean ====
section
/-! DEFINITION. The write order of the Nonvolatile Store (R121, R178): which item begins when no write runs, and
what it takes from RAM. -/

namespace Sys2Proof.Machine

open Sys2Proof

/-- The stored record of a slot as it stands in RAM (R121). -/
def slotRecord (f : FobSlot) : SlotRecord := ⟨f.status = .ACTIVE, f.identity, f.C⟩

/-- A write begins with the contents of RAM and its write time (R177, R178). -/
def beginWrite (p : Payload) (byPort : Bool) (span : Nat) (s : State) : State :=
  { s with writer := { s.writer with running := some ⟨p, byPort, false, s.timer span⟩ } }

/-- The payload and write time of a port-requested item (R123, R124, R177, R180). -/
def portPayload (x : PortWrite) (s : State) : Payload × Nat :=
  match x with
  | .enroll i id c => (.enroll i ⟨true, id, c⟩, slotWriteTime)
  | .revoke i => (.revoke i, slotWriteTime)
  | .profile w => (.profile w (s.win w).profile, blockWriteTime)
  | .params => (.params s.params, blockWriteTime)

/-- The lowest slot with commit pending (R121, R178). -/
def nextCommit (s : State) : Option (Fin 8) :=
  (List.finRange 8).find? (fun i => (s.fob i).commitPending)

/-- The first window whose newly learned travel waits for its write (R83, R178). -/
def nextProfile (s : State) : Option Win := Win.all.find? (fun w => s.writer.background.get w)

/-- The first item of the write order begins where no write runs: port-requested writes, then counter commits in
slot order, then profile writes in window order (R178). -/
def pump (s : State) : State :=
  if s.writer.running.isSome then s
  else
    match s.writer.portQueue with
    | x :: xs =>
      let y := portPayload x s
      beginWrite y.1 true y.2 { s with writer := { s.writer with portQueue := xs } }
    | [] =>
      match nextCommit s with
      | some i => beginWrite (.commit i (slotRecord (s.fob i))) false slotWriteTime s
      | none =>
        match nextProfile s with
        | some w =>
          beginWrite (.profile w (s.win w).profile) false blockWriteTime
            { s with writer := { s.writer with background := s.writer.background.set w false } }
        | none => s

/-- A command's writes join the port-requested part; a profile that waited in the background part leaves it
(R178). -/
def requestWrites (xs : List PortWrite) (s : State) : State :=
  { s with writer := { s.writer with
      portQueue := s.writer.portQueue ++ xs
      background := xs.foldl (fun b x => match x with | .profile w => b.set w false | _ => b)
        s.writer.background } }

/-- The windows whose profile is marked, in window order (R84, R183). -/
def markedWindows (s : State) : List Win := Win.all.filter (fun w => (s.win w).mon.marked)

end Sys2Proof.Machine
end

