-- ==== Sys2Proof/Machine/Latches.lean ====
section
/-! DEFINITION. The events of the Latch Controller and the Lock Matrix Driver: contacts (R4 to R6), panel and key
(R10, R11, R13), ends of strokes and retry waits (R22, R32), decay (R24), relock (R18) and group overcurrent
(R34). -/

namespace Sys2Proof.Machine

open Sys2Proof

/-! ## How an event is taken -/

/-- A wake event ends standby before it is handled (R184). Where a crash job waits for the end of standby, that end is
an admission trigger (R96, R109; DEDUCED, log entry 13). -/
def wake (s : State) : State :=
  if s.phase = .STANDBY then
    let t := { s with phase := .ACTIVE }
    if s.slot.isOpen then trigger t else t
  else s

/-- What an event leads to after its own work: the admission attempt it calls for (R96), and the begin of a write
that found the store idle (R178). -/
def finish (s : State) : State := pump (settle s)

/-- An event of the running part. While the store loads, nothing runs (R181). -/
def event (work : State → State) (s : State) : State :=
  if s.phase = .LOADING then s else finish (work s)

/-- The end of standby as an event of its own, with the attempt it calls for (R96, R184). -/
def awaken (s : State) : State :=
  if s.phase = .STANDBY ∧ s.slot.isOpen = true then finish (wake s) else wake s

/-- A change of an input line: the level is held in every phase, and the event is that of the running
part; a level that is held already is no change. -/
def lineEvent (changed : Bool) (level work : State → State) (s : State) : State :=
  if changed then event work (level s) else s

/-- The expiry of a timer as an event of the running part. -/
def expiry (t : State → Option Timer) (work : State → State) (s : State) : State :=
  event (fun x => expire (t x) work x) s

/-! ## Contacts (R3 to R6) -/

/-- The debounced level of a contact. -/
def contactLevel (p : Pins) : Contact → Bool
  | .lock l => p.lock.get l
  | .dead d => p.dead.get d
  | .engaged c => p.engaged.get c

def setContact (c : Contact) (closed : Bool) (p : Pins) : Pins :=
  match c with
  | .lock l => { p with lock := p.lock.set l closed }
  | .dead d => { p with dead := p.dead.set d closed }
  | .engaged k => { p with engaged := p.engaged.set k closed }

/-- The actuator whose sensed position a contact decides (R3). -/
def contactAct : Contact → Act
  | .lock l => .latch l
  | .dead d => .latch d.latch
  | .engaged c => .child c

/-- A valid position is taken by a record that follows: fault SENSOR returns to NONE and the INVALID timer
stops (R4, R5). -/
def followContact (a : Act) (p : Position) (s : State) : State :=
  let r := s.act a
  setPosition a p (s.setAct a { r with
    invalidT := none
    fault := if r.fault = .SENSOR then .NONE else r.fault })

/-- A late contact has brought sensed to the target of the wait: a success (R22). -/
def lateContact (a : Act) (p : Position) (s : State) : State :=
  let s := leaveSlot a s
  let r := s.act a
  setPosition a p (s.setAct a { r with
    activity := .IDLE
    fault := .NONE
    attempts := 0
    invalidT := none
    wait := none })

/-- What a change of sensed does to its record (R4, R5, R22). -/
def sensedChanged (a : Act) (s : State) : State :=
  let r := s.act a
  match r.activity, s.sensed a with
  | .STROKING, _ => s
  | .RETRY_WAIT, none => s
  | .RETRY_WAIT, some p =>
    match r.wait with
    | some x => if p = waitTarget a x then lateContact a p s else s
    | none => s
  | _, some p => followContact a p s
  | _, none => s.setAct a { r with invalidT := some (s.timer invalidSpan) }

/-- A debounced latch, dead or engaged contact changes (R3, R4, R8, R184). -/
def contactWork (c : Contact) (s : State) : State :=
  sensedChanged (contactAct c) (raise .LATCH_CHANGED (wake s))

/-- CONTACT_CHANGE (R4). -/
def execContactChange (c : Contact) (closed : Bool) (s : State) : Host.Outcome State Fault Refusal :=
  .next (lineEvent (contactLevel s.pins c != closed)
    (fun x => { x with pins := setContact c closed x.pins }) (contactWork c) s)

/-- A debounced ajar contact changes; a change to OPEN cancels the relock timer (R6, R18). -/
def ajarWork (isOpen : Bool) (s : State) : State :=
  let s := raise .LATCH_CHANGED (wake s)
  if isOpen then { s with relock := none } else s

/-- AJAR_CHANGE (R6). -/
def execAjarChange (l : Latch) (isOpen : Bool) (s : State) : Host.Outcome State Fault Refusal :=
  .next (lineEvent (s.pins.ajarOpen.get l != isOpen)
    (fun x => { x with pins := { x.pins with ajarOpen := x.pins.ajarOpen.set l isOpen } })
    (ajarWork isOpen) s)

/-- The 100 ms of an INVALID position are over: fault SENSOR (R5). -/
def invalidWork (a : Act) (s : State) : State :=
  setFault a .SENSOR (s.setAct a { s.act a with invalidT := none })

/-- SENSED_INVALID_EXPIRY (R5). DESIGN CHOICE (log entry 42): the timer goes on in standby. -/
def execSensedInvalidExpiry (d : Door) (s : State) : Host.Outcome State Fault Refusal :=
  .next (expiry (fun x => (x.act (.latch d.latch)).invalidT) (invalidWork (.latch d.latch)) s)

/-! ## Panel and key (R10, R11, R13) -/

/-- An accepted latch request cancels a running relock timer (R18). -/
def cancelRelock (s : State) : State := { s with relock := none }

/-- A latch request from the panel or the key: taken, it cancels the relock timer; a full queue discards it
(R10, R18). -/
def panelLatchRequest (o : Origin) (g : Goal) (as : List Act) (s : State) : State :=
  match formJob o g as s with
  | (.job _, s) => cancelRelock s
  | (.full, s) => s

/-- The rocker's request: LOCK is ignored while the crash latch is set (R10). -/
def rockerWork (t : LockTurn) (s : State) : State :=
  let s := wake s
  match t with
  | .LOCK => if s.crash.latch then s else panelLatchRequest .DRIVER_PANEL .LOCK Act.latches s
  | .UNLOCK => panelLatchRequest .DRIVER_PANEL .UNLOCK Act.latches s

/-- CENTRAL_LOCK_ROCKER (R10). -/
def execCentralLockRocker (t : LockTurn) (s : State) : Host.Outcome State Fault Refusal :=
  .next (event (rockerWork t) { s with pins := { s.pins with rocker := some t } })

/-- The four doors as actuators. -/
def doorActs : List Act := Latch.doors.map .latch

/-- A reading less than a span old. -/
def youngerThan (s : State) (r : Reading) (span : Nat) : Bool := ageAt s.now r < span

/-- Whether a KEY_CYLINDER LOCK is a second turn with every ajar CLOSED (R11). -/
def secondTurn (s : State) : Bool :=
  match s.keyLock with
  | some r => youngerThan s r secondPressSpan && !s.anyAjar
  | none => false

/-- The key's request (R10, R11). -/
def keyWork (t : LockTurn) (s : State) : State :=
  let s := wake s
  match t with
  | .LOCK =>
    if s.crash.latch then s
    else
      let t := if secondTurn s then panelLatchRequest .KEY_CYLINDER .DEADLOCK doorActs s
        else panelLatchRequest .KEY_CYLINDER .LOCK Act.latches s
      { t with keyLock := some s.reading }
  | .UNLOCK => panelLatchRequest .KEY_CYLINDER .UNLOCK Act.latches { s with keyLock := none }

/-- KEY_CYLINDER (R10, R11). -/
def execKeyCylinder (t : LockTurn) (s : State) : Host.Outcome State Fault Refusal :=
  .next (event (keyWork t) { s with pins := { s.pins with key := some t } })

/-- The child safety button: RELEASE where both are ENGAGED, ENGAGE otherwise (R13). -/
def childButtonWork (s : State) : State :=
  let s := wake s
  let g := if Child.all.all (fun c => (s.act (.child c)).state = .ENGAGED) then Goal.RELEASE else .ENGAGE
  (formJob .DRIVER_PANEL g Act.children s).2

/-- CHILD_SAFETY_BUTTON (R13). -/
def execChildSafetyButton (s : State) : Host.Outcome State Fault Refusal :=
  .next (event childButtonWork { s with pins := { s.pins with childButton := true } })

def releasePin (i : PanelInput) (p : Pins) : Pins :=
  match i with
  | .ROCKER => { p with rocker := none }
  | .KEY => { p with key := none }
  | .CHILD_BUTTON => { p with childButton := false }

/-- PANEL_KEY_INPUT_RELEASE (R184): no request; standby ends. -/
def execPanelKeyInputRelease (i : PanelInput) (s : State) : Host.Outcome State Fault Refusal :=
  .next (event wake { s with pins := releasePin i s.pins })

/-! ## Strokes and retries -/

def State.strokeNamed (s : State) (job : Option Nat) (g : Group) : Option Stroke :=
  s.strokes.find? (fun st => st.job = job && st.group = g)

def strokeTimer (st : Stroke) : Timer := ⟨st.started.time, st.duration⟩

/-- The end of the stroke that a job and a group name (R27, R32). -/
def strokeEndWork (job : Option Nat) (g : Group) (s : State) : State :=
  match s.strokeNamed job g with
  | some st => endStroke st s
  | none => s

/-- STROKE_END (R32). -/
def execStrokeEnd (job : Option Nat) (g : Group) (s : State) : Host.Outcome State Fault Refusal :=
  .next (expiry (fun x => (x.strokeNamed job g).map strokeTimer) (strokeEndWork job g) s)

/-- A latch in a crash retry wait moves to pending, which is an admission trigger (R110). -/
def toPending (a : Act) (s : State) : State :=
  match a with
  | .latch l =>
    trigger { s with slot := { s.slot with
      waiting := dropLatch l s.slot.waiting
      pending := addLatch l s.slot.pending } }
  | .child _ => s

/-- A retry wait is over: its job enters the queue with the place its enqueue time gives it, a full queue is the
final failure, and a crash retry goes to the slot (R22, R90, R110). -/
def retryWork (a : Act) (s : State) : State :=
  match (s.act a).wait with
  | none => s
  | some x =>
    match x.job with
    | none => toPending a (resumeAs a .QUEUED s)
    | some j =>
      if s.queueFull then finalFailure a x.cause s
      else enterQueue j (resumeAs a .QUEUED s)

/-- RETRY_WAIT_EXPIRY (R22). -/
def execRetryWaitExpiry (a : Act) (s : State) : Host.Outcome State Fault Refusal :=
  .next (expiry (fun x => (x.act a).wait.map (·.timer)) (retryWork a) s)

/-- A stroke count falls by 1; the fall from 10 to 9 is an admission trigger (R24). -/
def decayWork (a : Act) (s : State) : State :=
  let r := s.act a
  let n := r.strokes - 1
  let t := s.setAct a { r with
    strokes := n
    decay := if 0 < n then some (s.timer decaySpan) else none }
  if r.strokes = strokeLimit then trigger t else t

/-- STROKE_COUNT_DECAY (R24). -/
def execStrokeCountDecay (a : Act) (s : State) : Host.Outcome State Fault Refusal :=
  .next (expiry (fun x => (x.act a).decay) (decayWork a) s)

/-- The relock timer expires: it is off, and a LOCK job on all five is formed (R18). -/
def relockWork (s : State) : State := (formJob .RELOCK .LOCK Act.latches { s with relock := none }).2

/-- RELOCK_TIMER_EXPIRY (R18). -/
def execRelockTimerExpiry (s : State) : Host.Outcome State Fault Refusal :=
  .next (expiry (·.relock) relockWork s)

def setOvercurrent (g : Group) (active : Bool) (p : Pins) : Pins :=
  match g with
  | .DOOR => { p with ocDoor := active }
  | .TAIL => { p with ocTail := active }

/-- GROUP_OVERCURRENT (R34): an activation cuts the group's running strokes; a return to inactive has no effect. -/
def execGroupOvercurrent (g : Group) (active : Bool) (s : State) : Host.Outcome State Fault Refusal :=
  .next (lineEvent (overcurrentLine s.pins g != active)
    (fun x => { x with pins := setOvercurrent g active x.pins })
    (fun x => if active then cutGroup g x else x) s)

end Sys2Proof.Machine
end

