-- ==== Sys2Proof/Machine/WindowEvents.lean ====
section
/-! DEFINITION. The events of the Window Controller and the Pinch Monitor: switches (R19, R41 to R43, R62), Port M
window requests (R46, R47), edges, sensor supply, supply sample, overcurrent and the window timers. -/

namespace Sys2Proof.Machine

open Sys2Proof

/-! ## Switches (R41) -/

def switchOrigin : Switch → Origin
  | .panel _ => .DRIVER_PANEL
  | .frontPassenger => .FRONT_PASSENGER
  | .rearLeft => .REAR_LEFT
  | .rearRight => .REAR_RIGHT

def switchRank : Switch → Nat
  | .panel _ => 3
  | _ => 1

/-- The window a switch moves, read from DRIVER_SIDE at each change (R41). -/
def switchWindow (v : Params) : Switch → Win
  | .panel w => w
  | .frontPassenger => passengerWindow v
  | .rearLeft => .WRL
  | .rearRight => .WRR

def switchCommander (sw : Switch) : Commander := ⟨switchOrigin sw, switchRank sw⟩

/-- The child lock that gates a switch (R19). -/
def switchChild : Switch → Option Child
  | .rearLeft => some .CRL
  | .rearRight => some .CRR
  | _ => none

/-- A gated switch: the child state on its side is ENGAGED (R19). -/
def gated (sw : Switch) (s : State) : Bool :=
  match switchChild sw with
  | some c => (s.act (.child c)).state = .ENGAGED
  | none => false

/-- The direction of a stage, and whether it is stage 2. -/
def stageMove : Stage → Option (Dir × Bool)
  | .NEUTRAL => none
  | .UP1 => some (.UP, false)
  | .UP2 => some (.UP, true)
  | .DOWN1 => some (.DOWN, false)
  | .DOWN2 => some (.DOWN, true)

/-! ## What a window has to stop (R42, R43, R48) -/

/-- The mode, direction and commander of the run, queued job, continuation or follow-up job that a window
has; a reversal and the braking before it have none that a switch can act on (R60). -/
structure Standing where
  mode : RunMode
  dir : Dir
  commander : Commander
deriving DecidableEq, Repr

def taskStanding (s : State) (w : Win) : Option Standing :=
  ((s.queuedWindow w).bind Job.task?).map (fun t => ⟨t.mode, taskDir t s, t.commander⟩)

def State.standing (s : State) (w : Win) : Option Standing :=
  let r := s.win w
  match r.run with
  | .IDLE => none
  | .QUEUED => taskStanding s w
  | .RUNNING => r.commander.map (fun c => ⟨r.mode, r.dir, c⟩)
  | .BRAKING =>
    match r.cont with
    | some c => if c.reversal then none else some ⟨c.mode, c.dir, c.commander⟩
    | none => taskStanding s w
  | .REVERSING => none

/-- Stops the run, removes the queued job, or drops the continuation or follow-up job of a window. -/
def dropStanding (w : Win) (s : State) : State :=
  let r := s.win w
  match r.run with
  | .IDLE => s
  | .QUEUED => removeWindowJob w s
  | .RUNNING => stopWindow w none s
  | .BRAKING => if r.cont.isSome then dropContinuation w s else removeWindowJob w s
  | .REVERSING => s

/-- The mode of what a window has becomes AUTO, the commander unchanged (R43). -/
def deepenStanding (w : Win) (x : Standing) (s : State) : State :=
  let t : WindowTask := ⟨w, .AUTO, x.dir, none, x.commander⟩
  let r := s.win w
  match r.run with
  | .RUNNING => takeOver t s
  | .BRAKING =>
    match r.cont with
    | some c => s.setWin w { r with cont := some { c with mode := .AUTO } }
    | none =>
      match s.queuedWindow w with
      | some j => (replaceJob j t j.priority s).2
      | none => s
  | .QUEUED =>
    match s.queuedWindow w with
    | some j => (replaceJob j t j.priority s).2
    | none => s
  | _ => s

/-! ## Press, deepen and release (R42, R43, R62) -/

/-- The mode of a press: AUTO at stage 2; at stage 1 MANUAL, or FORCED up with tally 3 on a normalized window
while the crash latch is clear (R42, R62). -/
def pressMode (w : Win) (d : Dir) (stage2 : Bool) (s : State) : RunMode :=
  let r := s.win w
  if stage2 then .AUTO
  else if d = .UP ∧ r.tally = 3 ∧ r.normalized = true ∧ s.crash.latch = false then .FORCED
  else .MANUAL

/-- A switch request: ignored where it fails R44, decided by R45 otherwise (R42 step 3). -/
def switchRequest (sw : Switch) (m : RunMode) (d : Dir) (s : State) : State :=
  let w := switchWindow s.params sw
  if fits m d none w s = .FIT then (requestWindow ⟨w, m, d, none, switchCommander sw⟩ .USER s).2 else s

def setSpent (sw : Switch) (b : Bool) (s : State) : State := { s with spent := s.spent.set sw b }

/-- Whether a window has an AUTO run, job or continuation of the same switch (R42 step 1). -/
def autoOf (sw : Switch) (s : State) : Bool :=
  match s.standing (switchWindow s.params sw) with
  | some x => x.mode = .AUTO && x.commander.origin = switchOrigin sw
  | none => false

/-- A press (R42). A gated press stops an AUTO run of the same switch that is in progress and does nothing else
(R19). -/
def pressSwitch (sw : Switch) (d : Dir) (stage2 : Bool) (s : State) : State :=
  let w := switchWindow s.params sw
  if gated sw s then
    if autoOf sw s ∧ (s.win w).run = .RUNNING then setSpent sw true (stopWindow w none s) else s
  else if autoOf sw s then setSpent sw true (dropStanding w s)
  else switchRequest sw (pressMode w d stage2 s) d s

/-- A deepen (R43): a FORCED run is not changed, a MANUAL run, job or continuation of the same switch and direction
becomes AUTO, and every other case is a fresh AUTO request. That of a gated switch is not taken (R19). -/
def deepenSwitch (sw : Switch) (d : Dir) (s : State) : State :=
  let w := switchWindow s.params sw
  if gated sw s ∨ s.spent.get sw = true then s
  else
    match s.standing w with
    | some x =>
      if x.mode = .FORCED ∧ (s.win w).run = .RUNNING then s
      else if x.mode = .MANUAL ∧ x.commander.origin = switchOrigin sw ∧ x.dir = d then
        if fits .AUTO d none w s = .FIT then deepenStanding w x s else s
      else switchRequest sw .AUTO d s
    | none => switchRequest sw .AUTO d s

/-- The windows a switch may command: a run of the front passenger stays with its window when DRIVER_SIDE changes
(R41). -/
def releaseWindows : Switch → List Win
  | .panel w => [w]
  | .frontPassenger => [.WFL, .WFR]
  | .rearLeft => [.WRL]
  | .rearRight => [.WRR]

/-- A release at one window (R43). -/
def releaseAt (o : Origin) (s : State) (w : Win) : State :=
  match s.standing w with
  | some x =>
    if (x.mode = .MANUAL ∨ x.mode = .FORCED) ∧ x.commander.origin = o then dropStanding w s else s
  | none => s

def releaseSwitch (sw : Switch) (s : State) : State :=
  (releaseWindows sw).foldl (releaseAt (switchOrigin sw)) (setSpent sw false s)

/-- A change of stage, classified by R41. -/
def switchWork (sw : Switch) (old new : Stage) (s : State) : State :=
  let s := wake s
  match stageMove old, stageMove new with
  | none, none => s
  | none, some (d, two) => pressSwitch sw d two s
  | some _, none => releaseSwitch sw s
  | some (d, one), some (e, two) =>
    if d = e then
      if one = false ∧ two = true then deepenSwitch sw d s else s
    else pressSwitch sw e two (releaseSwitch sw s)

/-- WINDOW_SWITCH_CHANGE (R41). -/
def execWindowSwitchChange (sw : Switch) (st : Stage) (s : State) : Host.Outcome State Fault Refusal :=
  .next (lineEvent (s.pins.switches.get sw != st)
    (fun x => { x with pins := { x.pins with switches := x.pins.switches.set sw st } })
    (switchWork sw (s.pins.switches.get sw) st) s)

/-! ## Port M window requests (R46, R47) -/

/-- STOP (R47): none where it is taken, a reason where it is refused. -/
def stopRequest (w : Win) (s : State) : Option Reason × State :=
  let r := s.win w
  match r.run with
  | .IDLE => (none, s)
  | .REVERSING => (some .RANK, s)
  | .BRAKING =>
    match r.cont with
    | some c =>
      if c.reversal = true ∨ 2 < c.commander.rank then (some .RANK, s) else (none, dropContinuation w s)
    | none =>
      match (s.queuedWindow w).bind Job.task? with
      | some t => if 2 < t.commander.rank then (some .RANK, s) else (none, removeWindowJob w s)
      | none => (none, s)
  | _ => if 2 < ownerRank w s then (some .RANK, s) else (none, dropStanding w s)

/-- The answer of a STOP. -/
def stopAnswer (x : Option Reason × State) : Answer × State :=
  match x with
  | (none, s) => (Answer.done, s)
  | (some r, s) => (Answer.refused r, s)

/-- Steps 7 to 10 of R46. -/
def portWindowRequest (t : WindowTask) (s : State) : Answer × State :=
  if needsSupply t.mode t.dir && lowSupply s then (Answer.refused .UNDERVOLTAGE, s)
  else
    match requestWindow t .USER s with
    | (.job id, s) => (Answer.accepted id, s)
    | (.rank, s) => (Answer.refused .RANK, s)
    | (.full, s) => (Answer.refused .QUEUE_FULL, s)

/-- Step 6 of R46: the target clamped to the travel, the direction from it; 0 and L are stored as no target. -/
def gotoRequest (w : Win) (pos L : Nat) (s : State) : Answer × State :=
  let x := min pos L
  let P := (s.win w).P
  if x = P then (Answer.done, (stopRequest w s).2)
  else
    let d := if x < P then Dir.UP else .DOWN
    let target := if x = 0 ∨ x = L then none else some x
    if d = .UP ∧ s.learned w = false then (Answer.refused .NOT_LEARNED, s)
    else portWindowRequest ⟨w, .AUTO, d, target, ⟨.PORT_M, 2⟩⟩ s

/-- Steps 5 to 10 of R46 for AUTO_UP, AUTO_DOWN and GOTO. -/
def moveRequest (w : Win) (a : WindowAction) (pos : Nat) (s : State) : Answer × State :=
  match a with
  | .AUTO_UP =>
    if s.learned w then portWindowRequest ⟨w, .AUTO, .UP, none, ⟨.PORT_M, 2⟩⟩ s
    else (Answer.refused .NOT_LEARNED, s)
  | .AUTO_DOWN => portWindowRequest ⟨w, .AUTO, .DOWN, none, ⟨.PORT_M, 2⟩⟩ s
  | .GOTO =>
    match (s.win w).profile.L with
    | some L => gotoRequest w pos L s
    | none => (Answer.refused .NOT_LEARNED, s)
  | .STOP => stopAnswer (stopRequest w s)

/-- The checks of R46 in their order; STOP is handled by R47. -/
def takeWindowRequest (window action : Byte) (position : BitVec 16) (s : State) : Answer × State :=
  match winOf window, windowActionOf action with
  | some w, some a =>
    if a = .STOP then stopAnswer (stopRequest w s)
    else if s.crash.latch then (Answer.refused .CRASH_ACTIVE, s)
    else if (s.win w).held then (Answer.refused .THERMAL, s)
    else if (s.win w).normalized = false then (Answer.refused .NOT_NORMALIZED, s)
    else moveRequest w a position.toNat s
  | _, _ => (Answer.refused .BAD_INDEX, s)

/-! ## Edges, sensors and comparators -/

/-- QUALIFIED_EDGE (R50, R63): a level change that does not qualify is discarded. -/
def execQualifiedEdge (w : Win) (h : HallInput) (since : Nat) (s : State) :
    Host.Outcome State Fault Refusal :=
  .next (event (fun x => if qualifies x w h since then qualifiedEdge w h since x else x) s)

/-- A queued job for the window of mode AUTO, COMFORT or FORCED is removed; a MANUAL one stays (R54). -/
def removeUnfit (w : Win) (s : State) : State :=
  match (s.queuedWindow w).bind Job.task? with
  | some t => if t.mode = .MANUAL then s else removeWindowJob w s
  | none => s

/-- The Hall sensor supply goes out of range (R54). -/
def sensorLost (w : Win) (s : State) : State :=
  let s := haltWindow w s
  let s := s.setWin w { s.win w with normalized := false }
  removeUnfit w (setWindowFault w .SENSOR_LOST s)

/-- The Hall sensor supply comes back: SENSOR_LOST clears, and the next change on either input may be qualified
(R54, R63). -/
def sensorBack (w : Win) (s : State) : State :=
  let r := s.win w
  s.setWin w { r with
    fault := if r.fault = .SENSOR_LOST then .NONE else r.fault
    lastHall := none }

/-- SENSOR_SUPPLY_CHANGE (R54). -/
def execSensorSupplyChange (w : Win) (inRange : Bool) (s : State) : Host.Outcome State Fault Refusal :=
  .next (lineEvent (s.pins.sensorOk.get w != inRange)
    (fun x => { x with pins := { x.pins with sensorOk := x.pins.sensorOk.set w inRange } })
    (if inRange then sensorBack w else sensorLost w) s)

/-- A queued up job that waits on supply (R44, R96). -/
def waitsOnSupply (s : State) : Bool :=
  s.queue.any (fun j => match j.task? with
    | some t => needsSupply t.mode (taskDir t s)
    | none => false)

/-- A sample below 9000 mV stops upward AUTO and COMFORT runs; the rise to 9000 mV or more is an admission trigger
for a job that waited on it (R44, R58). -/
def supplyWork (was : Nat) (s : State) : State :=
  if lowSupply s then Win.all.foldl (fun t w => undervoltageStop w t) s
  else if was < undervoltage ∧ waitsOnSupply s = true then trigger s
  else s

/-- SUPPLY_SAMPLE (R58, R65): the measured range is 0 to 24000 mV. -/
def execSupplySample (mv : Nat) (s : State) : Host.Outcome State Fault Refusal :=
  .next (event (supplyWork s.pins.supply) { s with pins := { s.pins with supply := min mv 24000 } })

/-- WINDOW_OVERCURRENT (R55): an activation stops a driven window. -/
def execWindowOvercurrent (w : Win) (active : Bool) (s : State) : Host.Outcome State Fault Refusal :=
  .next (lineEvent (s.pins.ocWin.get w != active)
    (fun x => { x with pins := { x.pins with ocWin := x.pins.ocWin.set w active } })
    (fun x => if active && driven (x.win w).run then overcurrentWindow w x else x) s)

/-- 500 ms of drive without a stop clear fault OVERCURRENT (R55). -/
def clearOvercurrent (w : Win) (s : State) : State :=
  let r := s.win w
  s.setWin w { r with
    clearT := none
    fault := if r.fault = .OVERCURRENT then .NONE else r.fault }

/-- OVERCURRENT_FAULT_CLEAR (R55). -/
def execOvercurrentFaultClear (w : Win) (s : State) : Host.Outcome State Fault Refusal :=
  .next (expiry (fun x => (x.win w).clearT) (clearOvercurrent w) s)

/-! ## Window timers -/

/-- BRAKING_TIMER_EXPIRY (R48). -/
def execBrakingTimerExpiry (w : Win) (s : State) : Host.Outcome State Fault Refusal :=
  .next (expiry (fun x => (x.win w).brakeT) (brakingOver w) s)

/-- STALL (R52, R53). -/
def execStall (w : Win) (s : State) : Host.Outcome State Fault Refusal :=
  .next (expiry (fun x => (x.win w).stallT) (stallWindow w) s)

/-- The heating timer adds 1 to H, saturating at 900, and runs again (R56, R57). -/
def heatWork (w : Win) (s : State) : State :=
  let r := s.win w
  testHold w (s.setWin w { r with H := min 900 (r.H + 1), heatT := some (s.timer heatingSpan) })

/-- HEATING_TIMER_EXPIRY (R56). -/
def execHeatingTimerExpiry (w : Win) (s : State) : Host.Outcome State Fault Refusal :=
  .next (expiry (fun x => (x.win w).heatT) (heatWork w) s)

/-- The cooling timer takes 1 from H and runs again while H is above 0 (R56, R57). -/
def coolWork (w : Win) (s : State) : State :=
  let r := s.win w
  testHold w (s.setWin w { r with
    H := r.H - 1
    coolT := if 1 < r.H then some (s.timer coolingSpan) else none })

/-- COOLING_TIMER_EXPIRY (R56). -/
def execCoolingTimerExpiry (w : Win) (s : State) : Host.Outcome State Fault Refusal :=
  .next (expiry (fun x => (x.win w).coolT) (coolWork w) s)

/-- The tally timer expires: the tally becomes 0 (R61). -/
def tallyWork (w : Win) (s : State) : State := s.setWin w { s.win w with tally := 0, tallyT := none }

/-- TALLY_TIMER_EXPIRY (R61). -/
def execTallyTimerExpiry (w : Win) (s : State) : Host.Outcome State Fault Refusal :=
  .next (expiry (fun x => (x.win w).tallyT) (tallyWork w) s)

/-! ## Blocking (R101) -/

def State.queuedJob (s : State) (id : Nat) : Option Job := s.queue.find? (fun j => j.id = id)

/-- The blocking age of a queued job as a timer; a job that is blocking has none. -/
def blockingTimer (j : Job) : Option Timer :=
  if j.blocking then none else some ⟨j.enqueued.time, blockingAge⟩

/-- A queued job turns blocking, which is an admission trigger (R101). -/
def blockingWork (id : Nat) (s : State) : State :=
  trigger (changeQueued (fun j => j.id = id) (fun j => { j with blocking := true }) s)

/-- JOB_TURNS_BLOCKING (R101). -/
def execJobTurnsBlocking (job : Nat) (s : State) : Host.Outcome State Fault Refusal :=
  .next (expiry (fun x => (x.queuedJob job).bind blockingTimer) (blockingWork job) s)

end Sys2Proof.Machine
end

