-- ==== Sys2Proof/Machine/Searches.lean ====
section
/-! DEFINITION. The Search Controller (chapter 7): touches (R131, R133 to R135), hold-offs (R136), expiry (R137),
closing (R138) and SEARCH_NONE (R142). -/

namespace Sys2Proof.Machine

open Sys2Proof

/-! ## Touch inputs (R131) -/

def touchPurpose : TouchInput → Purpose
  | .FL_UNLOCK => .UNLOCK | .FL_LOCK => .LOCK | .FR_UNLOCK => .UNLOCK | .FR_LOCK => .LOCK
  | .TG_OPEN => .UNLOCK

def touchLatch : TouchInput → Latch
  | .FL_UNLOCK => .FL | .FL_LOCK => .FL | .FR_UNLOCK => .FR | .FR_LOCK => .FR | .TG_OPEN => .TG

def setTouch (i : TouchInput) (b : Bool) (t : TouchLevels) : TouchLevels :=
  match i with
  | .FL_UNLOCK => { t with flUnlock := b }
  | .FL_LOCK => { t with flLock := b }
  | .FR_UNLOCK => { t with frUnlock := b }
  | .FR_LOCK => { t with frLock := b }
  | .TG_OPEN => { t with tgOpen := b }

/-- The debounced level of a touch input (R131). -/
def touchLevel (i : TouchInput) (t : TouchLevels) : Bool :=
  match i with
  | .FL_UNLOCK => t.flUnlock
  | .FL_LOCK => t.flLock
  | .FR_UNLOCK => t.frUnlock
  | .FR_LOCK => t.frLock
  | .TG_OPEN => t.tgOpen

/-! ## Hold-offs (R136) -/

/-- The hold-off of a latch; RL and RR have none (R132). -/
def SearchUnit.holdOff (u : SearchUnit) : Latch → Option Timer
  | .FL => u.holdFL
  | .FR => u.holdFR
  | .TG => u.holdTG
  | _ => none

def SearchUnit.setHoldOff (u : SearchUnit) (l : Latch) (t : Option Timer) : SearchUnit :=
  match l with
  | .FL => { u with holdFL := t }
  | .FR => { u with holdFR := t }
  | .TG => { u with holdTG := t }
  | _ => u

/-- A hold-off blocks while its end time has not come. -/
def heldOff (l : Latch) (s : State) : Bool := (s.search.holdOff l).isSome

/-! ## Opening and joining (R133 to R135) -/

/-- A LOCK touch is ignored while the crash latch is set or any ajar field is OPEN (R133, R135). -/
def touchBarred (p : Purpose) (s : State) : Bool := p = .LOCK && (s.crash.latch || s.anyAjar)

/-- The tag after a tag: from 255 to 1, never to 0 (R134). -/
def succTag (t : Nat) : Nat := if t < 255 then t + 1 else 1

/-- A search is opened (R134). -/
def openSearch (p : Purpose) (l : Latch) (s : State) : State :=
  raise .SEARCH_REQUEST { s with search := { s.search with
    current := some ⟨s.search.nextTag, p, [l], s.reading⟩
    nextTag := succTag s.search.nextTag } }

/-- A touch of the same purpose joins the open search (R135). -/
def joinSearch (x : OpenSearch) (l : Latch) (s : State) : State :=
  { s with search := { s.search with current := some { x with latches := addLatch l x.latches } } }

/-- A touch (R133, R135). -/
def touchWork (i : TouchInput) (s : State) : State :=
  let s := wake s
  let p := touchPurpose i
  let l := touchLatch i
  if touchBarred p s then s
  else
    match s.search.current with
    | some x => if x.purpose = p then joinSearch x l s else s
    | none => if heldOff l s then s else openSearch p l s

/-- TOUCH (R131): the change from untouched to touched is a touch, the change back is not reported, and an input
that is touched already, also since power-on, makes none until it is released. -/
def execTouch (i : TouchInput) (touched : Bool) (s : State) : Host.Outcome State Fault Refusal :=
  .next (lineEvent (touchLevel i s.pins.touch != touched)
    (fun x => { x with pins := { x.pins with touch := setTouch i touched x.pins.touch } })
    (fun x => if touched then touchWork i x else x) s)

/-! ## Expiry and closing (R137, R138) -/

/-- The outcomes after which each latch of the set is held off (R136). -/
def startsHoldOff : SearchOutcome → Bool
  | .NOT_FOUND => true
  | .EXPIRED => true
  | _ => false

def closedRecord (x : OpenSearch) (closed : Reading) (o : SearchOutcome) (a : Option SearchAnswer) :
    ClosedSearch :=
  ⟨x.tag, x.purpose, x.latches, x.opened, closed, o, a⟩

/-- The open search closes, with no notice (R138). -/
def closeQuietly (o : SearchOutcome) (a : Option SearchAnswer) (s : State) : State :=
  match s.search.current with
  | none => s
  | some x =>
    let u := { s.search with current := none, last := some (closedRecord x s.reading o a) }
    let u := if startsHoldOff o then
        x.latches.foldl (fun u l => u.setHoldOff l (some (s.timer holdOffSpan))) u
      else u
    { s with search := u }

/-- The open search closes and SEARCH_ENDED is raised (R138). -/
def closeSearch (o : SearchOutcome) (a : Option SearchAnswer) (s : State) : State :=
  if s.search.current.isSome then raise .SEARCH_ENDED (closeQuietly o a s) else s

/-- The age at which an open search expires: SEARCH_TIMEOUT as it stands (R137). -/
def searchTimer (s : State) : Option Timer :=
  s.search.current.map (fun x => ⟨x.opened.time, s.params.searchTimeout⟩)

/-- SEARCH_EXPIRY (R137). -/
def execSearchExpiry (s : State) : Host.Outcome State Fault Refusal :=
  .next (expiry searchTimer (closeSearch .EXPIRED none) s)

/-- A change that brings SEARCH_TIMEOUT to the present age or below makes the search expire at once (R137). -/
def checkSearch (s : State) : State :=
  match searchTimer s with
  | some t => if timerDue s.now t then closeSearch .EXPIRED none s else s
  | none => s

def endHoldOff (l : Latch) (s : State) : State := { s with search := s.search.setHoldOff l none }

/-- HOLD_OFF_END (R136). -/
def execHoldOffEnd (l : Latch) (s : State) : Host.Outcome State Fault Refusal :=
  .next (expiry (fun x => x.search.holdOff l) (endHoldOff l) s)

/-! ## Matching a tag (R139, R142) -/

inductive TagMatch | OPEN | LATE | WRONG_TAG
deriving DecidableEq, Repr

/-- A tag against the open search, then the last closed search (R139, R142). -/
def matchTag (tag : Nat) (s : State) : TagMatch :=
  if s.search.current.any (fun x => x.tag = tag) then .OPEN
  else if s.search.last.any (fun x => x.tag = tag) then .LATE
  else .WRONG_TAG

/-- SEARCH_NONE's effect and answer (R142, R170). -/
def takeSearchNone (tag : Byte) (s : State) : Answer × State :=
  match matchTag tag.toNat s with
  | .OPEN => (Answer.doneWith [(2, 0)], closeSearch .NOT_FOUND none s)
  | .LATE => (Answer.doneWith [(2, 1)], s)
  | .WRONG_TAG => (Answer.doneWith [(2, 2)], s)

end Sys2Proof.Machine
end

