-- ==== Sys2Proof/Machine/Fobs.lean ====
section
/-! DEFINITION. The Credential Table (chapter 6): verification (R114, R115), acceptance (R116), its actions (R14 to
R18, R140, R141), the comfort hold (R126 to R129) and the events of its timers. -/

namespace Sys2Proof.Machine

open Sys2Proof

/-! ## The comfort hold (R126 to R129) -/

/-- Stops what comfort has in one window: its run, its continuation, its queued job (R129). -/
def stopComfort (s : State) (w : Win) : State :=
  let r := s.win w
  let s :=
    if r.run = .RUNNING ∧ r.mode = .COMFORT then stopWindow w none s
    else if r.run = .BRAKING ∧ r.cont.any (fun c => !c.reversal && c.mode = .COMFORT) = true then
      dropContinuation w s
    else s
  match (s.queuedWindow w).bind Job.task? with
  | some t => if t.mode = .COMFORT then removeWindowJob w s else s
  | none => s

/-- The open hold closes: both timers stop and, where comfort has started, its runs and jobs are stopped or removed
(R129). -/
def closeHold (s : State) : State :=
  if s.hold.isOpen then
    let t := { s with hold := { s.hold with isOpen := false, startT := none, gapT := none } }
    if s.hold.started then Win.all.foldl stopComfort t else t
  else s

/-- A hold opens (R126). -/
def openHold (i : Fin 8) (c : Nat) (p : Port) (s : State) : State :=
  { s with hold :=
      { present := true
        isOpen := true
        slot := i
        counter := c
        port := p
        start := s.reading
        lastFrame := s.reading
        started := false
        startT := some (s.timer s.params.comfortHoldStart)
        gapT := some (s.timer gapSpan) } }

/-- A HOLD_EXTENDED frame restarts the gap timer (R127). -/
def extendHold (s : State) : State :=
  { s with hold := { s.hold with lastFrame := s.reading, gapT := some (s.timer gapSpan) } }

/-- The conditions of a comfort request for a window (R128). -/
def comfortFits (w : Win) (s : State) : Bool :=
  let r := s.win w
  fits .COMFORT .UP none w s = .FIT && 0 < r.P && ownerRank w s < 2 && r.run != .REVERSING &&
    !r.beforeReversal

/-- One window at the start of comfort (R128). -/
def comfortRequest (s : State) (w : Win) : State :=
  if comfortFits w s then
    (requestWindow ⟨w, .COMFORT, .UP, none, ⟨portOrigin s.hold.port, 2⟩⟩ .COMFORT s).2
  else s

/-- Comfort starts, in the order WFL, WFR, WRL, WRR (R128). -/
def startComfort (s : State) : State :=
  Win.all.foldl comfortRequest { s with hold := { s.hold with started := true, startT := none } }

/-- START_TIMER_EXPIRY (R128). -/
def execStartTimerExpiry (s : State) : Host.Outcome State Fault Refusal :=
  .next (expiry (·.hold.startT) startComfort s)

/-- GAP_TIMER_EXPIRY (R129). -/
def execGapTimerExpiry (s : State) : Host.Outcome State Fault Refusal :=
  .next (expiry (·.hold.gapT) closeHold s)

/-! ## Verification (R114, R115, R118) -/

/-- The ACTIVE slot that holds an identity (R114). -/
def activeSlot (identity : BitVec 32) (s : State) : Option (Fin 8) :=
  (List.finRange 8).find? (fun i => (s.fob i).status = .ACTIVE && (s.fob i).identity = identity)

/-- LOCK and LOCK_HELD count as the same button (R115). -/
def sameButton (a b : Button) : Bool :=
  a = b || ((a = .LOCK || a = .LOCK_HELD) && (b = .LOCK || b = .LOCK_HELD))

/-- Case 2 of R115: the same button as the last acceptance, on the other port, less than 500 ms after it. -/
def isDuplicate (f : FobSlot) (b : Button) (p : Port) (s : State) : Bool :=
  match f.acceptance with
  | some a => sameButton a.button b && a.port != p && youngerThan s a.time duplicateSpan
  | none => false

/-- The candidate confirms a counter (R115 case 5). -/
def confirms (f : FobSlot) (c : Nat) : Bool :=
  match f.candidate with
  | some x => decide (x.counter < c) && decide (c ≤ x.counter + 4)
  | none => false

/-- The result of R115's table, with the resync indication. -/
def verdict (i : Fin 8) (c : Nat) (b : Button) (p : Port) (s : State) : PresentResult × Bool :=
  let f := s.fob i
  if c = f.C ∧ b = .LOCK_HELD ∧ s.hold.isOpen = true ∧ s.hold.slot = i then (.HOLD_EXTENDED, false)
  else if c = f.C ∧ isDuplicate f b p s = true then (.DUPLICATE, false)
  else if c ≤ f.C then (.REPLAY, false)
  else if c ≤ f.C + 64 then (.ACCEPTED, false)
  else if c ≤ f.C + 32768 then
    if confirms f c then (.ACCEPTED, true) else (.RESYNC_NEEDED, false)
  else (.OUT_OF_WINDOW, false)

/-- A reject count rises by 1, saturating at 255 (R119). -/
def rejectSlot (i : Fin 8) (s : State) : State :=
  s.setFob i { s.fob i with rejects := min 255 ((s.fob i).rejects + 1) }

/-- The slot changes of a result that is not an acceptance (R115, R117, R127). -/
def declineSlot (r : PresentResult) (i : Fin 8) (c : Nat) (s : State) : State :=
  match r with
  | .HOLD_EXTENDED => extendHold s
  | .REPLAY => rejectSlot i s
  | .OUT_OF_WINDOW => rejectSlot i s
  | .RESYNC_NEEDED => s.setFob i { s.fob i with candidate := some ⟨c, s.reading⟩ }
  | _ => s

/-! ## Actions (R14, R15, R17, R18, R140, R141) -/

/-- An action's result, the job that holds it (0 for none), and the state. -/
structure Acted where
  result : ActionResult
  job : Nat
  state : State

/-- The action result of a job offered to the scheduler (R14, R15). -/
def actedBy (x : Taken × State) : Acted :=
  match x with
  | (.job id, s) => ⟨.DONE, id, s⟩
  | (.full, s) => ⟨.QUEUE_FULL, 0, s⟩

/-- The entry action record holds a button from the same slot less than 3 s old (R14, R15). -/
def secondPress (b : EntryButton) (i : Fin 8) (s : State) : Bool :=
  match s.entry with
  | some e => e.button = b && e.slot = i && youngerThan s e.time secondPressSpan
  | none => false

/-- An action that counts as an accepted latch request cancels the relock timer (R18). -/
def cancelIfDone (x : Acted) : Acted :=
  if x.result = .DONE then { x with state := cancelRelock x.state } else x

/-- The lock action (R14). -/
def lockAction (i : Fin 8) (p : Port) (s : State) : Acted :=
  if s.crash.latch then ⟨.CRASH_ACTIVE, 0, s⟩
  else if secondPress .LOCK i s then
    if s.anyAjar then ⟨.DEADLOCK_REFUSED, 0, s⟩
    else cancelIfDone (actedBy (formJob (portOrigin p) .DEADLOCK doorActs s))
  else if s.anyAjar then ⟨.DOOR_OPEN, 0, s⟩
  else cancelIfDone (actedBy (formJob (portOrigin p) .LOCK Act.latches s))

/-- Whether an entry unlock taken in this state starts the relock timer (R17, R156). -/
def relockAllowed (s : State) : Bool :=
  (s.vehicle = .ALL_LOCKED || s.vehicle = .DEADLOCKED) && s.params.relockTime != 0 && !s.crash.latch

/-- The relock timer starts, of the RELOCK_TIME held at that moment, in seconds (R17, R179). -/
def startRelock (s : State) : State := { s with relock := some (s.timer (s.params.relockTime * 1000)) }

/-- A DONE entry unlock: a running timer is cancelled, but not by a second press, and the status that stood when the
action was taken is then tested (R17, R18). -/
def entryUnlock (second : Bool) (allowed : Bool) (x : Acted) : Acted :=
  if x.result ≠ .DONE then x
  else if second = true ∧ x.state.relock.isSome = true then x
  else { x with state := if allowed then startRelock x.state else cancelRelock x.state }

/-- The latches of an unlock action (R15). -/
def unlockActs (second : Bool) (s : State) : List Act :=
  if s.params.selectiveUnlock = 0 then Act.latches
  else if second then Act.latches.filter (fun a => a ≠ .latch (driverLatch s.params))
  else [.latch (driverLatch s.params)]

/-- The unlock action (R15, R17). DESIGN CHOICE (log entry 50): the status is read before the job is formed. -/
def unlockAction (i : Fin 8) (p : Port) (s : State) : Acted :=
  let second := s.params.selectiveUnlock != 0 && secondPress .UNLOCK i s
  entryUnlock second (relockAllowed s) (actedBy (formJob (portOrigin p) .UNLOCK (unlockActs second s) s))

/-- The unlock action of an accepted passive answer (R140). DESIGN CHOICE (log entry 50): the vehicle lock status for the
relock test is read before the job is formed, so before a retry that the request abandons gives its latch a new state. -/
def passiveUnlock (x : OpenSearch) (s : State) : Acted :=
  let as := if s.params.passiveUnlockAll = 0 then x.latches.map Act.latch else Act.latches
  entryUnlock false (relockAllowed s) (actedBy (formJob .SEARCH .UNLOCK as s))

/-- The lock action of an accepted passive answer (R141). -/
def passiveLock (s : State) : Acted :=
  if s.anyAjar then ⟨.DOOR_OPEN, 0, s⟩
  else cancelIfDone (actedBy (formJob .SEARCH .LOCK Act.latches s))

/-- Step 4 of R116. -/
def actFor (b : Button) (i : Fin 8) (p : Port) (s : State) : Acted :=
  match b with
  | .UNLOCK => unlockAction i p s
  | .PASSIVE =>
    match s.search.current with
    | some x => if x.purpose = .UNLOCK then passiveUnlock x s else passiveLock s
    | none => ⟨.DONE, 0, s⟩
  | _ => lockAction i p s

/-! ## Acceptance (R116) -/

def entryButtonOf : Button → EntryButton
  | .LOCK => .LOCK
  | .LOCK_HELD => .LOCK
  | .UNLOCK => .UNLOCK
  | .PASSIVE => .PASSIVE

/-- Steps 1 and 2 of R116: the counter is consumed and the last acceptance recorded. -/
def consumeCounter (i : Fin 8) (c : Nat) (b : Button) (p : Port) (s : State) : State :=
  s.setFob i { s.fob i with
    C := c
    candidate := none
    commitPending := true
    acceptance := some ⟨s.reading, p, b⟩ }

/-- Step 3 of R116. -/
def closeByButton (b : Button) (s : State) : State := if b = .PASSIVE then s else closeHold s

/-- Step 6 of R116. -/
def openByButton (b : Button) (r : ActionResult) (i : Fin 8) (c : Nat) (p : Port) (s : State) : State :=
  if (b = .LOCK ∨ b = .LOCK_HELD) ∧ r = .DONE then openHold i c p s else s

/-- An ACCEPTED presentation, in the order of R116. -/
def accept (i : Fin 8) (c : Nat) (b : Button) (p : Port) (s : State) : Acted :=
  let x := actFor b i p (closeByButton b (consumeCounter i c b p s))
  let t := { x.state with entry := some ⟨entryButtonOf b, i, x.state.reading, p⟩ }
  { x with state := raise .ENTRY_ACCEPTED (openByButton b x.result i c p t) }

/-! ## PRESENT (R113, R120, R139, R170) -/

/-- What a presentation gives: its result, the resync indication, the action result and job of an acceptance, and
the slot. -/
structure Presented where
  result : PresentResult
  resync : Bool
  action : Option ActionResult
  job : Nat
  slot : Option (Fin 8)

def presentedAnswer (x : Presented) : Answer :=
  Answer.doneWith [(4, presentCode x.result), (1, bit x.resync),
    (3, (x.action.map actionCode).getD 7), (8, x.job), (4, (x.slot.map (·.val)).getD 15)]

/-- Verification and its effect (R114 to R116). -/
def verifyPresent (identity : BitVec 32) (c : Nat) (b : Button) (p : Port) (s : State) :
    Presented × State :=
  match activeSlot identity s with
  | none => (⟨.UNKNOWN_FOB, false, none, 0, none⟩, s)
  | some i =>
    let v := verdict i c b p s
    if v.1 = .ACCEPTED then
      let x := accept i c b p s
      (⟨.ACCEPTED, v.2, some x.result, x.job, some i⟩, x.state)
    else (⟨v.1, false, none, 0, some i⟩, declineSlot v.1 i c s)

/-- A verified PASSIVE answer closes the search (R138, R139). -/
def closeByAnswer (x : Presented × State) : Presented × State :=
  let a : SearchAnswer := ⟨x.1.slot, x.1.result, x.1.action, if x.1.job = 0 then none else some x.1.job⟩
  let o := if x.1.result = .ACCEPTED then SearchOutcome.FOUND_ACCEPTED else .FOUND_REJECTED
  (x.1, closeSearch o (some a) x.2)

/-- A PASSIVE presentation goes first to the Search Controller (R139). -/
def passivePresent (identity : BitVec 32) (c : Nat) (tag : Nat) (p : Port) (s : State) :
    Presented × State :=
  match matchTag tag s with
  | .OPEN => closeByAnswer (verifyPresent identity c .PASSIVE p s)
  | .LATE => (⟨.LATE, false, none, 0, none⟩, s)
  | .WRONG_TAG => (⟨.WRONG_TAG, false, none, 0, none⟩, s)

/-- PRESENT's checks, effect and answer (R113, R120). -/
def takePresent (p : Port) (identity : BitVec 32) (counter : BitVec 24) (button tag : Byte) (s : State) :
    Answer × State :=
  match buttonOf button with
  | none => (Answer.refused .BAD_INDEX, s)
  | some .PASSIVE =>
    if p = .M then (⟨.NOT_PERMITTED, 0#72⟩, s)
    else
      let x := passivePresent identity counter.toNat tag.toNat p s
      (presentedAnswer x.1, x.2)
  | some b =>
    let x := verifyPresent identity counter.toNat b p s
    (presentedAnswer x.1, x.2)

/-! ## Candidates (R117) -/

def dropCandidate (i : Fin 8) (s : State) : State := s.setFob i { s.fob i with candidate := none }

/-- CANDIDATE_LIFETIME_EXPIRY (R117). -/
def execCandidateLifetimeExpiry (slot : Fin 8) (s : State) : Host.Outcome State Fault Refusal :=
  .next (expiry (fun x => (x.fob slot).candidate.map (fun y => ⟨y.time.time, candidateSpan⟩))
    (dropCandidate slot) s)

end Sys2Proof.Machine
end

