-- ==== Sys2Proof/Machine/Crash.lean ====
section
/-! DEFINITION. Crash response (chapter 8): the line and its timers (R149), the indications (R151), the first
indication (R152, R153), the later launch (R157), CRASH_NOTIFY (R150) and CRASH_CLEAR (R158). -/

namespace Sys2Proof.Machine

open Sys2Proof

/-! ## The lock table and the queue at an indication (R152) -/

/-- Every latch retry wait ends: state from sensed, attempts 0, IDLE, reserved job discarded (R22). -/
def endRetryWait (s : State) (a : Act) : State :=
  if (s.act a).activity = .RETRY_WAIT then abandonRetry a .IDLE s else s

def endLatchWaits (s : State) : State := Act.latches.foldl endRetryWait s

def lockGoal (g : Option Goal) : Bool := g = some .LOCK || g = some .DEADLOCK

/-- A latch of a removed lock job becomes IDLE with attempts 0; one that strokes keeps its activity (R152). -/
def idleQueued (s : State) (a : Act) : State :=
  if (s.act a).activity = .QUEUED then setActivity a .IDLE (setAttempts a 0 s) else s

/-- Every queued LOCK or DEADLOCK job is removed, whatever its origin (R152). -/
def removeLockJobs (s : State) : State :=
  let gone := s.queue.filter (fun j => lockGoal j.goal?)
  if gone.isEmpty then s
  else
    let s := s.setQueue (s.queue.filter (fun j => !lockGoal j.goal?))
    trigger (gone.foldl (fun t j => j.acts.foldl idleQueued t) s)

/-- A member of a running UNLOCK stroke (R108). -/
def unlocking (l : Latch) (s : State) : Bool :=
  s.strokes.any (fun st => st.members.any (fun m => m.act = .latch l && m.target = .UNLOCKED))

/-- The crash set (R108). -/
def crashSet (s : State) : List Latch :=
  Latch.all.filter (fun l => (s.act (.latch l)).state != .UNLOCKED && !unlocking l s)

/-- A latch of pending is QUEUED with attempts 0 (R152). -/
def pendLatch (s : State) (l : Latch) : State :=
  setActivity (.latch l) .QUEUED (setAttempts (.latch l) 0 (dropQueued (.latch l) s))

/-- The crash job is launched: the crash set leaves the queued UNLOCK jobs and is pending in the open slot, an
admission trigger (R108, R152). -/
def launchCrash (s : State) : State :=
  let set := crashSet s
  let s := set.foldl pendLatch s
  trigger { s with slot := ⟨true, set, [], []⟩ }

/-- Windows at a launch: every run stops, every queued window job is removed (R153, R157). -/
def crashWindows (s : State) : State := removeAllWindowJobs (haltAllWindows s)

/-! ## Indications (R151) -/

/-- The first indication (R151 to R153). -/
def firstIndication (s : State) : State :=
  let s := { s with crash := { s.crash with latch := true } }
  let s := removeLockJobs (endLatchWaits (crashCut s))
  let s := crashWindows s
  let s := closeSearch .CANCELLED none (closeHold (cancelRelock s))
  launchCrash s

/-- A later indication with the slot closed (R157). -/
def relaunch (s : State) : State := launchCrash (crashWindows (endLatchWaits s))

/-- An indication: it sets last source and raises CRASH, and the latch and the slot decide the rest (R151). -/
def indication (src : CrashSource) (s : State) : State :=
  let s := raise .CRASH { s with crash := { s.crash with lastSource := some src } }
  if s.crash.latch = false then firstIndication s
  else if s.slot.isOpen then s
  else relaunch s

/-! ## The line (R149) -/

/-- CRASH_IN becomes active: an INACTIVE line qualifies, and the quiet time ends; standby has ended (R149, R184). -/
def lineActive (s : State) : State :=
  let s := wake s
  if s.crash.line = .INACTIVE then
    { s with crash := { s.crash with
        line := .QUALIFYING
        qualT := some (s.timer qualificationSpan)
        quiet := false
        quietT := none } }
  else s

/-- CRASH_IN becomes inactive: the quiet timer starts from zero (R149). -/
def lineInactive (s : State) : State :=
  if s.crash.line = .INACTIVE then s
  else
    { s with crash := { s.crash with
        line := .INACTIVE
        qualT := none
        quietT := some (s.timer quietSpan) } }

/-- The sampled level of CRASH_IN has changed, and the line follows it (R149). -/
def followLine (active : Bool) (s : State) : State :=
  if active then lineActive s else lineInactive s

/-- CRASH_IN_CHANGE (R149). The level is sampled from the first on, without debounce, so the line follows it while the
store loads as well; the latch keeps what the first sampled level gave it (R148; log entry 8). -/
def execCrashInChange (active : Bool) (s : State) : Host.Outcome State Fault Refusal :=
  .next (if s.pins.crashIn = active then s
    else
      let s := { s with pins := { s.pins with crashIn := active } }
      if s.phase = .LOADING then followLine active s else event (followLine active) s)

/-- The line has been active for 4 ms: one indication with source LINE (R149). The expiry does not end standby
(R184; log entry 13). -/
def qualified (s : State) : State :=
  indication .LINE { s with crash := { s.crash with line := .ACTIVE, qualT := none } }

/-- QUALIFICATION_TIMER_EXPIRY (R149). -/
def execQualificationTimerExpiry (s : State) : Host.Outcome State Fault Refusal :=
  .next (expiry (·.crash.qualT) qualified s)

def becomeQuiet (s : State) : State := { s with crash := { s.crash with quiet := true, quietT := none } }

/-- QUIET_TIMER_EXPIRY (R149). -/
def execQuietTimerExpiry (s : State) : Host.Outcome State Fault Refusal :=
  .next (expiry (·.crash.quietT) becomeQuiet s)

/-! ## Commands (R150, R158) -/

/-- CRASH_NOTIFY's effect and answer (R150). -/
def takeCrashNotify (s : State) : Answer × State := (Answer.done, indication .PORT_M s)

/-- CRASH_CLEAR's checks and effect (R158). -/
def takeCrashClear (s : State) : Answer × State :=
  if s.crash.latch = false then (Answer.done, s)
  else if s.crash.quiet = false then (Answer.refused .LINE_ACTIVE, s)
  else if s.slot.isOpen then (Answer.refused .BUSY_ACTIVITY, s)
  else (Answer.done, { s with crash := { s.crash with latch := false } })

end Sys2Proof.Machine
end

