-- ==== Sys2Proof/Machine/Store.lean ====
section
/-! DEFINITION. Commands and events of the Nonvolatile Store: parameters (R179, R180), enrolment (R123, R124),
profiles (R83 to R85), standby (R183) and the completions of writes (R121, R163, R178). -/

namespace Sys2Proof.Machine

open Sys2Proof

/-! ## In flight (R163) -/

/-- A command that takes time: its writes are requested and Port M is in flight with its code (R163). -/
def takeInFlight (code : Byte) (xs : List PortWrite) (s : State) : Answer × State :=
  let s := requestWrites xs s
  (⟨.IN_PROGRESS, 0#72⟩, s.setPort .M { s.port .M with inFlight := some code })

/-- The final status of the command in flight (R163). -/
def finalStatus (a : Answer) (s : State) : State :=
  let r := s.port .M
  match r.inFlight with
  | some code => s.setPort .M { r with inFlight := none, slot := ⟨code, a.status, a.data⟩ }
  | none => s

/-! ## Parameters (R179, R180, R182) -/

/-- The RAM copy changes, with the effects of every value that differs from the one it replaces (R179, R182). -/
def changeParams (v : Params) (s : State) : State :=
  let old := s.params
  let s := { s with params := v }
  let s := if v.driveBudget ≠ old.driveBudget then trigger s else s
  let s := if v.heatLimit ≠ old.heatLimit then Win.all.foldl (fun t w => testHold w t) s else s
  if v.searchTimeout ≠ old.searchTimeout then checkSearch s else s

/-- SET_PARAM's effect and answer (R179). -/
def takeSetParam (param : Byte) (value : BitVec 16) (s : State) : Answer × State :=
  match paramOfCode param.toNat with
  | none => (Answer.refused .BAD_INDEX, s)
  | some p =>
    let x := paramClamp p value.toNat
    (Answer.doneWith [(4, paramCode p), (16, x), (1, bit (x != value.toNat))],
      changeParams (paramSet s.params p x) s)

/-- READ_PARAM's answer (R180). -/
def takeReadParam (param : Byte) (s : State) : Answer × State :=
  match paramOfCode param.toNat with
  | none => (Answer.refused .BAD_INDEX, s)
  | some p =>
    let stored := if s.writer.paramsFailed then 65535 else paramGet s.store.params.values p
    (Answer.doneWith [(4, paramCode p), (16, paramGet s.params p), (16, stored),
      (16, paramGet Params.defaults p)], s)

/-- COMMIT_PARAMS's effect (R180). -/
def takeCommitParams (s : State) : Answer × State := takeInFlight 0x52#8 [.params] s

/-! ## Enrolment (R123, R124) -/

/-- ENROLL's checks and effect (R123). -/
def takeEnroll (slot : Byte) (identity : BitVec 32) (counter : BitVec 24) (s : State) : Answer × State :=
  match slotOf slot with
  | none => (Answer.refused .BAD_INDEX, s)
  | some i =>
    if identity = 0#32 then (Answer.refused .BAD_INDEX, s)
    else if (List.finRange 8).any (fun k => k ≠ i && (s.fob k).status = .ACTIVE &&
        (s.fob k).identity = identity) then (Answer.refused .DUPLICATE_IDENTITY, s)
    else takeInFlight 0x34#8 [.enroll i identity counter.toNat] s

/-- REVOKE's check and effect (R124). -/
def takeRevoke (slot : Byte) (s : State) : Answer × State :=
  match slotOf slot with
  | none => (Answer.refused .BAD_INDEX, s)
  | some i => takeInFlight 0x35#8 [.revoke i] s

/-! ## Profiles (R84, R85) -/

/-- SAVE_PROFILES's effect (R84). -/
def takeSaveProfiles (s : State) : Answer × State :=
  let ws := markedWindows s
  if ws.isEmpty then (Answer.done, s) else takeInFlight 0x23#8 (ws.map .profile) s

/-- A cleared profile: L UNKNOWN and every R 0; a monitored run is no longer clean and loses its scratch (R85). DESIGN
CHOICE (log entry 40): clean and scratch are reset in every phase of the monitor. -/
def clearedWindow (r : Window) : Window :=
  { r with
    profile := Profile.unknown
    mon := { r.mon with
      clean := false
      scratch := emptyScratch } }

/-- CLEAR_PROFILE's check and effect (R85). -/
def takeClearProfile (window : Byte) (s : State) : Answer × State :=
  match winOf window with
  | none => (Answer.refused .BAD_INDEX, s)
  | some w => takeInFlight 0x22#8 [.profile w] (markProfile w (s.setWin w (clearedWindow (s.win w))))

/-! ## Standby (R183) -/

/-- The conditions of standby (R183). -/
def standbyFree (s : State) : Bool :=
  s.queue.isEmpty && s.strokes.isEmpty && Win.all.all (fun w => !busy (s.win w).run) &&
    Act.all.all (fun a => (s.act a).activity != .RETRY_WAIT) && !s.slot.isOpen &&
    s.search.current.isNone && !s.hold.isOpen && s.relock.isNone &&
    (List.finRange 8).all (fun i => !(s.fob i).commitPending)

/-- STANDBY's tests and effect (R183). -/
def takeStandby (s : State) : Answer × State :=
  if standbyFree s then
    let ws := markedWindows s
    if ws.isEmpty then (Answer.doneWith [(1, 1)], { s with phase := .STANDBY })
    else takeInFlight 0x71#8 (ws.map .profile) s
  else (Answer.refused .BUSY_ACTIVITY, s)

/-- The retest at the completion of STANDBY's last write (R183). -/
def retestStandby (s : State) : State :=
  if standbyFree s && (markedWindows s).isEmpty then
    finalStatus (Answer.doneWith [(1, 1)]) { s with phase := .STANDBY }
  else finalStatus (Answer.doneWith [(1, 0)]) s

/-! ## Completions (R121, R163, R178) -/

/-- The command in flight is done when its last write has completed (R163). -/
def portWriteDone (x : Writing) (s : State) : State :=
  if x.byPort && s.writer.portQueue.isEmpty then
    if (s.port .M).inFlight = some 0x71#8 then retestStandby s else finalStatus Answer.done s
  else s

/-- No write runs. -/
def storeIdle (s : State) : State := { s with writer := { s.writer with running := none } }

/-- A slot item reaches the store with a fresh check byte (R177). -/
def setStoredSlot (i : Fin 8) (x : SlotRecord) (s : State) : State :=
  { s with store := { s.store with slots := s.store.slots.set i (storedSlot x) } }

/-- A commit completes: stored C is what was written, and commit pending clears where C still equals it (R121). -/
def commitDone (i : Fin 8) (x : SlotRecord) (s : State) : State :=
  let s := setStoredSlot i x s
  let f := s.fob i
  s.setFob i { f with storedC := x.counter, commitPending := f.C != x.counter }

/-- The hold of a slot that is enrolled or revoked closes (R129). -/
def closeHoldOf (i : Fin 8) (s : State) : State := if s.hold.slot = i then closeHold s else s

/-- An ENROLL write completes (R123). -/
def enrollDone (i : Fin 8) (x : SlotRecord) (s : State) : State :=
  closeHoldOf i ((setStoredSlot i x s).setFob i
    { status := .ACTIVE
      identity := x.identity
      C := x.counter
      storedC := x.counter
      candidate := none
      rejects := 0
      acceptance := none
      commitPending := false })

/-- A REVOKE write completes (R124). -/
def revokeDone (i : Fin 8) (s : State) : State :=
  closeHoldOf i ((setStoredSlot i SlotRecord.empty s).setFob i FobSlot.empty)

/-- A profile write completes: marked clears where the profile has not changed since it began (R83). -/
def profileDone (w : Win) (p : Profile) (changed : Bool) (s : State) : State :=
  let s := { s with store := { s.store with profiles := s.store.profiles.set w (storedProfile p) } }
  s.setWin w { s.win w with mon := { (s.win w).mon with marked := changed } }

/-- The parameter block's write completes (R180). -/
def paramsDone (p : Params) (s : State) : State :=
  { s with
    store := { s.store with params := storedParams p }
    writer := { s.writer with paramsFailed := false } }

/-- The contents of a completed write reach the store and the records (R83, R121, R123, R124, R180). -/
def writeDone (x : Writing) (s : State) : State :=
  let s := storeIdle s
  match x.payload with
  | .commit i r => commitDone i r s
  | .enroll i r => enrollDone i r s
  | .revoke i => revokeDone i s
  | .profile w p => profileDone w p x.changed s
  | .params p => paramsDone p s

/-- The running write, where it is of a kind. -/
def runningOf (kind : Payload → Bool) (s : State) : Option Writing :=
  match s.writer.running with
  | some x => if kind x.payload then some x else none
  | none => none

def isCommit : Payload → Bool
  | .commit _ _ => true
  | _ => false

def isEnroll : Payload → Bool
  | .enroll _ _ => true
  | _ => false

def isRevoke : Payload → Bool
  | .revoke _ => true
  | _ => false

def isProfile : Payload → Bool
  | .profile _ _ => true
  | _ => false

def isParams : Payload → Bool
  | .params _ => true
  | _ => false

/-- The completion of the running write where it is of a kind. -/
def completion (kind : Payload → Bool) (s : State) : State :=
  match runningOf kind s with
  | some x => portWriteDone x (writeDone x s)
  | none => s

def writeTimer (kind : Payload → Bool) (s : State) : Option Timer := (runningOf kind s).map (·.timer)

/-- COMMIT_WRITE_COMPLETE (R121). -/
def execCommitWriteComplete (s : State) : Host.Outcome State Fault Refusal :=
  .next (expiry (writeTimer isCommit) (completion isCommit) s)

/-- PROFILE_WRITE_COMPLETE (R83). -/
def execProfileWriteComplete (s : State) : Host.Outcome State Fault Refusal :=
  .next (expiry (writeTimer isProfile) (completion isProfile) s)

/-- ENROLL_WRITE_COMPLETE (R123). -/
def execEnrollWriteComplete (s : State) : Host.Outcome State Fault Refusal :=
  .next (expiry (writeTimer isEnroll) (completion isEnroll) s)

/-- REVOKE_WRITE_COMPLETE (R124). -/
def execRevokeWriteComplete (s : State) : Host.Outcome State Fault Refusal :=
  .next (expiry (writeTimer isRevoke) (completion isRevoke) s)

/-- PARAM_WRITE_COMPLETE (R180). -/
def execParamWriteComplete (s : State) : Host.Outcome State Fault Refusal :=
  .next (expiry (writeTimer isParams) (completion isParams) s)

end Sys2Proof.Machine
end

