-- ==== Sys2Proof/Machine/Reads.lean ====
section
/-! DEFINITION. The reads (R106, R145, R167 to R172, R174): what each answer carries, field by field, with its width.
A field that is absent carries all ones unless its table says otherwise (R160). -/

namespace Sys2Proof.Machine

open Sys2Proof

/-- An age as a read reports it: 65535 for an expired reading (R185). -/
def ageField (s : State) (r : Reading) : Nat := sat16 (ageAt s.now r)

/-! ## READ_LATCHES (R167) -/

def latchFields (s : State) (l : Latch) : List (Nat × Nat) :=
  let r := s.act (.latch l)
  [(2, positionCode r.state), (2, sensedCode (s.sensed (.latch l))), (2, activityCode r.activity),
    (2, lockFaultCode r.fault), (1, if s.pins.ajarOpen.get l then 0 else 1)]

/-- A child actuator's sensed is always valid (R3), so its one bit is that of the position. -/
def childFields (s : State) (c : Child) : List (Nat × Nat) :=
  let r := s.act (.child c)
  [(1, positionCode r.state), (1, sensedCode (s.sensed (.child c))), (2, activityCode r.activity),
    (2, lockFaultCode r.fault)]

def takeReadLatches (s : State) : Answer × State :=
  (Answer.doneWith ((Latch.all.flatMap (latchFields s)) ++ (Child.all.flatMap (childFields s)) ++
    [(2, polarityCode (s.polarity .DOOR)), (2, polarityCode (s.polarity .TAIL)),
     (2, vehicleCode s.vehicle), (1, bit s.crash.latch), (2, crashSourceCode s.crash.lastSource),
     (1, bit s.crash.quiet), (1, bit s.slot.isOpen)]), s)

/-! ## READ_WINDOW (R168) -/

def motionPage (s : State) (w : Win) : List (Nat × Nat) :=
  let r := s.win w
  let o := s.owner w
  [(3, runStateCode r.run), (2, runModeCode r.mode), (1, dirCode r.dir), (8, r.job.getD 0),
    (1, bit r.cont.isSome), (2, (r.cont.map (fun c => runModeCode c.mode)).getD (ones 2)),
    (1, (r.cont.map (fun c => dirCode c.dir)).getD (ones 1)), (1, bit r.normalized), (16, r.P),
    (16, r.target.getD 65535), (4, (o.map (fun c => originCode c.origin)).getD 15),
    (2, (o.map (·.rank)).getD 0), (3, windowFaultCode r.fault), (1, bit r.held), (2, r.tally),
    (2, monitorPhaseCode r.mon.phase)]

def travelPage (s : State) (w : Win) : List (Nat × Nat) :=
  let r := s.win w
  [(16, r.profile.L.getD 0), (1, bit (s.learned w)), (1, bit r.mon.marked), (10, r.H),
    (15, s.pins.supply)]

/-- The cause of the last pinch; 3 where it is absent (R168). -/
def causeField (r : Window) : Nat := (r.mon.lastPinch.map (fun x => pinchCauseCode x.cause)).getD 3

def pinchPage1 (s : State) (w : Win) : List (Nat × Nat) :=
  let r := s.win w
  match r.mon.lastPinch with
  | some x => [(2, causeField r), (16, x.position), (6, x.zone.getD 63), (2, pinchTestCode x.test),
      (16, x.F)]
  | none => [(2, 3), (16, ones 16), (6, 63), (2, ones 2), (16, ones 16)]

def pinchPage2 (s : State) (w : Win) : List (Nat × Nat) :=
  let r := s.win w
  match r.mon.lastPinch with
  | some x => [(2, causeField r), (16, x.reference), (16, x.Fmin)]
  | none => [(2, 3), (16, ones 16), (16, ones 16)]

/-- The pages of READ_WINDOW (R168). -/
def windowPage (s : State) (w : Win) : Nat → Option (List (Nat × Nat))
  | 0 => some (motionPage s w)
  | 1 => some (travelPage s w)
  | 2 => some (pinchPage1 s w)
  | 3 => some (pinchPage2 s w)
  | _ => none

/-- A page, or BAD_INDEX (R166). -/
def pageAnswer (fields : Option (List (Nat × Nat))) : Answer :=
  match fields with
  | some fs => Answer.doneWith fs
  | none => Answer.refused .BAD_INDEX

def takeReadWindow (window page : Byte) (s : State) : Answer × State :=
  (pageAnswer ((winOf window).bind (fun w => windowPage s w page.toNat)), s)

/-! ## READ_SEARCH (R145, R169) -/

/-- A set of FL, FR and TG as bits 0 to 2 (R169). -/
def searchSet (ls : List Latch) : Nat :=
  bit (ls.contains .FL) + 2 * bit (ls.contains .FR) + 4 * bit (ls.contains .TG)

/-- The time a closed search was open: closed time less opened time, no age, so the expired marks have no part in
it (R145, R185). -/
def openTime (x : ClosedSearch) : Nat := sat16 (x.closed.time - x.opened.time).toNat

def searchPage0 (s : State) : List (Nat × Nat) :=
  match s.search.current, s.search.last with
  | some x, _ =>
    [(2, 0), (8, x.tag), (1, purposeCode x.purpose), (3, searchSet x.latches), (16, ageField s x.opened),
      (16, 0), (3, 7), (8, s.search.nextTag)]
  | none, some x =>
    [(2, 1), (8, x.tag), (1, purposeCode x.purpose), (3, searchSet x.latches), (16, openTime x),
      (16, ageField s x.closed), (3, outcomeCode x.outcome), (8, s.search.nextTag)]
  | none, none =>
    [(2, 2), (8, 0), (1, ones 1), (3, ones 3), (16, ones 16), (16, ones 16), (3, 7),
      (8, s.search.nextTag)]

def holdOffLeft (s : State) (l : Latch) : Nat :=
  match s.search.holdOff l with
  | some t => timerLeft s.now t
  | none => 0

/-- The answer a closed search holds; absent unless the indication is CLOSED with a FOUND outcome (R169). -/
def reportedAnswer (u : SearchUnit) : Option SearchAnswer :=
  if u.current.isSome then none
  else u.last.bind (fun x => if x.outcome = .FOUND_ACCEPTED ∨ x.outcome = .FOUND_REJECTED then x.answer else none)

def searchPage1 (s : State) : List (Nat × Nat) :=
  let a := reportedAnswer s.search
  [(2, if s.search.current.isSome then 0 else if s.search.last.isSome then 1 else 2),
    (4, ((a.bind (·.slot)).map (·.val)).getD 15), (4, (a.map (fun x => presentCode x.result)).getD 15),
    (3, ((a.bind (·.action)).map actionCode).getD 7), (8, (a.bind (·.job)).getD 0),
    (11, holdOffLeft s .FL), (11, holdOffLeft s .FR), (11, holdOffLeft s .TG)]

def searchPage (s : State) : Nat → Option (List (Nat × Nat))
  | 0 => some (searchPage0 s)
  | 1 => some (searchPage1 s)
  | _ => none

def takeReadSearch (page : Byte) (s : State) : Answer × State := (pageAnswer (searchPage s page.toNat), s)

/-! ## READ_LAST_ENTRY (R169) -/

def entryFields (s : State) : List (Nat × Nat) :=
  match s.entry with
  | some e => [(1, 1), (2, entryButtonCode e.button), (3, e.slot.val), (1, portCode e.port),
      (16, ageField s e.time)]
  | none => [(1, 0), (2, 0), (3, 0), (1, 0), (16, 0)]

def holdFields (s : State) : List (Nat × Nat) :=
  let h := s.hold
  if h.present then
    [(1, 1), (1, bit h.isOpen), (3, h.slot.val), (1, portCode h.port), (1, bit h.started),
      (16, ageField s h.start), (16, ageField s h.lastFrame)]
  else [(1, 0), (1, 0), (3, 0), (1, 0), (1, 0), (16, 0), (16, 0)]

def lastEntryPage (s : State) : Nat → Option (List (Nat × Nat))
  | 0 => some (entryFields s ++ holdFields s)
  | 1 => some [(1, bit s.hold.present), (24, if s.hold.present then s.hold.counter else 0)]
  | _ => none

def takeReadLastEntry (page : Byte) (s : State) : Answer × State :=
  (pageAnswer (lastEntryPage s page.toNat), s)

/-! ## The cursor (R106, R171, R172) -/

/-- SELECT's checks and effect (R171). -/
def takeSelect (p : Port) (table window index stepByte : Byte) (s : State) : Answer × State :=
  let c := (s.port p).cursor
  match tableOf table, stepOf stepByte with
  | some t, some st =>
    let w := if t = .PROFILE then winOf window else some c.window
    match w with
    | some w =>
      if index.toNat < tableSize t then
        (Answer.done, s.setPort p { s.port p with cursor := ⟨t, w, index.toNat, st⟩ })
      else (Answer.refused .BAD_INDEX, s)
    | none => (Answer.refused .BAD_INDEX, s)
  | _, _ => (Answer.refused .BAD_INDEX, s)

def fobEntry (s : State) (k : Nat) : List (Nat × Nat) :=
  match s.fobs.toList[k]? with
  | some f =>
    let on := decide (f.status = .ACTIVE)
    [(3, k), (2, slotStatusCode f.status), (1, bit f.candidate.isSome),
      (32, if on then f.identity.toNat else 0), (24, if on then f.C else 0), (8, f.rejects)]
  | none => []

def profileEntry (s : State) (w : Win) (k : Nat) : List (Nat × Nat) :=
  let r := s.win w
  [(2, winCode w), (5, k), (16, r.profile.R.toList.getD k 0), (16, r.profile.L.getD 0),
    (1, bit (s.learned w)), (1, bit r.mon.marked)]

/-- A latch set as bits 0 to 4, a side set as bits 0 and 1. -/
def latchBits (as : List Act) : Nat :=
  bit (as.contains (.latch .FL)) + 2 * bit (as.contains (.latch .FR)) + 4 * bit (as.contains (.latch .RL))
    + 8 * bit (as.contains (.latch .RR)) + 16 * bit (as.contains (.latch .TG))

def childBits (as : List Act) : Nat :=
  bit (as.contains (.child .CRL)) + 2 * bit (as.contains (.child .CRR))

/-- A goal of the child class (R87). -/
def isChildGoal : Goal → Bool
  | .ENGAGE => true
  | .RELEASE => true
  | _ => false

/-- The class of a job: LATCH, CHILD or WINDOW (R87). -/
def classCode (j : Job) : Nat :=
  match j.targets with
  | .lock g _ => if isChildGoal g then 1 else 0
  | .window _ => 2

/-- The 21 bits of a job's targets, by class (R172). -/
def targetFields (j : Job) : List (Nat × Nat) :=
  match j.targets with
  | .lock g as =>
    if isChildGoal g then [(2, childBits as), (1, goalCode g), (18, 0)]
    else [(5, latchBits as), (2, goalCode g), (14, 0)]
  | .window t => [(2, winCode t.win), (2, runModeCode t.mode), (1, dirCode t.dir), (16, t.target.getD 65535)]

def queueSummary (s : State) : List (Nat × Nat) :=
  [(5, s.queue.length), (1, bit s.nearFull), (5, s.units), (5, s.params.driveBudget), (1, bit s.slot.isOpen)]

def queueEntry (s : State) (k : Nat) : List (Nat × Nat) :=
  match s.queue[k]? with
  | some j =>
    [(8, j.id), (4, originCode j.origin), (2, classCode j), (1, priorityCode j.priority),
      (1, bit j.blocking), (1, bit j.shed)] ++ targetFields j ++ [(16, ageField s j.enqueued)] ++
      queueSummary s
  | none => [(8, 0), (4, 0), (2, 0), (1, 0), (1, 0), (1, 0), (21, 0), (16, 0)] ++ queueSummary s

def cursorEntry (s : State) (c : Cursor) : List (Nat × Nat) :=
  match c.table with
  | .FOB => fobEntry s c.index
  | .PROFILE => profileEntry s c.window c.index
  | .QUEUE => queueEntry s c.index

/-- The index after a READ_NEXT, modulo the table's size (R172). -/
def nextIndex (c : Cursor) : Nat :=
  match c.step with
  | .FORWARD => (c.index + 1) % tableSize c.table
  | .BACKWARD => (c.index + tableSize c.table - 1) % tableSize c.table
  | .STAY => c.index

/-- READ_NEXT's answer and the move of the index (R172). -/
def takeReadNext (p : Port) (s : State) : Answer × State :=
  let c := (s.port p).cursor
  (Answer.doneWith (cursorEntry s c),
    s.setPort p { s.port p with cursor := { c with index := nextIndex c } })

/-! ## Notices (R174, R175) -/

def takeReadNotices (p : Port) (s : State) : Answer × State :=
  (Answer.doneWith [(16, (s.port p).pending.toNat), (16, (s.port p).mask.toNat),
    (1, bit (s.attention p))], s)

def takeClearNotices (p : Port) (kinds : BitVec 16) (s : State) : Answer × State :=
  (Answer.done, s.setPort p { s.port p with pending := (s.port p).pending &&& ~~~kinds })

def takeSetMask (p : Port) (kinds : BitVec 16) (s : State) : Answer × State :=
  (Answer.done, s.setPort p { s.port p with mask := kinds &&& allKinds })

end Sys2Proof.Machine
end

