-- ==== Sys2Proof/Machine/Ports.lean ====
section
/-! DEFINITION. The Port Interface (chapter 9): transfers (R159, R163, R184), the tests of a received transfer (R161),
the taking of a command and its answer (R162, R165), RESTART (R182), and the meaning of every command of the two
ports. -/

namespace Sys2Proof.Machine

open Sys2Proof

/-! ## LATCH_REQUEST and CHILD_REQUEST (R12, R13) -/

/-- The scheduler's answer to a request (R90, R92). -/
def takenAnswer (x : Taken × State) : Answer × State :=
  match x with
  | (.job id, s) => (Answer.accepted id, s)
  | (.full, s) => (Answer.refused .QUEUE_FULL, s)

/-- An ACCEPTED latch request cancels the relock timer (R12, R18). -/
def latchTakenAnswer (x : Taken × State) : Answer × State :=
  match x with
  | (.job id, s) => (Answer.accepted id, cancelRelock s)
  | (.full, s) => (Answer.refused .QUEUE_FULL, s)

/-- LATCH_REQUEST's checks in their order, and its effect (R12). -/
def takeLatchRequest (set target : Byte) (s : State) : Answer × State :=
  match latchSetOf set, latchGoalOf target with
  | some as, some g =>
    if g ≠ .UNLOCK ∧ s.crash.latch = true then (Answer.refused .CRASH_ACTIVE, s)
    else if g = .DEADLOCK ∧ s.anyAjar = true then (Answer.refused .DOOR_OPEN, s)
    else latchTakenAnswer (formJob .PORT_M g as s)
  | _, _ => (Answer.refused .BAD_INDEX, s)

/-- CHILD_REQUEST's checks and effect (R13). -/
def takeChildRequest (sides action : Byte) (s : State) : Answer × State :=
  match childSetOf sides, childGoalOf action with
  | some as, some g => takenAnswer (formJob .PORT_M g as s)
  | _, _ => (Answer.refused .BAD_INDEX, s)

/-! ## RESTART (R182) -/

/-- A member of a stroke that RESTART cuts: state from sensed, IDLE, attempts 0 (R21). -/
def restartMember (s : State) (m : Member) : State := releaseAct m.act .IDLE s

def restartStroke (s : State) (st : Stroke) : State :=
  settleJob st.job (st.members.foldl restartMember (removeStroke st s))

/-- Step 1: every stroke is cut, every driven window brakes, every braking window loses its continuation. -/
def restartDrives (s : State) : State :=
  let s := { s with slot := CrashSlot.closed }
  haltAllWindows (trigger (s.strokes.foldl restartStroke s))

/-- An actuator after RESTART: a retry wait ends with state from sensed; IDLE, attempts 0 (R1, R2, R22). -/
def restartAct (s : State) (a : Act) : State :=
  if (s.act a).activity = .RETRY_WAIT then releaseAct a .IDLE s
  else setActivity a .IDLE (setAttempts a 0 s)

def restartWindow (s : State) (w : Win) : State :=
  if (s.win w).run = .QUEUED then idleWindow w s else s

/-- Step 2: the records. -/
def restartRecords (s : State) : State :=
  let s := { s with queue := [], nearFull := false }
  let s := Win.all.foldl restartWindow (Act.all.foldl restartAct s)
  let s := closeQuietly .CANCELLED none s
  { s with
    hold := Hold.closed
    relock := none
    keyLock := none
    entry := none
    spent := ⟨⟨false, false, false, false⟩, false, false, false⟩ }

/-- Step 3: the parameters are reloaded from the store (R182). -/
def restartParams (s : State) : State :=
  changeParams (loadedParams s.store.params)
    { s with writer := { s.writer with paramsFailed := !s.store.params.ok } }

/-- The kinds pending after a power-on or a RESTART (R173, R181, R182). -/
def startKinds (failed : Bool) : BitVec 16 :=
  if failed then Notice.RESTARTED.bit ||| Notice.PARAM_DEFAULTED.bit else Notice.RESTARTED.bit

/-- Step 4: both pending sets are cleared, and RESTARTED is raised, with PARAM_DEFAULTED where the block failed. -/
def restartNotices (s : State) : State :=
  let k := startKinds (!s.store.params.ok)
  { s with ports := ⟨{ s.ports.m with pending := k }, { s.ports.e with pending := k }⟩ }

/-- RESTART (R182). -/
def takeRestart (s : State) : Answer × State :=
  (Answer.done, restartNotices (restartParams (restartRecords (restartDrives s))))

/-! ## Transfers (R159, R161, R163) -/

/-- The twelve bytes of a response frame: code, status, nine data bytes with the low bits first, and the check
(R160, R164). -/
def Response.frame (r : Response) : List Byte :=
  let body := [r.code, BitVec.ofNat 8 r.status.code] ++
    (List.range 9).map (fun k => r.data.extractLsb' (8 * k) 8)
  body ++ [checkByte body]

/-- Byte `k` that a transfer shifts out: the response as it stood at its beginning, 0xFF beyond the twelfth byte;
none where the data-out line is undriven (R159). -/
def Transfer.byteOut (t : Transfer) (k : Nat) : Option Byte :=
  if t.driven then some (t.out.frame.getD k 0xFF#8) else none

/-- Bit `n` that a port shifts out, the most significant bit of each byte first; none while select is inactive
(R159). -/
def State.bitOut (s : State) (p : Port) (n : Nat) : Option Bool :=
  ((s.port p).transfer.bind (fun t => t.byteOut (n / 8))).map (fun b => b.getMsbD (n % 8))

/-- A transfer begins: the slot as it stands is sent, and the in-flight state is noted (R159, R163). A port whose
transfer is under way begins none; one that begins while the store loads has its data-out line undriven. -/
def beginTransfer (p : Port) (s : State) : State :=
  let r := s.port p
  if r.transfer.isSome then s
  else s.setPort p { r with transfer := some ⟨s.phase != .LOADING, r.inFlight.isSome, r.slot⟩ }

/-- Standby ends, and a transfer begins (R163, R184). -/
def transferBegins (p : Port) (s : State) : State := beginTransfer p (awaken s)

/-- TRANSFER_BEGIN (R159, R163, R184). -/
def execTransferBegin (p : Port) (s : State) : Host.Outcome State Fault Refusal :=
  .next (transferBegins p s)

def endTransfer (p : Port) (s : State) : State := s.setPort p { s.port p with transfer := none }

/-- The response slot is replaced (R162). -/
def respond (p : Port) (code : Byte) (a : Answer) (s : State) : State :=
  s.setPort p { s.port p with slot := ⟨code, a.status, a.data⟩ }

/-- A request is taken: the command takes effect, and its response is formed in the same event (R159). -/
def taken (p : Port) (code : Byte) (f : State → Answer × State) (s : State) : State :=
  let x := f (awaken s)
  respond p code x.1 x.2

/-- A command whose effect can call for an admission attempt or a write, made in the same event (R96, R178). -/
def acting (f : State → Answer × State) (s : State) : Answer × State :=
  let x := f s
  (x.1, finish x.2)

/-- What the end of a transfer finds: it was not driven or its port was in flight at its beginning, so its request is
not taken and the slot stands (R159, R161 test 1); or its bytes are tested. -/
def transferEnd (p : Port) (tested : State → State) (s : State) : State :=
  let s := if (s.port p).transfer.isSome then s else transferBegins p s
  match (s.port p).transfer with
  | some t =>
    let s := endTransfer p s
    if s.phase = .LOADING ∨ t.driven = false ∨ t.inFlight = true then s else tested s
  | none => s

/-- A command arrives on a port in a whole transfer with a good check: not permitted there, or taken (R161 tests 5
and 6). -/
def request (p : Port) (code : Byte) (f : State → Answer × State) (s : State) : State :=
  if permittedOn p code then taken p code f s else respond p code ⟨.NOT_PERMITTED, 0#72⟩ s

/-! ## The commands (R165) -/

/-- The answer and effect of each command of the catalogue; a row that is no port command has none. -/
def effectOf (i : Instr) (s : State) : Answer × State :=
  match i with
  | .nop _ => (Answer.done, s)
  | .readNotices p => takeReadNotices p s
  | .clearNotices p k => takeClearNotices p k s
  | .setMask p k => takeSetMask p k s
  | .readLatches _ => takeReadLatches s
  | .latchRequest _ set target => acting (takeLatchRequest set target) s
  | .childRequest _ sides action => acting (takeChildRequest sides action) s
  | .readWindow _ w g => takeReadWindow w g s
  | .windowRequest _ w a x => acting (takeWindowRequest w a x) s
  | .clearProfile _ w => acting (takeClearProfile w) s
  | .saveProfiles _ => acting takeSaveProfiles s
  | .present p i c b t => acting (takePresent p i c b t) s
  | .searchNone _ t => takeSearchNone t s
  | .readSearch _ g => takeReadSearch g s
  | .readLastEntry _ g => takeReadLastEntry g s
  | .enroll _ k i c => acting (takeEnroll k i c) s
  | .revoke _ k => acting (takeRevoke k) s
  | .select p t w i st => takeSelect p t w i st s
  | .readNext p => takeReadNext p s
  | .setParam _ c v => acting (takeSetParam c v) s
  | .readParam _ c => takeReadParam c s
  | .commitParams _ => acting takeCommitParams s
  | .crashNotify _ => acting takeCrashNotify s
  | .crashClear _ => takeCrashClear s
  | .restart _ => acting takeRestart s
  | .standby _ => acting takeStandby s
  | _ => (Answer.done, s)

/-- The tests of a received transfer, in the order of R161 from test 2 on. -/
def testTransfer (p : Port) (bytes : List Byte) (trailing : Bool) (s : State) : State :=
  let code := bytes.headD 0#8
  if bytes.length ≠ frameLength ∨ trailing = true then respond p code ⟨.FRAME_ERROR, 0#72⟩ s
  else if goodCheck bytes = false then respond p code ⟨.CHECK_FAILED, 0#72⟩ s
  else
    match decodeRequest p code (bytes.tail.take 10) with
    | none => respond p code ⟨.UNKNOWN_COMMAND, 0#72⟩ s
    | some i => request p code (effectOf i) s

/-- TRANSFER_END (R161). -/
def execTransferEnd (p : Port) (bytes : List Byte) (trailing : Bool) (s : State) :
    Host.Outcome State Fault Refusal := .next (transferEnd p (testTransfer p bytes trailing) s)

/-- A command's row: the end of the transfer that carries it. -/
def commandRow (p : Port) (code : Byte) (f : State → Answer × State) (s : State) :
    Host.Outcome State Fault Refusal := .next (transferEnd p (request p code f) s)

/-- NOP (R166). -/
def execNop (p : Port) (s : State) : Host.Outcome State Fault Refusal :=
  commandRow p 0x00#8 (fun x => (Answer.done, x)) s

/-- READ_NOTICES (R174). -/
def execReadNotices (p : Port) (s : State) : Host.Outcome State Fault Refusal :=
  commandRow p 0x01#8 (takeReadNotices p) s

/-- CLEAR_NOTICES (R174). -/
def execClearNotices (p : Port) (kinds : BitVec 16) (s : State) : Host.Outcome State Fault Refusal :=
  commandRow p 0x02#8 (takeClearNotices p kinds) s

/-- SET_MASK (R175). -/
def execSetMask (p : Port) (kinds : BitVec 16) (s : State) : Host.Outcome State Fault Refusal :=
  commandRow p 0x03#8 (takeSetMask p kinds) s

/-- READ_LATCHES (R167). -/
def execReadLatches (p : Port) (s : State) : Host.Outcome State Fault Refusal :=
  commandRow p 0x10#8 takeReadLatches s

/-- LATCH_REQUEST (R12). -/
def execLatchRequest (p : Port) (set target : Byte) (s : State) : Host.Outcome State Fault Refusal :=
  commandRow p 0x11#8 (acting (takeLatchRequest set target)) s

/-- CHILD_REQUEST (R13). -/
def execChildRequest (p : Port) (sides action : Byte) (s : State) : Host.Outcome State Fault Refusal :=
  commandRow p 0x12#8 (acting (takeChildRequest sides action)) s

/-- READ_WINDOW (R168). -/
def execReadWindow (p : Port) (window page : Byte) (s : State) : Host.Outcome State Fault Refusal :=
  commandRow p 0x20#8 (takeReadWindow window page) s

/-- WINDOW_REQUEST (R46, R47). -/
def execWindowRequest (p : Port) (window action : Byte) (position : BitVec 16) (s : State) :
    Host.Outcome State Fault Refusal := commandRow p 0x21#8 (acting (takeWindowRequest window action position)) s

/-- CLEAR_PROFILE (R85). -/
def execClearProfile (p : Port) (window : Byte) (s : State) : Host.Outcome State Fault Refusal :=
  commandRow p 0x22#8 (acting (takeClearProfile window)) s

/-- SAVE_PROFILES (R84). -/
def execSaveProfiles (p : Port) (s : State) : Host.Outcome State Fault Refusal :=
  commandRow p 0x23#8 (acting takeSaveProfiles) s

/-- PRESENT (R113 to R120, R139). -/
def execPresent (p : Port) (identity : BitVec 32) (counter : BitVec 24) (button tag : Byte) (s : State) :
    Host.Outcome State Fault Refusal := commandRow p 0x30#8 (acting (takePresent p identity counter button tag)) s

/-- SEARCH_NONE (R142). -/
def execSearchNone (p : Port) (tag : Byte) (s : State) : Host.Outcome State Fault Refusal :=
  commandRow p 0x31#8 (takeSearchNone tag) s

/-- READ_SEARCH (R145, R169). -/
def execReadSearch (p : Port) (page : Byte) (s : State) : Host.Outcome State Fault Refusal :=
  commandRow p 0x32#8 (takeReadSearch page) s

/-- READ_LAST_ENTRY (R169). -/
def execReadLastEntry (p : Port) (page : Byte) (s : State) : Host.Outcome State Fault Refusal :=
  commandRow p 0x33#8 (takeReadLastEntry page) s

/-- ENROLL (R123). -/
def execEnroll (p : Port) (slot : Byte) (identity : BitVec 32) (counter : BitVec 24) (s : State) :
    Host.Outcome State Fault Refusal := commandRow p 0x34#8 (acting (takeEnroll slot identity counter)) s

/-- REVOKE (R124). -/
def execRevoke (p : Port) (slot : Byte) (s : State) : Host.Outcome State Fault Refusal :=
  commandRow p 0x35#8 (acting (takeRevoke slot)) s

/-- SELECT (R171). -/
def execSelect (p : Port) (table window index stepByte : Byte) (s : State) :
    Host.Outcome State Fault Refusal := commandRow p 0x40#8 (takeSelect p table window index stepByte) s

/-- READ_NEXT (R172). -/
def execReadNext (p : Port) (s : State) : Host.Outcome State Fault Refusal :=
  commandRow p 0x41#8 (takeReadNext p) s

/-- SET_PARAM (R179). -/
def execSetParam (p : Port) (param : Byte) (value : BitVec 16) (s : State) :
    Host.Outcome State Fault Refusal := commandRow p 0x50#8 (acting (takeSetParam param value)) s

/-- READ_PARAM (R180). -/
def execReadParam (p : Port) (param : Byte) (s : State) : Host.Outcome State Fault Refusal :=
  commandRow p 0x51#8 (takeReadParam param) s

/-- COMMIT_PARAMS (R180). -/
def execCommitParams (p : Port) (s : State) : Host.Outcome State Fault Refusal :=
  commandRow p 0x52#8 (acting takeCommitParams) s

/-- CRASH_NOTIFY (R150). -/
def execCrashNotify (p : Port) (s : State) : Host.Outcome State Fault Refusal :=
  commandRow p 0x60#8 (acting takeCrashNotify) s

/-- CRASH_CLEAR (R158). -/
def execCrashClear (p : Port) (s : State) : Host.Outcome State Fault Refusal :=
  commandRow p 0x61#8 takeCrashClear s

/-- RESTART (R182). -/
def execRestart (p : Port) (s : State) : Host.Outcome State Fault Refusal :=
  commandRow p 0x70#8 (acting takeRestart) s

/-- STANDBY (R183). -/
def execStandby (p : Port) (s : State) : Host.Outcome State Fault Refusal :=
  commandRow p 0x71#8 (acting takeStandby) s

end Sys2Proof.Machine
end

