-- ==== Sys2Proof/Machine/PowerOn.lean ====
section
/-! DEFINITION. Power-on (R181): the load of the store, the records from the first input levels, and the enabling of
the ports; and the marking of expired readings (R185). -/

namespace Sys2Proof.Machine

open Sys2Proof

/-! ## Loading (R122, R181) -/

/-- A latch record from its first contacts: LOCKED with fault SENSOR where they are INVALID (R1). -/
def loadedAct (p : Pins) (a : Act) : ActRec :=
  match decodeContacts p a with
  | some x => ActRec.fresh x
  | none => { ActRec.fresh .LOCKED with fault := .SENSOR }

def loadedTable (p : Pins) : LockTable where
  latches := ⟨loadedAct p (.latch .FL), loadedAct p (.latch .FR), loadedAct p (.latch .RL),
    loadedAct p (.latch .RR), loadedAct p (.latch .TG)⟩
  children := ⟨loadedAct p (.child .CRL), loadedAct p (.child .CRR)⟩

def corruptSlot : FobSlot := { FobSlot.empty with status := .CORRUPT }

def activeFob (x : StoredSlot) : FobSlot :=
  { FobSlot.empty with
    status := .ACTIVE
    identity := x.identity
    C := x.counter
    storedC := x.counter }

/-- A slot as the store gives it, with the identities of the lower-numbered ACTIVE slots (R122). -/
def loadedSlot (taken : List (BitVec 32)) (x : StoredSlot) : FobSlot :=
  if x.ok = false then corruptSlot
  else if x.active = false then FobSlot.empty
  else if x.identity = 0#32 ∨ x.identity ∈ taken then corruptSlot
  else activeFob x

/-- The slots in slot order (R122). -/
def loadSlots (taken : List (BitVec 32)) : List StoredSlot → List FobSlot
  | [] => []
  | x :: xs =>
    let f := loadedSlot taken x
    f :: loadSlots (if f.status = .ACTIVE then f.identity :: taken else taken) xs

def loadedFobs (v : Vector StoredSlot 8) : Vector FobSlot 8 :=
  let fs := loadSlots [] v.toList
  Vector.ofFn (fun i => fs.getD i.val FobSlot.empty)

/-- A profile as the store gives it: L UNKNOWN and every R 0 where the check fails (R82, R181). -/
def loadedProfile (x : StoredProfile) : Profile := if x.ok then x.profile else Profile.unknown

def loadedWindows (v : PerWin StoredProfile) : PerWin Window :=
  ⟨Window.fresh (loadedProfile v.wfl), Window.fresh (loadedProfile v.wfr),
    Window.fresh (loadedProfile v.wrl), Window.fresh (loadedProfile v.wrr)⟩

/-- The crash record from the first sampled level of CRASH_IN (R148). -/
def loadedCrash (active : Bool) : CrashUnit :=
  if active then ⟨true, some .POWER_ON, .ACTIVE, none, false, none⟩
  else ⟨false, none, .INACTIVE, none, false, some ⟨0#32, quietSpan⟩⟩

/-- A transfer that a power-on reset finds under way: its data-out line is undriven to its end, and its request is not
taken (R159). -/
def undriven (t : Transfer) : Transfer := { t with driven := false, inFlight := false, out := Response.blank }

/-- A port at power-on; a transfer under way goes on undriven (R159, R175). -/
def loadedPort (kinds mask : BitVec 16) (t : Option Transfer) : PortRec :=
  { PortRec.fresh kinds mask with transfer := t.map undriven }

/-- The state of a power-on from the input levels and the store: in `LOADING` with nothing pending, then at the
enabling of the ports (R181). -/
def powerOn (ph : Phase) (pins : Pins) (s : State) : State :=
  let kinds := if ph = .LOADING then 0#16 else startKinds (!s.store.params.ok)
  { pending := s.pending
    schedule := s.schedule
    attemptDue := false
    phase := ph
    now := 0#32
    pins := pins
    params := loadedParams s.store.params
    store := s.store
    writer := Writer.idle (!s.store.params.ok)
    table := loadedTable pins
    keyLock := none
    entry := none
    relock := none
    strokes := []
    windows := loadedWindows s.store.profiles
    spent := ⟨⟨false, false, false, false⟩, false, false, false⟩
    queue := []
    admitted := []
    nextId := 1
    units := 0
    nearFull := false
    slot := CrashSlot.closed
    fobs := loadedFobs s.store.slots
    hold := Hold.closed
    search := SearchUnit.fresh
    crash := loadedCrash pins.crashIn
    ports := ⟨loadedPort kinds 0x0FFF#16 s.ports.m.transfer, loadedPort kinds 0x0181#16 s.ports.e.transfer⟩ }

/-- POWER_ON_RESET (R181): a write that was running is lost, and the store keeps its last completed writes (R177). -/
def execPowerOnReset (pins : Pins) (s : State) : Host.Outcome State Fault Refusal :=
  .next (powerOn .LOADING { pins with supply := min pins.supply 24000 } s)

/-- PORTS_ENABLED (R181): the load is over. It happens once for each power-on reset. The crash record stands as the first
sampled level set it and as the line went on from there (R148, R149). -/
def execPortsEnabled (s : State) : Host.Outcome State Fault Refusal :=
  .next (if s.phase = .LOADING then { powerOn .ACTIVE s.pins s with crash := s.crash } else s)

/-! ## Expired readings (R185) -/

/-- The recorded reading that a reference names; none where no record holds it. -/
def readingOf (r : ReadingRef) (s : State) : Option Reading :=
  match r with
  | .enqueue job => (s.liveJobs.find? (fun j => j.id = job)).map (·.enqueued)
  | .started job g => (s.strokeNamed job g).map (·.started)
  | .searchOpened => s.search.current.map (·.opened)
  | .lastOpened => s.search.last.map (·.opened)
  | .lastClosed => s.search.last.map (·.closed)
  | .acceptance i => (s.fob i).acceptance.map (·.time)
  | .candidate i => (s.fob i).candidate.map (·.time)
  | .entry => s.entry.map (·.time)
  | .keyLock => s.keyLock
  | .holdStart => if s.hold.present then some s.hold.start else none
  | .holdFrame => if s.hold.present then some s.hold.lastFrame else none

def markReading (r : Reading) : Reading := { r with expired := true }

/-- A job whose enqueue time is marked: queued, admitted or reserved (R87, R185). -/
def markJob (id : Nat) (j : Job) : Job :=
  if j.id = id then { j with enqueued := markReading j.enqueued } else j

/-- A reserved retry job's enqueue time (R22). -/
def markWait (id : Nat) (s : State) (a : Act) : State :=
  s.setAct a { s.act a with
    wait := (s.act a).wait.map (fun x => { x with job := x.job.map (markJob id) }) }

/-- The reading that a reference names is marked expired (R185). -/
def markRef (r : ReadingRef) (s : State) : State :=
  match r with
  | .enqueue id => Act.all.foldl (markWait id) 
    { s with queue := s.queue.map (markJob id), admitted := s.admitted.map (markJob id) }
  | .started job g =>
    { s with strokes := s.strokes.map (fun st =>
        if st.job = job ∧ st.group = g then { st with started := markReading st.started } else st) }
  | .searchOpened =>
    { s with search := { s.search with
        current := s.search.current.map (fun x => { x with opened := markReading x.opened }) } }
  | .lastOpened =>
    { s with search := { s.search with
        last := s.search.last.map (fun x => { x with opened := markReading x.opened }) } }
  | .lastClosed =>
    { s with search := { s.search with
        last := s.search.last.map (fun x => { x with closed := markReading x.closed }) } }
  | .acceptance i =>
    s.setFob i { s.fob i with
      acceptance := (s.fob i).acceptance.map (fun x => { x with time := markReading x.time }) }
  | .candidate i =>
    s.setFob i { s.fob i with
      candidate := (s.fob i).candidate.map (fun x => { x with time := markReading x.time }) }
  | .entry => { s with entry := s.entry.map (fun e => { e with time := markReading e.time }) }
  | .keyLock => { s with keyLock := s.keyLock.map markReading }
  | .holdStart => { s with hold := { s.hold with start := markReading s.hold.start } }
  | .holdFrame => { s with hold := { s.hold with lastFrame := markReading s.hold.lastFrame } }

/-- The 120 s of a reading that is not marked yet, as a timer (R185). -/
def readingTimer (r : ReadingRef) (s : State) : Option Timer :=
  match readingOf r s with
  | some x => if x.expired then none else some ⟨x.time, readingSpan⟩
  | none => none

/-- READING_EXPIRED (R185). -/
def execReadingExpired (r : ReadingRef) (s : State) : Host.Outcome State Fault Refusal :=
  .next (expiry (readingTimer r) (markRef r) s)

end Sys2Proof.Machine
end

