-- ==== Sys2Proof/Machine/Dispatch.lean ====
section
/-! DEFINITION. exec: one arm for each row of the opcode table, each one call of the row's meaning. -/

namespace Sys2Proof.Machine

def exec (i : Instr) (s : State) : Host.Outcome State Fault Refusal :=
  match i with
  | .powerOnReset pins => Sys2Proof.Machine.execPowerOnReset pins s
  | .portsEnabled => Sys2Proof.Machine.execPortsEnabled s
  | .contactChange c closed => Sys2Proof.Machine.execContactChange c closed s
  | .ajarChange l isOpen => Sys2Proof.Machine.execAjarChange l isOpen s
  | .sensedInvalidExpiry d => Sys2Proof.Machine.execSensedInvalidExpiry d s
  | .centralLockRocker t => Sys2Proof.Machine.execCentralLockRocker t s
  | .keyCylinder t => Sys2Proof.Machine.execKeyCylinder t s
  | .childSafetyButton => Sys2Proof.Machine.execChildSafetyButton s
  | .windowSwitchChange sw st => Sys2Proof.Machine.execWindowSwitchChange sw st s
  | .touch ti touched => Sys2Proof.Machine.execTouch ti touched s
  | .qualifiedEdge w h since => Sys2Proof.Machine.execQualifiedEdge w h since s
  | .sensorSupplyChange w inRange => Sys2Proof.Machine.execSensorSupplyChange w inRange s
  | .supplySample mv => Sys2Proof.Machine.execSupplySample mv s
  | .groupOvercurrent g active => Sys2Proof.Machine.execGroupOvercurrent g active s
  | .windowOvercurrent w active => Sys2Proof.Machine.execWindowOvercurrent w active s
  | .overcurrentFaultClear w => Sys2Proof.Machine.execOvercurrentFaultClear w s
  | .crashInChange active => Sys2Proof.Machine.execCrashInChange active s
  | .qualificationTimerExpiry => Sys2Proof.Machine.execQualificationTimerExpiry s
  | .quietTimerExpiry => Sys2Proof.Machine.execQuietTimerExpiry s
  | .transferBegin p => Sys2Proof.Machine.execTransferBegin p s
  | .transferEnd p bytes trailing => Sys2Proof.Machine.execTransferEnd p bytes trailing s
  | .nop p => Sys2Proof.Machine.execNop p s
  | .readNotices p => Sys2Proof.Machine.execReadNotices p s
  | .clearNotices p kinds => Sys2Proof.Machine.execClearNotices p kinds s
  | .setMask p kinds => Sys2Proof.Machine.execSetMask p kinds s
  | .readLatches p => Sys2Proof.Machine.execReadLatches p s
  | .latchRequest p set target => Sys2Proof.Machine.execLatchRequest p set target s
  | .childRequest p sides action => Sys2Proof.Machine.execChildRequest p sides action s
  | .readWindow p window page => Sys2Proof.Machine.execReadWindow p window page s
  | .windowRequest p window action position => Sys2Proof.Machine.execWindowRequest p window action position s
  | .clearProfile p window => Sys2Proof.Machine.execClearProfile p window s
  | .saveProfiles p => Sys2Proof.Machine.execSaveProfiles p s
  | .present p identity counter button tag => Sys2Proof.Machine.execPresent p identity counter button tag s
  | .searchNone p tag => Sys2Proof.Machine.execSearchNone p tag s
  | .readSearch p page => Sys2Proof.Machine.execReadSearch p page s
  | .readLastEntry p page => Sys2Proof.Machine.execReadLastEntry p page s
  | .enroll p slot identity counter => Sys2Proof.Machine.execEnroll p slot identity counter s
  | .revoke p slot => Sys2Proof.Machine.execRevoke p slot s
  | .select p table window index stepByte => Sys2Proof.Machine.execSelect p table window index stepByte s
  | .readNext p => Sys2Proof.Machine.execReadNext p s
  | .setParam p param value => Sys2Proof.Machine.execSetParam p param value s
  | .readParam p param => Sys2Proof.Machine.execReadParam p param s
  | .commitParams p => Sys2Proof.Machine.execCommitParams p s
  | .crashNotify p => Sys2Proof.Machine.execCrashNotify p s
  | .crashClear p => Sys2Proof.Machine.execCrashClear p s
  | .restart p => Sys2Proof.Machine.execRestart p s
  | .standby p => Sys2Proof.Machine.execStandby p s
  | .strokeEnd job g => Sys2Proof.Machine.execStrokeEnd job g s
  | .retryWaitExpiry a => Sys2Proof.Machine.execRetryWaitExpiry a s
  | .strokeCountDecay a => Sys2Proof.Machine.execStrokeCountDecay a s
  | .relockTimerExpiry => Sys2Proof.Machine.execRelockTimerExpiry s
  | .brakingTimerExpiry w => Sys2Proof.Machine.execBrakingTimerExpiry w s
  | .stall w => Sys2Proof.Machine.execStall w s
  | .heatingTimerExpiry w => Sys2Proof.Machine.execHeatingTimerExpiry w s
  | .coolingTimerExpiry w => Sys2Proof.Machine.execCoolingTimerExpiry w s
  | .tallyTimerExpiry w => Sys2Proof.Machine.execTallyTimerExpiry w s
  | .jobTurnsBlocking job => Sys2Proof.Machine.execJobTurnsBlocking job s
  | .candidateLifetimeExpiry slot => Sys2Proof.Machine.execCandidateLifetimeExpiry slot s
  | .startTimerExpiry => Sys2Proof.Machine.execStartTimerExpiry s
  | .gapTimerExpiry => Sys2Proof.Machine.execGapTimerExpiry s
  | .searchExpiry => Sys2Proof.Machine.execSearchExpiry s
  | .holdOffEnd l => Sys2Proof.Machine.execHoldOffEnd l s
  | .readingExpired r => Sys2Proof.Machine.execReadingExpired r s
  | .commitWriteComplete => Sys2Proof.Machine.execCommitWriteComplete s
  | .profileWriteComplete => Sys2Proof.Machine.execProfileWriteComplete s
  | .enrollWriteComplete => Sys2Proof.Machine.execEnrollWriteComplete s
  | .revokeWriteComplete => Sys2Proof.Machine.execRevokeWriteComplete s
  | .paramWriteComplete => Sys2Proof.Machine.execParamWriteComplete s
  | .panelKeyInputRelease pi => Sys2Proof.Machine.execPanelKeyInputRelease pi s

end Sys2Proof.Machine
end

