-- ==== Sys2Proof/Machine/Timers.lean ====
section
/-! DEFINITION. Time (R185): the timer behind each expiry, the expiries that are due, which of several is taken
first, and the tick of the running time. -/

namespace Sys2Proof.Machine

open Sys2Proof

/-- The timer whose expiry a command is; none for a command that is no expiry. -/
def timerOf (i : Instr) (s : State) : Option Timer :=
  match i with
  | .sensedInvalidExpiry d => (s.act (.latch d.latch)).invalidT
  | .overcurrentFaultClear w => (s.win w).clearT
  | .qualificationTimerExpiry => s.crash.qualT
  | .quietTimerExpiry => s.crash.quietT
  | .strokeEnd job g => (s.strokeNamed job g).map strokeTimer
  | .retryWaitExpiry a => (s.act a).wait.map (·.timer)
  | .strokeCountDecay a => (s.act a).decay
  | .relockTimerExpiry => s.relock
  | .brakingTimerExpiry w => (s.win w).brakeT
  | .stall w => (s.win w).stallT
  | .heatingTimerExpiry w => (s.win w).heatT
  | .coolingTimerExpiry w => (s.win w).coolT
  | .tallyTimerExpiry w => (s.win w).tallyT
  | .jobTurnsBlocking job => (s.queuedJob job).bind blockingTimer
  | .candidateLifetimeExpiry slot => (s.fob slot).candidate.map (fun y => ⟨y.time.time, candidateSpan⟩)
  | .startTimerExpiry => s.hold.startT
  | .gapTimerExpiry => s.hold.gapT
  | .searchExpiry => searchTimer s
  | .holdOffEnd l => s.search.holdOff l
  | .readingExpired r => readingTimer r s
  | .commitWriteComplete => writeTimer isCommit s
  | .profileWriteComplete => writeTimer isProfile s
  | .enrollWriteComplete => writeTimer isEnroll s
  | .revokeWriteComplete => writeTimer isRevoke s
  | .paramWriteComplete => writeTimer isParams s
  | _ => none

/-- The readings that records hold (R185). -/
def heldReadings (s : State) : List ReadingRef :=
  s.liveJobs.map (fun j => ReadingRef.enqueue j.id) ++
    s.strokes.map (fun st => .started st.job st.group) ++
    [.searchOpened, .lastOpened, .lastClosed] ++
    (List.finRange 8).map (fun i => .acceptance i) ++ (List.finRange 8).map (fun i => .candidate i) ++
    [.entry, .keyLock, .holdStart, .holdFrame]

/-- The expiries of one window. -/
def windowExpiries (w : Win) : List Instr :=
  [.brakingTimerExpiry w, .stall w, .heatingTimerExpiry w, .coolingTimerExpiry w,
    .overcurrentFaultClear w, .tallyTimerExpiry w]

/-- The expiries of the lock table. -/
def actExpiries (a : Act) : List Instr := [.retryWaitExpiry a, .strokeCountDecay a]

/-- Every expiry that can come in a state. -/
def expiries (s : State) : List Instr :=
  s.strokes.map (fun st => Instr.strokeEnd st.job st.group) ++ Act.all.flatMap actExpiries ++
    Door.all.map (fun d => .sensedInvalidExpiry d) ++ Win.all.flatMap windowExpiries ++
    s.queue.map (fun j => .jobTurnsBlocking j.id) ++
    (List.finRange 8).map (fun i => .candidateLifetimeExpiry i) ++
    [.relockTimerExpiry, .startTimerExpiry, .gapTimerExpiry, .searchExpiry, .holdOffEnd .FL,
      .holdOffEnd .FR, .holdOffEnd .TG, .commitWriteComplete, .profileWriteComplete,
      .enrollWriteComplete, .revokeWriteComplete, .paramWriteComplete, .qualificationTimerExpiry,
      .quietTimerExpiry] ++
    (heldReadings s).map (fun r => .readingExpired r)

/-- An expiry whose timer has run its span. -/
def isDue (s : State) (i : Instr) : Bool :=
  match timerOf i s with
  | some t => timerDue s.now t
  | none => false

/-- The expiries that are due now. -/
def dueNow (s : State) : List Instr := (expiries s).filter (isDue s)

/-- DESIGN CHOICE (log entry 6): with no command waiting, the block idles for one ms. While the store loads, the
running time stands (R185). -/
def tick (s : State) : State :=
  if s.phase = .LOADING then s else { s with now := s.now + 1#32 }

/-- Which of several things that arrive together is taken: the manual leaves it open, so the schedule says (log
entry 7). -/
def chosen (ds : List Instr) (s : State) : Option Instr :=
  if ds.length = 1 then ds.head? else ds[s.schedule.headD 0 % ds.length]?

/-- The choice is spent where there was one. -/
def spendChoice (ds : List Instr) (s : State) : State := if 2 ≤ ds.length then s.tookChoice else s

/-- Time goes on by one thing: an expiry that is due, or a tick (R185). -/
def idle (s : State) : Host.Outcome State Fault Refusal :=
  let ds := dueNow s
  match chosen ds s with
  | some i => exec i (spendChoice ds s)
  | none => .next (tick s)

end Sys2Proof.Machine
end

