-- ==== Sys2Proof/Safety.lean ====
section
/-! DEFINITION. What a safe state is: the laws the manual names, each as a predicate of a state. -/

namespace Sys2Proof.Machine

open Sys2Proof

/-! ## Locks and the matrix -/

/-- The law of the lock table: a record that neither strokes nor waits for a retry, and whose sensed position is not
INVALID, has a state equal to its sensed position (R4). -/
def lockTableLaw (s : State) : Prop :=
  ∀ a p, follows (s.act a).activity = true → s.sensed a = some p → (s.act a).state = p

/-- The matrix law: no two running strokes of one group have opposite polarities, and every member belongs to its
stroke's group (R26, R27). -/
def matrixLaw (s : State) : Prop :=
  (∀ st ∈ s.strokes, ∀ m ∈ st.members, groupOf m.act = st.group) ∧
    ∀ st ∈ s.strokes, ∀ st' ∈ s.strokes, st.group = st'.group → st.polarity = st'.polarity

/-- A stroke record of one job target: its polarity, and each member's stroke target and class, are those of the
target (R9, R27, R28); so its polarity is PLUS or MINUS. -/
def Stroke.consistent (st : Stroke) : Prop :=
  ∃ g, st.polarity = goalPolarity g ∧
    ∀ m ∈ st.members, m.target = strokeTarget g m.act ∧ isChildGoal g = !isLatch m.act

/-- A latch job names latches and a child job child actuators (R87). -/
def Job.classed (j : Job) : Prop := ∀ g, j.goal? = some g → ∀ a ∈ j.acts, isChildGoal g = !isLatch a

/-- Every running stroke drives PLUS or MINUS (R26, R27). -/
def polesLaw (s : State) : Prop := ∀ st ∈ s.strokes, st.polarity = .PLUS ∨ st.polarity = .MINUS

/-- What the strokes and the activities say of each other: no actuator is a member of two running strokes, exactly
the members of running strokes read STROKING, and exactly the actuators with a retry wait read RETRY_WAIT (R20, R22,
R27, R89). -/
def strokesLaw (s : State) : Prop :=
  (∀ st ∈ s.strokes, st.consistent) ∧
    s.strokes.Pairwise (fun x y => ∀ a, ¬(x.has a = true ∧ y.has a = true)) ∧
    ∀ a, ((s.act a).activity = .STROKING ↔ (s.strokeOf a).isSome = true) ∧
      ((s.act a).activity = .RETRY_WAIT ↔ (s.act a).wait.isSome = true)

/-! ## Queue and units -/

/-- The queue never holds more than 16 jobs (R89). -/
def queueBound (s : State) : Prop := s.queue.length ≤ queueCapacity

/-- No two queued jobs name one actuator or one window (R89). -/
def queueLaw (s : State) : Prop :=
  s.queue.Pairwise (fun i j =>
    (∀ a, ¬(i.names a = true ∧ j.names a = true)) ∧
      ∀ w, ¬(i.namesWindow w = true ∧ j.namesWindow w = true))

/-- The law of the queue with what keeps it: no queued job names an actuator in a retry wait, whose reserved job names
it alone (R22, R93), and a window with a queued job is QUEUED, or BRAKING with no continuation (R45, R94). -/
def queueNamesLaw (s : State) : Prop :=
  queueLaw s ∧
    (∀ a x, (s.act a).wait = some x →
      s.queuedFor a = none ∧ ∀ j, x.job = some j → ∃ g, j.targets = .lock g [a]) ∧
    ∀ w, (s.queuedWindow w).isSome = true →
      (s.win w).run = .QUEUED ∨ ((s.win w).run = .BRAKING ∧ (s.win w).cont = none)

/-- The units of the running set: every running stroke and every busy window (R95). -/
def runningUnits (s : State) : Nat :=
  (s.strokes.map (·.units)).sum + 4 * (Win.all.filter (fun w => busy (s.win w).run)).length

/-- The law of units: the units held equal the sum over the running set (R95). -/
def unitsLaw (s : State) : Prop := s.units = runningUnits s

/-! ## Windows -/

/-- The law of window position: a normalized window with known travel has P at most L, and an unnormalized one
never runs in AUTO or COMFORT mode (R44). -/
def positionLaw (s : State) : Prop :=
  ∀ w, (∀ L, (s.win w).normalized = true → (s.win w).profile.L = some L → (s.win w).P ≤ L) ∧
    ((s.win w).normalized = false → (s.win w).run = .RUNNING →
      (s.win w).mode = .MANUAL ∨ (s.win w).mode = .FORCED)

/-- The ranges of a window record (R39, R50, R56, R61). -/
def windowRanges (s : State) : Prop :=
  ∀ w, (s.win w).P ≤ 65535 ∧ (s.win w).H ≤ 900 ∧ (s.win w).tally ≤ 3

/-! ## Fobs and parameters -/

/-- The law of the fob table: no two ACTIVE slots hold one identity, and none holds identity 0 (R112). -/
def fobLaw (s : State) : Prop :=
  ∀ i, (s.fob i).status = .ACTIVE → (s.fob i).identity ≠ 0#32 ∧
    ∀ k, (s.fob k).status = .ACTIVE → (s.fob k).identity = (s.fob i).identity → k = i

/-- The enrolments that are being written or wait for their write, as slot and identity (R123, R178). -/
def enrolling (s : State) : List (Fin 8 × BitVec 32) :=
  (match s.writer.running.map (·.payload) with
    | some (.enroll i r) => [(i, r.identity)]
    | _ => []) ++
  s.writer.portQueue.filterMap (fun x => match x with
    | .enroll i identity _ => some (i, identity)
    | _ => none)

/-- The law of the fob table with what keeps it: at most one enrolment is under way, with Port M in flight and an
identity that no other ACTIVE slot holds (R123, R163); and a transfer on Port M that began out of flight finds the
port so at its end (R161, R163). -/
def enrolLaw (s : State) : Prop :=
  fobLaw s ∧ (enrolling s).length ≤ 1 ∧
    (∀ x ∈ enrolling s, x.2 ≠ 0#32 ∧ (s.port .M).inFlight.isSome = true ∧
      ∀ k, k ≠ x.1 → (s.fob k).status = .ACTIVE → (s.fob k).identity ≠ x.2) ∧
    ∀ t, (s.port .M).transfer = some t → t.driven = true → t.inFlight = false → (s.port .M).inFlight = none

/-- The second half of the law of the counters: the stored counter never exceeds the counter in use (R121). -/
def counterLaw (s : State) : Prop := ∀ i, (s.fob i).storedC ≤ (s.fob i).C

/-- Every parameter in force lies in its range: clamping changes none (R179). -/
def paramsLaw (s : State) : Prop := ∀ p, paramClamp p (paramGet s.params p) = paramGet s.params p

/-- The law of job ids: the next id and the ids of all live jobs are 1 to 255, and no two live jobs share one (R88);
with what leaves an id free: every stroke has a member, and every admitted job a running stroke or a driven or braking
window (R87, R100). -/
def idsLaw (s : State) : Prop :=
  1 ≤ s.nextId ∧ s.nextId ≤ 255 ∧ s.liveIds.Nodup ∧ (∀ id ∈ s.liveIds, 1 ≤ id ∧ id ≤ 255) ∧
    (∀ st ∈ s.strokes, st.members ≠ []) ∧
    ∀ j ∈ s.admitted, (∃ st ∈ s.strokes, st.job = some j.id) ∨
      ∃ w, (s.win w).job = some j.id ∧ busy (s.win w).run = true

/-! ## Crash and searches -/

/-- The crash law: while the latch is set, no queued or running job drives a latch toward LOCKED or DEADLOCKED, the
relock timer is off, and no comfort hold is open (R156). -/
def crashLaw (s : State) : Prop :=
  s.crash.latch = true →
    (∀ j ∈ s.queue, lockGoal j.goal? = false) ∧
      (∀ st ∈ s.strokes, ∀ m ∈ st.members, isLatch m.act = true → m.target = .UNLOCKED) ∧
      s.relock = none ∧ s.hold.isOpen = false

/-- The crash latch is CLEAR only while the crash slot is closed (R151). -/
def slotLaw (s : State) : Prop := s.crash.latch = false → s.slot.isOpen = false

/-- The lock table, the strokes, the queue and the crash record as the laws of R4, R26 and R156 need them together:
queued and reserved jobs keep to their class (R87), no queued job names an actuator in a retry wait (R93), a closed
slot holds no latch, a pending latch reads QUEUED, and the crash job's strokes and waits are those of its sets (R107,
R109, R110, R154); and while the latch is set no reserved job is a lock
job and no lock search is open (R133, R152). While the store loads nothing follows its contacts (R181). -/
def locksLaw (s : State) : Prop :=
  matrixLaw s ∧ strokesLaw s ∧ slotLaw s ∧ crashLaw s ∧ (s.phase ≠ .LOADING → lockTableLaw s) ∧
    (∀ j ∈ s.queue, j.classed) ∧
    (∀ a x, (s.act a).wait = some x → s.queuedFor a = none ∧
      ∀ j, x.job = some j → j.acts = [a] ∧ j.classed) ∧
    (s.slot.isOpen = false → s.slot.pending = [] ∧ s.slot.stroking = [] ∧ s.slot.waiting = []) ∧
    (∀ st ∈ s.strokes, st.job = none → ∀ m ∈ st.members, m.act ∈ s.slot.stroking.map Act.latch) ∧
    (∀ a x, (s.act a).wait = some x → x.job = none → a ∈ s.slot.waiting.map Act.latch) ∧
    (∀ l ∈ s.slot.pending, (s.act (.latch l)).activity = .QUEUED) ∧
    (s.crash.latch = true → (∀ j ∈ s.reserved, lockGoal j.goal? = false) ∧
      ∀ x, s.search.current = some x → x.purpose = .UNLOCK)

/-- The next tag is 1 to 255 (R132). -/
def tagLaw (s : State) : Prop := 1 ≤ s.search.nextTag ∧ s.search.nextTag ≤ 255

/-! ## Recorded readings (R185) -/

/-- A reading without its mark. -/
def Reading.unmarked (r : Reading) : Reading := { r with expired := false }

/-- A job whose enqueue time has no mark. -/
def Job.unmarked (j : Job) : Job := { j with enqueued := j.enqueued.unmarked }

/-- The state with the mark of every recorded reading taken off: two states that agree in it differ in marks alone. -/
def State.unmarked (s : State) : State :=
  Act.all.foldl (fun t a => t.setAct a { t.act a with
      wait := (t.act a).wait.map (fun x => { x with job := x.job.map Job.unmarked }) })
    { s with
      queue := s.queue.map Job.unmarked
      admitted := s.admitted.map Job.unmarked
      strokes := s.strokes.map (fun st => { st with started := st.started.unmarked })
      fobs := s.fobs.map (fun f => { f with
        acceptance := f.acceptance.map (fun x => { x with time := x.time.unmarked })
        candidate := f.candidate.map (fun x => { x with time := x.time.unmarked }) })
      search := { s.search with
        current := s.search.current.map (fun x => { x with opened := x.opened.unmarked })
        last := s.search.last.map (fun x => { x with opened := x.opened.unmarked, closed := x.closed.unmarked }) }
      entry := s.entry.map (fun e => { e with time := e.time.unmarked })
      keyLock := s.keyLock.map Reading.unmarked
      hold := { s.hold with start := s.hold.start.unmarked, lastFrame := s.hold.lastFrame.unmarked } }

/-! ## Between events -/

/-- The part has left the loading of the store (R181), and no crash job waits for the end of standby (log entry
13). -/
def operating (s : State) : Prop := s.phase = .ACTIVE ∨ (s.phase = .STANDBY ∧ s.slot.isOpen = false)

/-- The open crash slot is not done: its close is an event of its own work (R110). -/
def slotSteady (s : State) : Prop := s.slot.isOpen = true → s.slotDone = false

/-- A write runs, or no item waits in the write order: the first item begins when no write runs (R178). -/
def storeSteady (s : State) : Prop :=
  s.writer.running.isSome = true ∨
    (s.writer.portQueue = [] ∧ nextCommit s = none ∧ nextProfile s = none)

/-- Nothing is left over from an earlier event: no admission trigger (R96), no slot to close (R110), no write to
begin (R178). Every step leaves such a state. -/
def calm (s : State) : Prop := s.attemptDue = false ∧ slotSteady s ∧ storeSteady s

/-- No latch or child job exists: nothing is queued, admitted, stroked or waiting, and the slot is closed. -/
def restingLocks (s : State) : Prop :=
  s.queue = [] ∧ s.strokes = [] ∧ s.slot.isOpen = false ∧ s.slot.pending = [] ∧ s.slot.stroking = [] ∧
    s.slot.waiting = [] ∧
    ∀ a, (s.act a).activity = .IDLE ∧ (s.act a).wait = none ∧ (s.act a).strokes < strokeLimit

/-- A port whose transfer of this request began with the ports enabled and with no command in flight (R159, R161
test 1). -/
def listening (p : Port) (s : State) : Prop :=
  operating s ∧
    match (s.port p).transfer with
    | some t => t.driven = true ∧ t.inFlight = false
    | none => (s.port p).inFlight = none

/-- The state in which a request is taken: its transfer has ended, and the part is ACTIVE (R184; where the transfer began
before standby was entered, log entry 15). -/
def arrived (p : Port) (s : State) : State :=
  { s.setPort p { s.port p with transfer := none } with phase := .ACTIVE }

/-- Each place, as its first bit, its width and its value, holds the low bits of the value (R160). -/
def holdsAt (data : BitVec 72) (places : List (Nat × Nat × Nat)) : Prop :=
  ∀ x ∈ places, (data.extractLsb' x.1 x.2.1).toNat = x.2.2 % 2 ^ x.2.1

/-- The commands that are the expiry of a timer. -/
def isExpiry : Instr → Bool
  | .sensedInvalidExpiry _ | .overcurrentFaultClear _ | .qualificationTimerExpiry | .quietTimerExpiry
  | .strokeEnd _ _ | .retryWaitExpiry _ | .strokeCountDecay _ | .relockTimerExpiry
  | .brakingTimerExpiry _ | .stall _ | .heatingTimerExpiry _ | .coolingTimerExpiry _
  | .tallyTimerExpiry _ | .jobTurnsBlocking _ | .candidateLifetimeExpiry _ | .startTimerExpiry
  | .gapTimerExpiry | .searchExpiry | .holdOffEnd _ | .readingExpired _ | .commitWriteComplete
  | .profileWriteComplete | .enrollWriteComplete | .revokeWriteComplete | .paramWriteComplete => true
  | _ => false

/-- A fault is never reached: the type of faults has no value, so a run can only go on (the manual gives every event
an effect). -/
def neverStops (o : Host.Outcome State Fault Refusal) : Prop := ∃ t, o = .next t

end Sys2Proof.Machine
end

