-- ==== Sys2Proof/WellFormed.lean ====
section
/-! DEFINITION. Which commands the outside world can send: the ranges the spec gives the operands
that a type of the syntax does not bound. -/

namespace Sys2Proof

/-- A job id is 1..255 (R88). -/
def wfJobId (id : Nat) : Bool := 1 ≤ id && id ≤ 255

/-- The measured range of the supply sample is 0 to 24000 mV (R65). -/
def wfSupply (mv : Nat) : Bool := mv ≤ 24000

/-- A qualified edge comes at least 100 us after the one before it (R63). -/
def wfPeriod (us : Nat) : Bool := 100 ≤ us

/-- The latches that have a touch input, and so a hold-off (R131, R136). -/
def wfTouchLatch : Latch → Bool
  | .FL => true | .FR => true | .TG => true | .RL => false | .RR => false

/-- A reading named by a job id names a possible id. -/
def wfReading : ReadingRef → Bool
  | .enqueue j => wfJobId j
  | .started (some j) _ => wfJobId j
  | _ => true

/-- A command with every operand in its range. -/
def Instr.wf : Instr → Bool
  | .powerOnReset p => wfSupply p.supply
  | .supplySample mv => wfSupply mv
  | .qualifiedEdge _ _ us => wfPeriod us
  | .strokeEnd (some j) _ => wfJobId j
  | .jobTurnsBlocking j => wfJobId j
  | .holdOffEnd l => wfTouchLatch l
  | .readingExpired r => wfReading r
  | _ => true

end Sys2Proof
end

