-- ==== Sys2Proof/Certificates/Slice0/Obligations.lean ====
section
/-! DEFINITION. The statements for the provers: what each command of the ANS48 does, and the laws that every step
keeps. -/

open Sys2Proof Sys2Proof.Machine

/-! ## Steps, time and power-on -/

/-- The command at the front of the queue is taken: a step is its effect on the state with the queue's rest. -/
def Obligations.StepRunsTheFrontCommand : Prop :=
  ∀ (c : Instr) (rest : List Instr) (s : State), s.pending = c :: rest →
    step s = exec c { s with pending := rest }

/-- With no command waiting, a single expiry that is due is taken; with none due, one ms passes (log entry 6). -/
def Obligations.IdleStepTakesExpiryOrTick : Prop :=
  ∀ s : State, s.pending = [] →
    (∀ i, dueNow s = [i] → step s = exec i s) ∧
      (dueNow s = [] → s.phase ≠ .LOADING → step s = .next { s with now := s.now + 1#32 })

/-- A timer expires at the moment its age reaches its span (R185; log entry 5): taken before that moment, an expiry
first brings the running time there; and an expiry of a timer that does not run changes nothing. -/
def Obligations.ExpiryComesAtItsMoment : Prop :=
  ∀ (i : Instr) (s : State), isExpiry i = true →
    (∀ t, timerOf i s = some t → s.phase ≠ .LOADING → exec i s = exec i (advanceTo t s)) ∧
      (timerOf i s = none → calm s → exec i s = .next s)

/-- POWER_ON_RESET (R181): from any state, every record is at its power-on value as the input lines and the store
give it, the ports are disabled with nothing pending, and the store is kept; a transfer under way is undriven from then
on (R159). The model's choices: a supply level above 24000 mV reads 24000 (log entry 10), and the run mode, the blanking
length and the fields of a closed hold, whose values the manual does not give (log entry 25). -/
def Obligations.PowerOnResetStartsTheLoad : Prop :=
  ∀ (pins : Pins) (s : State),
    let x : Pins := { pins with supply := min pins.supply 24000 }
    exec (.powerOnReset pins) s = .next { State.reset with
      pending := s.pending
      schedule := s.schedule
      phase := .LOADING
      pins := x
      params := loadedParams s.store.params
      store := s.store
      writer := Writer.idle (!s.store.params.ok)
      table := loadedTable x
      windows := loadedWindows s.store.profiles
      fobs := loadedFobs s.store.slots
      crash := loadedCrash x.crashIn
      ports :=
        let undriven : Transfer → Transfer := fun _ => ⟨false, false, Response.blank⟩
        ⟨{ PortRec.fresh 0#16 0x0FFF#16 with transfer := (s.port .M).transfer.map undriven },
          { PortRec.fresh 0#16 0x0181#16 with transfer := (s.port .E).transfer.map undriven }⟩ }

/-- PORTS_ENABLED (R181): the load is over, with RESTARTED pending on both ports, and PARAM_DEFAULTED beside it where
the parameter block failed its check; a transfer begun before has its line undriven to its end (R159); a second one
changes nothing. The crash record stands as the first sampled level set it (R148), and a change of CRASH_IN during the
load moves its line and timers alone (R149; the treatment of the load is log entry 8). -/
def Obligations.PortsEnabledEndsTheLoad : Prop :=
  ∀ s : State,
    (s.phase = .LOADING → ∃ t, exec .portsEnabled s = .next t ∧ t.phase = .ACTIVE ∧ t.now = 0#32 ∧
      t.pins = s.pins ∧ t.store = s.store ∧ t.table = loadedTable s.pins ∧
      t.windows = loadedWindows s.store.profiles ∧ t.fobs = loadedFobs s.store.slots ∧
      t.params = loadedParams s.store.params ∧ t.crash = s.crash ∧
      t.queue = [] ∧ t.strokes = [] ∧ t.units = 0 ∧
      ∀ p, (t.port p).slot = Response.blank ∧ (t.port p).inFlight = none ∧
        (t.port p).transfer = (s.port p).transfer.map (fun _ => ⟨false, false, Response.blank⟩) ∧
        (t.port p).pending = (if s.store.params.ok then 0x0001#16 else 0x0801#16) ∧
        t.attention p = true) ∧
      (s.phase = .LOADING → ∀ b, s.pins.crashIn ≠ b → ∃ t, exec (.crashInChange b) s = .next t ∧
        t = { s with pins := t.pins, crash := t.crash } ∧ t.pins = { s.pins with crashIn := b } ∧
        t.crash.latch = s.crash.latch ∧ t.crash.lastSource = s.crash.lastSource ∧
        (b = false → t.crash.line = .INACTIVE ∧ (s.crash.line ≠ .INACTIVE → t.crash.quietT = some ⟨s.now, 10000⟩)) ∧
        (b = true → s.crash.line = .INACTIVE → t.crash.line = .QUALIFYING ∧ t.crash.qualT = some ⟨s.now, 4⟩)) ∧
      (s.phase ≠ .LOADING → exec .portsEnabled s = .next s)

/-- The slots as the store gives them (R122): a failed check, an identity 0 or the identity of a lower-numbered
ACTIVE slot makes a slot CORRUPT, an EMPTY record gives an EMPTY slot, and any other is ACTIVE with both counters at the
stored one, no candidate, no reject and no commit pending (R111). No two ACTIVE slots hold one identity (R112). That a
CORRUPT slot holds identity 0 and counters 0 is the model's choice (log entry 25), and so are the bytes of which the check
is formed (log entry 29). -/
def Obligations.LoadedSlotsAreUnique : Prop :=
  ∀ (v : Vector StoredSlot 8) (i : Fin 8),
    let x := v[i]
    let f := (loadedFobs v)[i]
    let taken := ∃ k : Fin 8, k < i ∧ (loadedFobs v)[k].status = .ACTIVE ∧ (loadedFobs v)[k].identity = x.identity
    (x.ok = false → f = { FobSlot.empty with status := .CORRUPT }) ∧
    (x.ok = true → x.active = false → f = FobSlot.empty) ∧
    (x.ok = true → x.active = true → x.identity = 0#32 ∨ taken → f = { FobSlot.empty with status := .CORRUPT }) ∧
    (x.ok = true → x.active = true → x.identity ≠ 0#32 → ¬ taken →
      f = ⟨.ACTIVE, x.identity, x.counter, x.counter, none, 0, none, false⟩) ∧
    ∀ k : Fin 8, f.status = .ACTIVE → (loadedFobs v)[k].status = .ACTIVE →
      f.identity = (loadedFobs v)[k].identity → i = k

/-! ## The lock table -/

/-- The vehicle lock status is the table of R7 on the five latch states, and on nothing else; READ_LATCHES reports it. -/
def Obligations.VehicleStatusTable : Prop :=
  ∀ s t : State,
    let st := fun l => (s.act (.latch l)).state
    (s.vehicle = .ALL_UNLOCKED ↔ ∀ l, st l = .UNLOCKED) ∧
    (s.vehicle = .DEADLOCKED ↔
      st .FL = .DEADLOCKED ∧ st .FR = .DEADLOCKED ∧ st .RL = .DEADLOCKED ∧ st .RR = .DEADLOCKED ∧
        st .TG = .LOCKED) ∧
    (s.vehicle = .ALL_LOCKED ↔
      (∀ l, st l = .LOCKED ∨ st l = .DEADLOCKED) ∧ ¬ s.vehicle = .DEADLOCKED) ∧
    (s.vehicle = .PARTIAL ↔
      ¬ s.vehicle = .ALL_UNLOCKED ∧ ¬ s.vehicle = .DEADLOCKED ∧ ¬ s.vehicle = .ALL_LOCKED) ∧
    ((∀ l, (t.act (.latch l)).state = st l) → t.vehicle = s.vehicle) ∧
    ((takeReadLatches s).1.data.extractLsb' 61 2).toNat = vehicleCode s.vehicle

/-- CONTACT_CHANGE at a record that follows (R4, R5, R8): a valid position is taken at once, fault SENSOR clears and
the INVALID timer stops; an INVALID position keeps the state and starts the timer. The part is ACTIVE (R184), and
nothing else changes. -/
def Obligations.ContactChangeIsFollowed : Prop :=
  ∀ (c : Contact) (closed : Bool) (s : State), operating s → calm s → contactLevel s.pins c ≠ closed →
    follows (s.act (contactAct c)).activity = true →
    let a := contactAct c
    let r := s.act a
    let woken : State := { s with pins := setContact c closed s.pins, phase := .ACTIVE }
    exec (.contactChange c closed) s = .next (raise .LATCH_CHANGED (woken.setAct a
      (match decodeContacts (setContact c closed s.pins) a with
        | some p => { r with
            state := p
            invalidT := none
            fault := if r.fault = .SENSOR then .NONE else r.fault }
        | none => { r with invalidT := some ⟨s.now, 100⟩ })))

/-- CONTACT_CHANGE at a record that does not follow (R4, R22): while it strokes only the contact changes; in a retry
wait a position other than the wait's target changes nothing more, and the target ends the wait as a success. The
actuator is IDLE then, whatever the queue names. -/
def Obligations.ContactChangeWhileNotFollowing : Prop :=
  ∀ (c : Contact) (closed : Bool) (x : RetryWait) (s : State), operating s → calm s →
    contactLevel s.pins c ≠ closed →
    let a := contactAct c
    let r := s.act a
    let woken : State := { s with pins := setContact c closed s.pins, phase := .ACTIVE }
    let seen := decodeContacts (setContact c closed s.pins) a
    (r.activity = .STROKING → exec (.contactChange c closed) s = .next (raise .LATCH_CHANGED woken)) ∧
    (r.activity = .RETRY_WAIT → r.wait = some x →
      (seen ≠ some (waitTarget a x) →
        exec (.contactChange c closed) s = .next (raise .LATCH_CHANGED woken)) ∧
      (seen = some (waitTarget a x) → s.slot.isOpen = false →
        exec (.contactChange c closed) s = .next (raise .LATCH_CHANGED ((leaveSlot a woken).setAct a { r with
          state := waitTarget a x
          activity := .IDLE
          fault := .NONE
          attempts := 0
          invalidT := none
          wait := none }))))

/-- AJAR_CHANGE (R6, R18): the field follows its contact and LATCH_CHANGED is raised; OPEN cancels the relock timer,
CLOSED has no effect beyond the field and its notice. -/
def Obligations.AjarChangeFollowsItsContact : Prop :=
  ∀ (l : Latch) (isOpen : Bool) (s : State), operating s → calm s → s.pins.ajarOpen.get l ≠ isOpen →
    exec (.ajarChange l isOpen) s = .next (raise .LATCH_CHANGED { s with
      pins := { s.pins with ajarOpen := s.pins.ajarOpen.set l isOpen }
      phase := .ACTIVE
      relock := if isOpen then none else s.relock })

/-- SENSED_INVALID_EXPIRY (R5): fault SENSOR and LATCH_FAULT, the state kept; that the timer goes on in STANDBY, which the
running part includes here, is the model's choice (log entry 42). STROKE_COUNT_DECAY (R24): the count falls
by 1 and the timer runs again while the count is above 0; the fall from 10 to 9 is an admission trigger. -/
def Obligations.LockTableTimersExpire : Prop :=
  ∀ (d : Door) (a : Act) (t : Timer) (s : State), operating s → calm s → timerDue s.now t = true →
    let r := s.act a
    let u := s.setAct a { r with
      strokes := r.strokes - 1
      decay := if 0 < r.strokes - 1 then some ⟨s.now, 3000⟩ else none }
    ((s.act (.latch d.latch)).invalidT = some t →
      exec (.sensedInvalidExpiry d) s = .next (raise .LATCH_FAULT (s.setAct (.latch d.latch)
        { s.act (.latch d.latch) with invalidT := none, fault := .SENSOR }))) ∧
    (r.decay = some t → r.strokes ≠ 10 → exec (.strokeCountDecay a) s = .next u) ∧
    (r.decay = some t → r.strokes = 10 → exec (.strokeCountDecay a) s = .next (finish (trigger u)))

/-- R9, R90: a request that meets no retry wait and no queued job for any of its actuators, in a queue with room,
forms one USER job with the next id; its actuators have attempts 0 and are QUEUED, but that one that strokes reads
STROKING on (R92). A queue that rises to 14 jobs or more sets the near-full flag and raises QUEUE_NEAR_FULL where the
flag was NO, one that falls to 13 or less clears it, and no other change of the queue touches either (R105). The new
job's id is State.newId: that a live id is skipped when an id is taken is the model's choice (log entry 46). -/
def Obligations.RequestFormsOneJob : Prop :=
  ∀ (o : Origin) (g : Goal) (as : List Act) (q : List Job) (s : State), as ≠ [] →
    (∀ a ∈ as, (s.act a).wait = none ∧ s.queuedFor a = none) → s.queue.length < 16 →
    let u := (formJob o g as s).2
    let v := s.setQueue q
    formJob o g as s = (.job s.newId, as.foldl (fun t a => queueAct a t) (enterQueue
      { id := s.newId
        origin := o
        targets := .lock g as
        priority := .USER
        enqueued := s.reading
        blocking := false
        shed := false
        cost := 0 } s.tookId)) ∧
    (∀ a ∈ as, u.act a = { s.act a with
      attempts := 0
      activity := if (s.act a).activity = .STROKING then .STROKING else .QUEUED }) ∧
    (∀ a, a ∉ as → u.act a = s.act a) ∧ u.strokes = s.strokes ∧ u.windows = s.windows ∧ u.slot = s.slot ∧
    u.nearFull = (s.nearFull || decide (13 ≤ s.queue.length)) ∧
    (∀ p, (u.port p).pending = (if 13 ≤ s.queue.length ∧ s.nearFull = false then (s.port p).pending ||| 0x0040#16
      else (s.port p).pending)) ∧
    v.queue = q ∧
    (s.queue.length < q.length → 14 ≤ q.length → s.nearFull = false →
      v.nearFull = true ∧ ∀ p, (v.port p).pending = (s.port p).pending ||| 0x0040#16) ∧
    (q.length < s.queue.length → q.length ≤ 13 → v.nearFull = false ∧ v.ports = s.ports) ∧
    (q.length = s.queue.length ∨ (s.queue.length < q.length ∧ (q.length ≤ 13 ∨ s.nearFull = true)) ∨
      (q.length < s.queue.length ∧ 14 ≤ q.length) → v = { s with queue := q })

/-- R91: a queued job with the same target absorbs a request, and one with another target loses the actuator to the
new job, and is deleted where that was its last; R90: a full queue takes no new job. LATCH_REQUEST (R12) is refused by
the first of its checks that fails, BAD_INDEX, CRASH_ACTIVE, DOOR_OPEN, then by a full queue, with no other change.
The new job's id is State.newId: that a live id is skipped when an id is taken is the model's choice (log entry 46).
-/
def Obligations.RequestAbsorbedOrKeptOut : Prop :=
  ∀ (o : Origin) (g : Goal) (a : Act) (j : Job) (set target : Byte) (s : State),
    ((s.act a).wait = none →
      (s.queuedFor a = some j → j.goal? = some g → formJob o g [a] s = (.job j.id, s)) ∧
        (s.queuedFor a = none → s.queue.length = 16 → (s.act a).activity ≠ .QUEUED →
          formJob o g [a] s = (.full, s)) ∧
        (s.queuedFor a = some j → (∀ h, j.goal? = some h → sameGoal h g a = false) → s.queue.length < 16 →
          let left : State := { s with queue := s.queue.filterMap (fun x => match x.targets with
            | .lock h as =>
              if a ∉ as then some x
              else if as.all (fun b => b = a) then none
              else some { x with targets := .lock h (as.filter (fun b => b ≠ a)) }
            | .window _ => some x) }
          let u := (formJob o g [a] s).2
          (formJob o g [a] s).1 = .job left.newId ∧
            u.queue = left.queue ++ [⟨left.newId, o, .lock g [a], .USER, s.reading, false, false, 0⟩] ∧
            (u.act a).attempts = 0 ∧ (∀ b, b ≠ a → u.act b = s.act b) ∧ u.strokes = s.strokes ∧
            u.windows = s.windows)) ∧
    (listening .M s → calm s →
      let refused := fun (r : Reason) =>
        exec (.latchRequest .M set target) s = .next (respond .M 0x11#8 (Answer.refused r) (arrived .M s))
      let named := set ≠ 0#8 ∧ set.toNat < 32
      (set = 0#8 ∨ 32 ≤ set.toNat ∨ 3 ≤ target.toNat → refused .BAD_INDEX) ∧
      (named → target.toNat < 2 → s.crash.latch = true → refused .CRASH_ACTIVE) ∧
      (named → target = 1#8 → s.crash.latch = false → (∃ l ∈ Latch.all, s.pins.ajarOpen.get l = true) →
        refused .DOOR_OPEN) ∧
      (named → target.toNat < 3 → (target.toNat < 2 → s.crash.latch = false) →
        (target = 1#8 → ∀ l, s.pins.ajarOpen.get l = false) → s.queue.length = 16 →
        (∀ l, (s.act (.latch l)).wait = none ∧ s.queuedFor (.latch l) = none ∧
          (s.act (.latch l)).activity ≠ .QUEUED) → refused .QUEUE_FULL))

/-- CENTRAL_LOCK_ROCKER, KEY_CYLINDER, PANEL_KEY_INPUT_RELEASE and CHILD_SAFETY_BUTTON (R10, R11, R13): the job each
forms, LOCK ignored while the crash latch is set, the key-lock time, and the DEADLOCK of a second turn. The model's
choices: the key-lock time is set whatever the queue took (log entry 21), and each row is a press, also on an input that
reads active already (log entry 9). -/
def Obligations.PanelAndKeyFormTheirJobs : Prop :=
  ∀ (i : PanelInput) (s : State), operating s → calm s →
    let five := [Latch.FL, .FR, .RL, .RR, .TG].map Act.latch
    let doors := [Latch.FL, .FR, .RL, .RR].map Act.latch
    let rocked := fun t : LockTurn => { s with pins := { s.pins with rocker := some t }, phase := Phase.ACTIVE }
    let turned := fun t : LockTurn => { s with pins := { s.pins with key := some t }, phase := Phase.ACTIVE }
    let pressed : State := { s with pins := { s.pins with childButton := true }, phase := .ACTIVE }
    let timed := fun u : State => { u with keyLock := some ⟨s.now, false⟩ }
    (exec (.centralLockRocker .UNLOCK) s =
      .next (finish (panelLatchRequest .DRIVER_PANEL .UNLOCK five (rocked .UNLOCK)))) ∧
    (s.crash.latch = false → exec (.centralLockRocker .LOCK) s =
      .next (finish (panelLatchRequest .DRIVER_PANEL .LOCK five (rocked .LOCK)))) ∧
    (s.crash.latch = true → exec (.centralLockRocker .LOCK) s = .next (rocked .LOCK)) ∧
    (exec (.keyCylinder .UNLOCK) s = .next (finish
      (panelLatchRequest .KEY_CYLINDER .UNLOCK five { turned .UNLOCK with keyLock := none }))) ∧
    (s.crash.latch = false →
      ¬((∃ r, s.keyLock = some r ∧ ageAt s.now r < 3000) ∧ ∀ l, s.pins.ajarOpen.get l = false) →
      exec (.keyCylinder .LOCK) s =
        .next (finish (timed (panelLatchRequest .KEY_CYLINDER .LOCK five (turned .LOCK))))) ∧
    (s.crash.latch = false →
      (∃ r, s.keyLock = some r ∧ ageAt s.now r < 3000) → (∀ l, s.pins.ajarOpen.get l = false) →
      exec (.keyCylinder .LOCK) s =
        .next (finish (timed (panelLatchRequest .KEY_CYLINDER .DEADLOCK doors (turned .LOCK))))) ∧
    (s.crash.latch = true → exec (.keyCylinder .LOCK) s = .next (turned .LOCK)) ∧
    (exec .childSafetyButton s = .next (finish (formJob .DRIVER_PANEL
      (if s.table.children.crl.state = .ENGAGED ∧ s.table.children.crr.state = .ENGAGED then .RELEASE
        else .ENGAGE) [.child .CRL, .child .CRR] pressed).2)) ∧
    exec (.panelKeyInputRelease i) s = .next { s with
      pins := (match i with
        | .ROCKER => { s.pins with rocker := none }
        | .KEY => { s.pins with key := none }
        | .CHILD_BUTTON => { s.pins with childButton := false })
      phase := .ACTIVE }

/-- CHILD_REQUEST (R13): a wrong set or action is BAD_INDEX; from rest, one naming children that are all in the
opposite state drives them at once, whatever the crash latch: one stroke of STROKE_TIME in the tail group, PLUS to
engage and MINUS to release, one unit and one half-bridge for each side (R9, R25 to R31, R90, R95). The new job's id
is State.newId: that a live id is skipped when an id is taken is the model's choice (log entry 46). -/
def Obligations.ChildRequestDrivesItsSides : Prop :=
  ∀ (sides action : Byte) (s : State), listening .M s → calm s →
    let as := (if sides.getLsbD 0 then [Act.child .CRL] else []) ++ (if sides.getLsbD 1 then [Act.child .CRR] else [])
    let engage := action = 0#8
    let target := if engage then Position.ENGAGED else .RELEASED
    (sides = 0#8 ∨ 4 ≤ sides.toNat ∨ 2 ≤ action.toNat →
      exec (.childRequest .M sides action) s =
        .next (respond .M 0x12#8 (Answer.refused .BAD_INDEX) (arrived .M s))) ∧
    (sides ≠ 0#8 → sides.toNat < 4 → action.toNat < 2 → restingLocks s →
      (∀ a ∈ as, (s.act a).state = if engage then .RELEASED else .ENGAGED) → s.units = 0 →
      2 ≤ s.params.driveBudget → s.pins.ocTail = false →
      ∃ u, exec (.childRequest .M sides action) s = .next u ∧
        u.strokes = [⟨some s.newId, .TAIL, if engage then .PLUS else .MINUS,
          as.map (fun a => ⟨a, target, s.params.strokeTime⟩), s.params.strokeTime, s.reading, 2, as.length⟩] ∧
        u.units = as.length ∧ u.queue = [] ∧
        u.admitted = s.admitted ++ [⟨s.newId, .PORT_M, .lock (if engage then .ENGAGE else .RELEASE) as, .USER,
          s.reading, false, false, as.length⟩] ∧
        (∀ a ∈ as, (u.act a).activity = .STROKING ∧ (u.act a).state = (s.act a).state ∧ (u.act a).attempts = 1 ∧
          (u.act a).strokes = (s.act a).strokes + 1 ∧ u.bridge a = if engage then .LOW else .HIGH) ∧
        (∀ a, a ∉ as → u.act a = s.act a ∧ u.bridge a = .OFF) ∧
        u.commonBridge .TAIL = (if engage then .HIGH else .LOW) ∧ u.commonBridge .DOOR = .OFF ∧
        (u.port .M).slot = ⟨0x12#8, .ACCEPTED, packData [(8, s.newId)]⟩ ∧ u.relock = s.relock ∧
        u.windows = s.windows ∧ u.fobs = s.fobs ∧ u.search = s.search ∧ u.hold = s.hold ∧ u.crash = s.crash ∧
        u.slot = s.slot ∧ u.entry = s.entry ∧ u.keyLock = s.keyLock ∧ u.params = s.params ∧ u.store = s.store)

/-- From rest, with every latch UNLOCKED, a LOCK of the rocker, of the key, of Port M on all five or of the relock
timer drives all five latches at once: two PLUS strokes of STROKE_TIME under one job of the request's origin, 10 units
held, and every latch STROKING with attempts 1 (R9, R18, R20, R26 to R31, R95, R100). With every latch LOCKED, an
UNLOCK of Port M on all five drives two MINUS strokes, and with every ajar CLOSED a DEADLOCK drives the four doors for
DEADLOCK_STROKE_TIME and drops TG, which is at its target already (R9, R12). Where a COMFORT run holds the units that
a LOCK of Port M needs, it is shed: its window brakes, the job waits with its shed flag set, and with the hold open
the window is re-queued behind it (R102, R103); the origin of that job is the model's choice (log entry 48). The new
job's id is State.newId: that a live id is skipped when an id is taken is the model's choice (log entry 46). -/
def Obligations.LockFromRestDrivesAllFive : Prop :=
  ∀ (t : Timer) (w : Win) (k : WindowTask) (x : Job) (c : Commander) (s : State), listening .M s → calm s →
    restingLocks s → s.crash.latch = false → s.pins.ocDoor = false → s.pins.ocTail = false →
    let five := [Latch.FL, .FR, .RL, .RR, .TG]
    let d := s.params.strokeTime
    let free := s.units = 0 ∧ 10 ≤ s.params.driveBudget
    let unlocked := ∀ l, (s.act (.latch l)).state = .UNLOCKED
    let locked := ∀ l, (s.act (.latch l)).state = .LOCKED
    let all := fun (i : Instr) (o : Origin) (g : Goal) (before after : Position) (pol : Polarity) =>
      ∃ u, exec i s = .next u ∧
        u.strokes =
          [⟨some s.newId, .DOOR, pol, [.FL, .FR, .RL, .RR].map (fun l => ⟨.latch l, after, d⟩), d, s.reading, 2, 8⟩,
            ⟨some s.newId, .TAIL, pol, [⟨.latch .TG, after, d⟩], d, s.reading, 2, 2⟩] ∧
        u.units = 10 ∧ u.queue = [] ∧ u.relock = none ∧
        u.admitted = s.admitted ++ [⟨s.newId, o, .lock g (five.map Act.latch), .USER, s.reading, false, false, 10⟩] ∧
        (∀ l, (u.act (.latch l)).activity = .STROKING ∧ (u.act (.latch l)).state = before ∧
          (u.act (.latch l)).attempts = 1 ∧ (u.act (.latch l)).strokes = (s.act (.latch l)).strokes + 1) ∧
        (∀ c, u.act (.child c) = s.act (.child c)) ∧
        u.windows = s.windows ∧ u.fobs = s.fobs ∧ u.search = s.search ∧ u.hold = s.hold ∧
        u.crash = s.crash ∧ u.slot = s.slot ∧ u.params = s.params ∧ u.store = s.store
    (free → unlocked →
      all (.centralLockRocker .LOCK) .DRIVER_PANEL .LOCK .UNLOCKED .LOCKED .PLUS ∧
      all (.latchRequest .M 0x1F#8 0#8) .PORT_M .LOCK .UNLOCKED .LOCKED .PLUS ∧
      (s.keyLock = none → all (.keyCylinder .LOCK) .KEY_CYLINDER .LOCK .UNLOCKED .LOCKED .PLUS) ∧
      (s.relock = some t → timerDue s.now t = true →
        all .relockTimerExpiry .RELOCK .LOCK .UNLOCKED .LOCKED .PLUS)) ∧
    (free → locked → all (.latchRequest .M 0x1F#8 2#8) .PORT_M .UNLOCK .LOCKED .UNLOCKED .MINUS) ∧
    (free → locked → (∀ l, s.pins.ajarOpen.get l = false) →
      ∃ u, exec (.latchRequest .M 0x1F#8 1#8) s = .next u ∧
        u.strokes = [⟨some s.newId, .DOOR, .PLUS,
          [.FL, .FR, .RL, .RR].map (fun l => ⟨.latch l, .DEADLOCKED, s.params.deadlockStrokeTime⟩),
          s.params.deadlockStrokeTime, s.reading, 2, 8⟩] ∧
        u.units = 8 ∧ u.queue = [] ∧ u.relock = none ∧
        (∀ l ∈ Latch.doors, (u.act (.latch l)).activity = .STROKING ∧ (u.act (.latch l)).state = .LOCKED ∧
          (u.act (.latch l)).attempts = 1) ∧
        u.act (.latch .TG) = { s.act (.latch .TG) with attempts := 0 } ∧
        (∀ c, u.act (.child c) = s.act (.child c)) ∧
        (u.port .M).slot = ⟨0x11#8, .ACCEPTED, packData [(8, s.newId)]⟩ ∧ u.windows = s.windows ∧
        u.slot = s.slot) ∧
    (unlocked → s.params.driveBudget < s.units + 10 → (∀ v, v ≠ w → (s.win v).run = .IDLE) →
      (s.win w).run = .RUNNING → (s.win w).mode = .COMFORT → (s.win w).commander = some c →
      (s.win w).job = some x.id → s.admitted = [x] → x.targets = .window k → k.win = w →
      fits .COMFORT .UP none w s = .FIT →
      let y : Job := ⟨s.newId, .PORT_M, .lock .LOCK (five.map Act.latch), .USER, s.reading, false, true, 0⟩
      let id := ({ s with queue := [y], nextId := succId s.newId } : State).newId
      ∃ u, exec (.latchRequest .M 0x1F#8 0#8) s = .next u ∧ u.strokes = [] ∧ u.units = s.units ∧
        u.win w = stopRecord s.now none (s.win w) ∧ (∀ v, v ≠ w → u.win v = s.win v) ∧ u.admitted = [x] ∧
        u.queue = y :: (if s.hold.isOpen then
          [⟨id, c.origin, .window ⟨w, .COMFORT, .UP, none, c⟩, .COMFORT, s.reading, false, false, 0⟩] else []) ∧
        (∀ l, (u.act (.latch l)).activity = .QUEUED ∧ (u.act (.latch l)).state = .UNLOCKED) ∧
        (u.port .M).slot = ⟨0x11#8, .ACCEPTED, packData [(8, s.newId)]⟩ ∧ u.hold = s.hold ∧ u.slot = s.slot)

/-- STROKE_END with every sensed position at its target (R20, R32): each member takes its target with fault NONE,
attempts 0 and IDLE, the record and its units go, and nothing else changes; here no other stroke of the job runs, and
the queue and the slot have nothing for the admission attempt that follows. -/
def Obligations.StrokeEndVerifiesItsMembers : Prop :=
  ∀ (st : Stroke) (id : Nat) (s : State), operating s → calm s → s.strokes = [st] → st.job = some id →
    (st.members.map (·.act)).Nodup → timerDue s.now ⟨st.started.time, st.duration⟩ = true →
    (∀ m ∈ st.members, s.sensed m.act = some m.target) → s.queue = [] → s.slot.isOpen = false →
    s.slot.pending = [] → s.slot.stroking = [] → s.slot.waiting = [] →
    ∃ u, exec (.strokeEnd (some id) st.group) s = .next u ∧ u.strokes = [] ∧ u.units = s.units - st.units ∧
      u.admitted = s.admitted.filter (fun j => j.id ≠ id) ∧
      (∀ m ∈ st.members, u.act m.act = { s.act m.act with
        state := m.target
        activity := .IDLE
        fault := .NONE
        attempts := 0
        invalidT := none
        wait := none }) ∧
      (∀ a, (∀ m ∈ st.members, m.act ≠ a) → u.act a = s.act a) ∧
      u.windows = s.windows ∧ u.queue = [] ∧ u.slot = s.slot ∧ u.fobs = s.fobs ∧ u.search = s.search ∧
      u.crash = s.crash ∧ u.hold = s.hold ∧ u.relock = s.relock ∧ u.entry = s.entry ∧ u.now = s.now ∧
      ∀ p, (u.port p).slot = (s.port p).slot ∧ (u.port p).mask = (s.port p).mask

/-- STROKE_END that missed (R20, R22), of a stroke toward its job's target (R9): below the allowance the actuator
waits 500 ms for a retry with a reserved job, at the allowance it finally fails with NO_MOVE, its state from sensed.
The fresh job's id is State.newId: that a live id is skipped when an id is taken, and that the id of the job which
loses the stroke is live until then, is the model's choice (log entry 46). -/
def Obligations.StrokeEndMissedWaitsOrFails : Prop :=
  ∀ (a : Act) (m : Member) (st : Stroke) (j : Job) (g : Goal) (s : State), operating s → calm s →
    s.strokes = [st] → st.job = some j.id → st.members = [m] → m.act = a →
    s.admitted = [j] → j.goal? = some g → m.target = strokeTarget g a →
    timerDue s.now ⟨st.started.time, st.duration⟩ = true → s.sensed a ≠ some m.target →
    s.queue = [] → s.slot.isOpen = false → s.slot.pending = [] → s.slot.stroking = [] → s.slot.waiting = [] →
    ((s.act a).attempts < st.allowance → ∃ u, exec (.strokeEnd (some j.id) st.group) s = .next u ∧
      u.act a = { s.act a with
        activity := .RETRY_WAIT
        invalidT := none
        wait := some ⟨⟨s.now, 500⟩, .NO_MOVE, some
          { j with
            id := s.newId
            origin := .RETRY
            targets := .lock g [a]
            blocking := false
            shed := false
            cost := 0 }⟩ } ∧
      u.strokes = [] ∧ u.admitted = [] ∧ u.queue = [] ∧ u.units = s.units - st.units ∧
      u.nextId = succId s.newId ∧ (∀ b, b ≠ a → u.act b = s.act b) ∧ u.windows = s.windows) ∧
    (st.allowance ≤ (s.act a).attempts → ∃ u, exec (.strokeEnd (some j.id) st.group) s = .next u ∧
      u.act a = { s.act a with
        state := (s.sensed a).getD (s.act a).state
        activity := .IDLE
        fault := .NO_MOVE
        attempts := 0
        invalidT := (match s.sensed a with | some _ => none | none => some ⟨s.now, 100⟩)
        wait := none } ∧
      u.strokes = [] ∧ u.admitted = [] ∧ u.queue = [] ∧ u.units = s.units - st.units ∧
      (∀ b, b ≠ a → u.act b = s.act b) ∧ u.windows = s.windows ∧
      ∀ p, (u.port p).pending &&& 0x0004#16 = 0x0004#16)

/-- RETRY_WAIT_EXPIRY (R22): the reserved job enters the queue at the place of its enqueue time and the actuator
follows again, QUEUED; a queue of 16 jobs is the final failure with the fault of the last attempt; a crash retry goes
to the slot's pending set (R110). That the record takes its state from sensed then, and starts the 100 ms timer where
sensed is INVALID, is read from R4 and R5 (log entry 17). -/
def Obligations.RetryWaitExpiryReturnsToQueue : Prop :=
  ∀ (a : Act) (l : Latch) (x : RetryWait) (j : Job) (s : State), operating s → (s.act a).wait = some x →
    timerDue s.now x.timer = true →
    (x.job = some j → s.queue.length < 16 →
      exec (.retryWaitExpiry a) s = .next (finish (enterQueue j (resumeAs a .QUEUED s)))) ∧
    (x.job = some j → 16 ≤ s.queue.length →
      exec (.retryWaitExpiry a) s = .next (finish (finalFailure a x.cause s))) ∧
    (x.job = none → a = .latch l → exec (.retryWaitExpiry a) s =
      .next (finish (trigger { resumeAs a .QUEUED s with slot := { s.slot with
        waiting := s.slot.waiting.filter (· ≠ l)
        pending := Latch.all.filter (fun y => y = l ∨ y ∈ s.slot.pending) } })))

/-- GROUP_OVERCURRENT (R34, R21): its activation cuts every running stroke of the group and of no other and returns
their units. Each member of an ordinary stroke below its allowance waits 500 ms for a retry with fault OVERCURRENT and a
reserved job, and at its allowance finally fails with it (R20, R22); a latch of a crash stroke waits 200 ms in the slot.
With no stroke of the group running, and at its end, only the line changes. Which of several members takes the lower
fresh job id is the model's choice (log entry 33), and the statement leaves it open. -/
def Obligations.GroupOvercurrentCutsItsGroup : Prop :=
  ∀ (g : Group) (ls : List Latch) (s : State), operating s → calm s → overcurrentLine s.pins g = false →
    let cut := s.strokes.filter (fun st => st.group = g)
    let kept := s.strokes.filter (fun st => st.group ≠ g)
    let members := cut.flatMap (·.members)
    let follows := fun (a : Act) (r : ActRec) (f : LockFault) => { r with
      state := (s.sensed a).getD r.state
      activity := .IDLE
      fault := f
      attempts := 0
      invalidT := (match s.sensed a with | some _ => none | none => some ⟨s.now, 100⟩)
      wait := none }
    (cut = [] → exec (.groupOvercurrent g true) s = .next { s with pins := setOvercurrent g true s.pins }) ∧
    (cut ≠ [] → (members.map (·.act)).Nodup → (∀ st ∈ cut, st.job ≠ none) → s.queue = [] → s.slot = CrashSlot.closed →
      ∃ u, exec (.groupOvercurrent g true) s = .next u ∧ u.strokes = kept ∧
        u.units = s.units - (cut.map (·.units)).sum ∧
        u.admitted = s.admitted.filter (fun j =>
          cut.all (fun st => st.job ≠ some j.id) || kept.any (fun st => st.job = some j.id)) ∧
        (∀ st ∈ cut, ∀ m ∈ st.members,
          (st.allowance ≤ (s.act m.act).attempts → u.act m.act = follows m.act (s.act m.act) .OVERCURRENT) ∧
          ((s.act m.act).attempts < st.allowance → ∀ j, drivingJob st m s = some j → ∀ h, j.goal? = some h →
            ∃ id, u.act m.act = { s.act m.act with
              activity := .RETRY_WAIT
              fault := .OVERCURRENT
              invalidT := none
              wait := some ⟨⟨s.now, 500⟩, .OVERCURRENT, some { j with
                id := id
                origin := .RETRY
                targets := .lock h [m.act]
                blocking := false
                shed := false
                cost := 0 }⟩ })) ∧
        (∀ a, (∀ m ∈ members, m.act ≠ a) → u.act a = s.act a) ∧ u.queue = [] ∧ u.slot = s.slot ∧
        u.windows = s.windows ∧ u.fobs = s.fobs ∧ u.search = s.search ∧ u.crash = s.crash ∧ u.hold = s.hold ∧
        (members ≠ [] → ∀ p, (u.port p).pending &&& 0x0004#16 = 0x0004#16)) ∧
    (ls ≠ [] → ls.Nodup → cut.map (·.job) = [none] → members.map (·.act) = ls.map Act.latch →
      (∀ l ∈ ls, (s.act (.latch l)).attempts < 3) → s.queue = [] → s.slot.isOpen = true → s.slot.pending = [] →
      ∃ u, exec (.groupOvercurrent g true) s = .next u ∧ u.strokes = kept ∧ u.slot.isOpen = true ∧
        u.units = s.units - (cut.map (·.units)).sum ∧
        (∀ l ∈ ls, l ∈ u.slot.waiting ∧ l ∉ u.slot.stroking ∧ u.act (.latch l) = { s.act (.latch l) with
          activity := .RETRY_WAIT
          fault := .OVERCURRENT
          invalidT := none
          wait := some ⟨⟨s.now, 200⟩, .OVERCURRENT, none⟩ }) ∧
        (∀ a, (∀ m ∈ members, m.act ≠ a) → u.act a = s.act a) ∧ u.windows = s.windows) ∧
    exec (.groupOvercurrent g false) { s with pins := setOvercurrent g true s.pins } = .next s

/-- The matrix law (R26, R27) is kept by every step: every running stroke is PLUS or MINUS, no two of one group have
opposite polarities, and every member belongs to its stroke's group. So is the law of the lock table (R4) with that of
crash (R156) and what keeps them, the laws of strokes, retry waits and the crash slot. -/
def Obligations.MatrixLawKeptByEveryStep : Prop :=
  ∀ s t : State, step s = .next t →
    (matrixLaw s → polesLaw s → matrixLaw t ∧ polesLaw t) ∧ (locksLaw s → locksLaw t)

/-! ## Window motion and the Pinch Monitor -/

/-- WINDOW_SWITCH_CHANGE to a first stage (R41, R42, R49, R95, R99): the window of an ungated switch, IDLE and free to
move, runs MANUAL in that direction at once, under a job of 4 units and the switch as its commander; the near-full
flag is NO after it, as at every queue this short (R105), and nothing else changes. The new job's id is State.newId:
that a live id is skipped when an id is taken is the model's choice (log entry 46). -/
def Obligations.SwitchPressRunsItsWindow : Prop :=
  ∀ (sw : Switch) (up : Bool) (s : State), operating s → calm s → s.pins.switches.get sw = .NEUTRAL →
    gated sw s = false →
    let w := switchWindow s.params sw
    let r := s.win w
    let st := if up then Stage.UP1 else .DOWN1
    let cmd : Commander := ⟨switchOrigin sw, switchRank sw⟩
    let d := if up then Dir.UP else .DOWN
    r.run = .IDLE → r.tally ≠ 3 → r.held = false → s.pins.sensorOk.get w = true →
    s.pins.ocWin.get w = false → s.queue = [] → s.slot.isOpen = false → s.units + 4 ≤ s.params.driveBudget →
    ∃ u, exec (.windowSwitchChange sw st) s = .next u ∧
      u.admitted = s.admitted ++ [⟨s.newId, cmd.origin, .window ⟨w, .MANUAL, d, none, cmd⟩, .USER, s.reading,
        false, false, 4⟩] ∧
      u.win w = { r with
        run := .RUNNING
        mode := .MANUAL
        dir := d
        job := some s.newId
        target := none
        commander := some cmd
        cont := none
        brakeT := none
        stallT := some ⟨s.now, 128⟩
        heatT := some ⟨s.now, 100⟩
        coolT := none
        clearT := some ⟨s.now, 500⟩
        mon := if up && r.normalized then beginMonitor s.params.blanking true r.mon else r.mon } ∧
      (∀ v, v ≠ w → u.win v = s.win v) ∧
      u = { s with
        pins := { s.pins with switches := s.pins.switches.set sw st }
        phase := .ACTIVE
        windows := u.windows
        admitted := u.admitted
        nextId := succId s.newId
        units := s.units + 4
        nearFull := false }

/-- WINDOW_SWITCH_CHANGE of a gated switch (R19) from NEUTRAL, with no AUTO run of the same switch: no request, no
window record changed, no notice. And a change to NEUTRAL (R43) stops the MANUAL or FORCED run that the same switch
commands, whatever the child locks. -/
def Obligations.SwitchGateAndRelease : Prop :=
  ∀ (sw : Switch) (st : Stage) (s : State), operating s → calm s →
    (s.pins.switches.get sw = .NEUTRAL → st ≠ .NEUTRAL → gated sw s = true → autoOf sw s = false →
      exec (.windowSwitchChange sw st) s = .next { s with
        pins := { s.pins with switches := s.pins.switches.set sw st }
        phase := .ACTIVE }) ∧
    (s.pins.switches.get sw ≠ .NEUTRAL →
      (∀ v ∈ releaseWindows sw, (s.win v).run = .IDLE ∨ (s.win v).run = .RUNNING) →
      ∃ u, exec (.windowSwitchChange sw .NEUTRAL) s = .next u ∧
        (∀ v ∈ releaseWindows sw, u.win v =
          (if (s.win v).run = .RUNNING ∧ ((s.win v).mode = .MANUAL ∨ (s.win v).mode = .FORCED) ∧
              (s.win v).commander.map (·.origin) = some (switchOrigin sw) then
            { s.win v with
              run := .BRAKING
              cont := none
              stallT := none
              brakeT := some ⟨s.now, 100⟩
              heatT := none
              clearT := none
              coolT := if 0 < (s.win v).H then some ⟨s.now, 2000⟩ else none
              tally := if (s.win v).mode = .FORCED then 0 else (s.win v).tally
              tallyT := if (s.win v).mode = .FORCED then none else (s.win v).tallyT
              mon := endMonitor (s.win v).mon }
          else s.win v)) ∧
        (∀ v, v ∉ releaseWindows sw → u.win v = s.win v) ∧
        u = { s with
          pins := { s.pins with switches := s.pins.switches.set sw .NEUTRAL }
          phase := .ACTIVE
          windows := u.windows
          spent := s.spent.set sw false })

/-- WINDOW_REQUEST (R46, R47): its checks in their order, the first that fails giving the answer; a request that
passes them on an IDLE window is ACCEPTED and runs, upward or downward, with the clamped target of a GOTO; a GOTO to
the present position is DONE; STOP by the rank of the run's commander. The new job's id is State.newId: that a live id
is skipped when an id is taken is the model's choice (log entry 46). -/
def Obligations.WindowRequestChecksInOrder : Prop :=
  ∀ (window action : Byte) (pos : BitVec 16) (w : Win) (c : Commander) (L : Nat) (s : State), listening .M s → calm s →
    let r := s.win w
    let answered := fun a => exec (.windowRequest .M window action pos) s = .next (respond .M 0x21#8 a (arrived .M s))
    let refused := fun (x : Reason) => answered (Answer.refused x)
    let free := s.crash.latch = false ∧ r.held = false ∧ r.normalized = true
    let brakes := exec (.windowRequest .M window action pos) s = .next (respond .M 0x21#8 Answer.done
      ((arrived .M s).setWin w (stopRecord s.now none r)))
    let turnedAway := (r.run = .REVERSING → refused .RANK) ∧ (r.run = .IDLE → s.queue.length = 16 → refused .QUEUE_FULL)
    let goes := fun (d : Dir) (target : Option Nat) => r.run = .IDLE → s.pins.sensorOk.get w = true →
      s.pins.ocWin.get w = false → s.queue = [] → s.slot.isOpen = false → s.units + 4 ≤ s.params.driveBudget →
      ∃ u, exec (.windowRequest .M window action pos) s = .next u ∧
        (u.port .M).slot = ⟨0x21#8, .ACCEPTED, packData [(8, s.newId)]⟩ ∧ u.port .E = s.port .E ∧
        (u.win w).run = .RUNNING ∧ (u.win w).mode = .AUTO ∧ (u.win w).dir = d ∧ (u.win w).P = r.P ∧
        (u.win w).commander = some ⟨.PORT_M, 2⟩ ∧ (u.win w).job = some s.newId ∧ (u.win w).target = target ∧
        u.units = s.units + 4 ∧ u.queue = [] ∧ (∀ v, v ≠ w → u.win v = s.win v) ∧ u.table = s.table ∧
        u.strokes = s.strokes ∧ u.fobs = s.fobs ∧ u.search = s.search ∧ u.crash = s.crash
    (4 ≤ window.toNat ∨ 4 ≤ action.toNat → refused .BAD_INDEX) ∧
    (winOf window = some w →
      (action.toNat < 3 → s.crash.latch = true → refused .CRASH_ACTIVE) ∧
      (action.toNat < 3 → s.crash.latch = false → r.held = true → refused .THERMAL) ∧
      (action.toNat < 3 → s.crash.latch = false → r.held = false → r.normalized = false → refused .NOT_NORMALIZED) ∧
      (free → action.toNat = 0 →
        (s.learned w = false → refused .NOT_LEARNED) ∧
        (s.learned w = true → s.pins.supply < 9000 → refused .UNDERVOLTAGE) ∧
        (s.learned w = true → 9000 ≤ s.pins.supply → goes .UP none ∧ turnedAway)) ∧
      (free → action.toNat = 1 → goes .DOWN none ∧ turnedAway) ∧
      (free → action.toNat = 2 → (r.profile.L = none → refused .NOT_LEARNED) ∧
        (r.profile.L = some L →
          let x := min pos.toNat L
          (x = r.P → (r.run = .IDLE ∨ r.run = .REVERSING → answered Answer.done) ∧
            (r.run = .RUNNING → r.commander = some c →
              (c.rank ≤ 2 → brakes) ∧ (2 < c.rank → answered Answer.done))) ∧
          (x < r.P → (s.learned w = false → refused .NOT_LEARNED) ∧
            (s.learned w = true → s.pins.supply < 9000 → refused .UNDERVOLTAGE) ∧
            (s.learned w = true → 9000 ≤ s.pins.supply →
              goes .UP (if x = 0 ∨ x = L then none else some x) ∧ turnedAway)) ∧
          (r.P < x → goes .DOWN (if x = 0 ∨ x = L then none else some x) ∧ turnedAway))) ∧
      (action.toNat = 3 → (r.run = .IDLE → answered Answer.done) ∧ (r.run = .REVERSING → refused .RANK) ∧
        (r.run = .RUNNING → r.commander = some c → (c.rank ≤ 2 → brakes) ∧ (2 < c.rank → refused .RANK))))

/-- QUALIFIED_EDGE (R50, R51, R60, R63, R64): an edge that does not qualify changes nothing; one of a window that is not
driven and not coasting moves no position; one of a driven window that is not monitored moves P by one within its limits
and restarts the stall timer. The edge that brings P to the target of a run stops it with the target cleared, and the one
that brings a reversal to its distance or to L stops the reversal. -/
def Obligations.QualifiedEdgeCountsPosition : Prop :=
  ∀ (w : Win) (h : HallInput) (since x : Nat) (s : State), operating s → calm s →
    let r := s.win w
    let seen := { r with lastHall := some h, hasEdge := true }
    let ok := s.pins.sensorOk.get w = true ∧ r.lastHall ≠ some h ∧ (r.hasEdge = false ∨ 100 ≤ since)
    let P := match r.dir with
      | .UP => r.P - 1
      | .DOWN => min (r.P + 1) (match r.normalized, r.profile.L with | true, some L => L | _, _ => 65535)
    let counted := exec (.qualifiedEdge w h since) s =
      .next (s.setWin w { seen with P := P, stallT := some ⟨s.now, 128⟩ })
    let stops := exec (.qualifiedEdge w h since) s = .next (s.setWin w { seen with
      P := P
      run := .BRAKING
      cont := none
      target := if r.run = .RUNNING then none else r.target
      stallT := none
      brakeT := some ⟨s.now, 100⟩
      heatT := none
      clearT := none
      coolT := if 0 < r.H then some ⟨s.now, 2000⟩ else none
      tally := if r.mode = .FORCED then 0 else r.tally
      tallyT := if r.mode = .FORCED then none else r.tallyT })
    let reached := (r.dir = .UP ∧ P ≤ x) ∨ (r.dir = .DOWN ∧ x ≤ P)
    let atEnd := r.revStart + r.revDistance ≤ P ∨ ∃ L, r.profile.L = some L ∧ L ≤ P
    (¬ ok → exec (.qualifiedEdge w h since) s = .next s) ∧
    (ok → (r.run = .IDLE ∨ r.run = .QUEUED) → exec (.qualifiedEdge w h since) s = .next (s.setWin w seen)) ∧
    (ok → r.run = .RUNNING → r.mon.phase = .OFF →
      (r.target = none → counted) ∧ (r.target = some x → (reached → stops) ∧ (¬ reached → counted))) ∧
    (ok → r.run = .REVERSING → r.mon.phase = .OFF → (atEnd → stops) ∧ (¬ atEnd → counted))

/-- STALL of an upward run (R52, R76): on an unnormalized window, or within the seal zone, it is the top: P 0,
normalized, a STALL fault cleared. Elsewhere it is a pinch, or in a FORCED run the fault STALL. The model's choices: a
STALL fault is cleared at the top of an unnormalized window too (log entry 24), and the reversal of a run without a
commander, which no run has, is given the origin CRASH (log entry 26). -/
def Obligations.UpwardStallIsTopOrPinch : Prop :=
  ∀ (w : Win) (t : Timer) (s : State), operating s → calm s → (s.win w).run = .RUNNING → (s.win w).dir = .UP →
    (s.win w).stallT = some t → timerDue s.now t = true →
    let r := s.win w
    ∃ u, exec (.stall w) s = .next u ∧ (∀ v, v ≠ w → u.win v = s.win v) ∧ u.table = s.table ∧
      u.strokes = s.strokes ∧ u.queue = s.queue ∧ u.units = s.units ∧ u.fobs = s.fobs ∧ u.search = s.search ∧
      (u.win w).run = .BRAKING ∧ (u.win w).brakeT = some ⟨s.now, 100⟩ ∧ (u.win w).stallT = none ∧
      (u.win w).mon.phase = .OFF ∧ (u.win w).profile.L = r.profile.L ∧
      (r.normalized = false ∨ r.P ≤ s.params.sealZone → (u.win w).P = 0 ∧ (u.win w).normalized = true ∧
        (u.win w).cont = none ∧ (u.win w).fault = (if r.fault = .STALL then .NONE else r.fault) ∧
        (u.win w).profile.R = (if r.mon.phase ≠ .OFF ∧ r.mon.clean = true ∧ r.profile.L.isSome = true then
          learnedReferences r.profile.R r.mon.scratch else r.profile.R) ∧ u.ports = s.ports) ∧
      (r.normalized = true → s.params.sealZone < r.P → r.mode ≠ .FORCED →
        (u.win w).cont = some ⟨.AUTO, .DOWN, none, ⟨(r.commander.map (·.origin)).getD .CRASH, 0⟩, true⟩ ∧
        (u.win w).tally = min 3 (r.tally + 1) ∧ (u.win w).tallyT = some ⟨s.now, 10000⟩ ∧
        (u.win w).mon.lastPinch.map (fun x => (x.cause, x.position, x.test)) = some (.STALL, r.P, .NONE) ∧
        ∀ p, (u.port p).pending = (s.port p).pending ||| 0x0010#16) ∧
      (r.normalized = true → s.params.sealZone < r.P → r.mode = .FORCED →
        (u.win w).cont = none ∧ (u.win w).fault = .STALL ∧ (u.win w).P = r.P ∧
        ∀ p, (u.port p).pending = (s.port p).pending ||| 0x0020#16)

/-- STALL of a downward run (R53): on an unnormalized window it only stops; with travel UNKNOWN and P 300 or more it
learns the travel; within the last eighth of a known travel it is the bottom; anything else is the fault STALL. -/
def Obligations.DownwardStallIsBottomOrFault : Prop :=
  ∀ (w : Win) (t : Timer) (L : Nat) (s : State), operating s → calm s → driven (s.win w).run = true →
    (s.win w).dir = .DOWN → (s.win w).stallT = some t → timerDue s.now t = true →
    let r := s.win w
    ∃ u, exec (.stall w) s = .next u ∧ (∀ v, v ≠ w → u.win v = s.win v) ∧ u.table = s.table ∧
      u.queue = s.queue ∧ u.units = s.units ∧ (u.win w).run = .BRAKING ∧ (u.win w).cont = none ∧
      (u.win w).normalized = r.normalized ∧ (u.win w).profile.R = r.profile.R ∧
      (r.normalized = false → (u.win w).P = r.P ∧ (u.win w).fault = r.fault ∧ u.ports = s.ports) ∧
      (r.normalized = true → r.profile.L = none → 300 ≤ r.P → (u.win w).profile.L = some r.P ∧
        (u.win w).P = r.P ∧ (u.win w).mon.marked = true ∧ u.ports = s.ports) ∧
      (r.normalized = true → r.profile.L = none → r.P < 300 → (u.win w).profile.L = none ∧
        (u.win w).fault = .STALL ∧ ∀ p, (u.port p).pending = (s.port p).pending ||| 0x0020#16) ∧
      (r.normalized = true → r.profile.L = some L → L - L / 8 ≤ r.P → (u.win w).P = L ∧
        (u.win w).profile.L = some L ∧ (u.win w).fault = (if r.fault = .STALL then .NONE else r.fault) ∧
        u.ports = s.ports) ∧
      (r.normalized = true → r.profile.L = some L → r.P < L - L / 8 → (u.win w).P = r.P ∧
        (u.win w).fault = .STALL ∧ ∀ p, (u.port p).pending = (s.port p).pending ||| 0x0020#16)

/-- QUALIFIED_EDGE that completes a pinch (R59, R75): the run brakes before an AUTO reversal downward
with no rank and the run's commander, the tally rises and PINCH is raised. -/
def Obligations.PinchByTestReverses : Prop :=
  ∀ (w : Win) (h : HallInput) (since : Nat) (k : Commander) (s : State), operating s → calm s →
    let r := s.win w
    let m := monitorEdge s.params r.profile (r.P - 1) (edgePeriod r since) s.pins.supply r.mon
    qualifies s w h since = true → r.run = .RUNNING → r.dir = .UP → r.mon.phase ≠ .OFF → r.target = none →
    r.mode ≠ .FORCED → r.commander = some k → 2 ≤ m.c →
    ∃ u, exec (.qualifiedEdge w h since) s = .next u ∧ (∀ v, v ≠ w → u.win v = s.win v) ∧
      u.table = s.table ∧ u.queue = s.queue ∧ u.units = s.units ∧ u.fobs = s.fobs ∧ u.schedule = s.schedule ∧
      (u.win w).run = .BRAKING ∧ (u.win w).brakeT = some ⟨s.now, 100⟩ ∧ (u.win w).P = r.P - 1 ∧
      (u.win w).cont = some ⟨.AUTO, .DOWN, none, ⟨k.origin, 0⟩, true⟩ ∧
      (u.win w).tally = min 3 (r.tally + 1) ∧ (u.win w).mon.phase = .OFF ∧ (u.win w).mon.c = 0 ∧
      (u.win w).mon.lastPinch = some (testPinch r.profile (r.P - 1) m) ∧
      ∀ p, (u.port p).pending = (s.port p).pending ||| 0x0010#16

/-- The monitored edge (R65, R68 to R75): an edge in the blanking only counts; after it, one within the seal
zone clears the persistence counter and learns nothing; any other moves the filter by a quarter of the difference,
rounded toward zero, keeps its minimum, and counts up exactly when it is over its reference or ratio. -/
def Obligations.MonitoredEdgeRules : Prop :=
  ∀ (v : Params) (p : Profile) (P T mv : Nat) (m : Monitor), m.edges < 65535 →
    let n := monitorEdge v p P T mv m
    let N : Nat := min (T * max 6000 (min mv 18000) / 13500) 65535
    let F : Nat := if m.primed then ((m.F : Int) + Int.tdiv ((N : Int) - (m.F : Int)) 4).toNat else N
    let low : Nat := if m.primed then min m.Fmin F else N
    let ref := referenceAt p (p.L.map (fun L => zoneOf P L))
    n.edges = m.edges + 1 ∧
    (m.phase = .BLANKING → m.edges + 1 ≤ m.blankingLength → n = { m with edges := m.edges + 1 }) ∧
    (¬(m.phase = .BLANKING ∧ m.edges + 1 ≤ m.blankingLength) → P ≤ v.sealZone →
      n = { m with phase := .ACTIVE, edges := m.edges + 1, c := 0 }) ∧
    (¬(m.phase = .BLANKING ∧ m.edges + 1 ≤ m.blankingLength) → v.sealZone < P →
      n.phase = .ACTIVE ∧ n.primed = true ∧ n.F = F ∧ n.Fmin = low ∧ n.clean = m.clean ∧
      (0 < ref → n.c = if ref + ref * v.pinchThreshold / 64 < F then m.c + 1 else 0) ∧
      (ref = 0 → n.c = if low + low / 2 < F then m.c + 1 else 0))

/-- BRAKING_TIMER_EXPIRY (R48, R59, R95): with no continuation and no follow-up job the window is IDLE, its 4 units
come back and WINDOW_STOPPED is raised; with a reversal it drives down from where it stands, untested under R44. -/
def Obligations.BrakingEndsIdleOrReversing : Prop :=
  ∀ (w : Win) (t : Timer) (c : Continuation) (id : Nat) (s : State), operating s → calm s → (s.win w).run = .BRAKING →
    (s.win w).brakeT = some t → timerDue s.now t = true → (s.win w).job = some id →
    let r := s.win w
    (r.cont = none → s.queue = [] → s.slot.isOpen = false →
      exec (.brakingTimerExpiry w) s = .next (raise .WINDOW_STOPPED ({ s with
        admitted := s.admitted.filter (fun j => j.id ≠ id)
        units := s.units - 4 }.setWin w { r with
          run := .IDLE
          job := none
          cont := none
          target := none
          commander := none
          brakeT := none }))) ∧
    (r.cont = some c → c.reversal = true → s.pins.ocWin.get w = false →
      exec (.brakingTimerExpiry w) s = .next (s.setWin w { r with
        run := .REVERSING
        mode := c.mode
        dir := c.dir
        target := none
        commander := some c.commander
        cont := none
        brakeT := none
        stallT := some ⟨s.now, 128⟩
        heatT := some ⟨s.now, 100⟩
        coolT := none
        clearT := some ⟨s.now, 500⟩
        revStart := r.P
        revDistance := s.params.reverseDistance }))

/-- HEATING_TIMER_EXPIRY, COOLING_TIMER_EXPIRY, TALLY_TIMER_EXPIRY and OVERCURRENT_FAULT_CLEAR (R55, R56, R57, R61),
where the thermal hold does not change. -/
def Obligations.WindowTimersCount : Prop :=
  ∀ (w : Win) (t : Timer) (s : State), operating s → calm s → timerDue s.now t = true →
    let r := s.win w
    (r.heatT = some t → r.held = false → min 900 (r.H + 1) < s.params.heatLimit →
      exec (.heatingTimerExpiry w) s =
        .next (s.setWin w { r with H := min 900 (r.H + 1), heatT := some ⟨s.now, 100⟩ })) ∧
    (r.coolT = some t → r.held = false → r.H ≤ s.params.heatLimit → 0 < s.params.heatLimit →
      exec (.coolingTimerExpiry w) s = .next (s.setWin w { r with
        H := r.H - 1
        coolT := if 1 < r.H then some ⟨s.now, 2000⟩ else none })) ∧
    (r.tallyT = some t → exec (.tallyTimerExpiry w) s = .next (s.setWin w { r with tally := 0, tallyT := none })) ∧
    (r.clearT = some t → exec (.overcurrentFaultClear w) s = .next (s.setWin w { r with
      clearT := none
      fault := if r.fault = .OVERCURRENT then .NONE else r.fault }))

/-- HEATING_TIMER_EXPIRY that reaches HEAT_LIMIT (R57): the thermal hold is set with fault THERMAL, a run stops, and a
reversal goes on. COOLING_TIMER_EXPIRY that reaches HEAT_LIMIT less 150 clears it and its fault. -/
def Obligations.ThermalHoldSetsAndClears : Prop :=
  ∀ (w : Win) (t : Timer) (s : State), operating s → calm s → timerDue s.now t = true → s.queue = [] →
    s.slot.isOpen = false →
    let r := s.win w
    (r.heatT = some t → r.held = false → s.params.heatLimit ≤ min 900 (r.H + 1) →
      (r.run = .RUNNING ∨ r.run = .REVERSING) →
      ∃ u, exec (.heatingTimerExpiry w) s = .next u ∧ (u.win w).held = true ∧ (u.win w).fault = .THERMAL ∧
        (u.win w).H = min 900 (r.H + 1) ∧
        (u.win w).run = (if r.run = .RUNNING then .BRAKING else .REVERSING) ∧ (u.win w).P = r.P ∧
        (∀ v, v ≠ w → u.win v = s.win v) ∧ u.units = s.units ∧ u.table = s.table ∧
        ∀ p, (u.port p).pending = (s.port p).pending ||| 0x0020#16) ∧
    (r.coolT = some t → r.held = true → (r.H - 1) + 150 ≤ s.params.heatLimit →
      exec (.coolingTimerExpiry w) s = .next (s.setWin w { r with
        H := r.H - 1
        coolT := if 1 < r.H then some ⟨s.now, 2000⟩ else none
        held := false
        fault := if r.fault = .THERMAL then .NONE else r.fault }))

/-- WINDOW_OVERCURRENT, SENSOR_SUPPLY_CHANGE and SUPPLY_SAMPLE (R54, R55, R58, R65): an overcurrent stops a driven
window with its fault; a lost sensor stops the window and it is no longer normalized, and its return clears the fault;
a sample below 9000 mV stops upward AUTO and COMFORT runs and nothing else. -/
def Obligations.WindowLinesStopTheirWindows : Prop :=
  ∀ (w : Win) (mv : Nat) (s : State), operating s → calm s →
    let r := s.win w
    (s.pins.ocWin.get w = false → driven r.run = true →
      ∃ u, exec (.windowOvercurrent w true) s = .next u ∧ (u.win w).run = .BRAKING ∧ (u.win w).cont = none ∧
        (u.win w).fault = .OVERCURRENT ∧ (u.win w).P = r.P ∧ (∀ v, v ≠ w → u.win v = s.win v) ∧
        u.units = s.units ∧ u.pins = { s.pins with ocWin := s.pins.ocWin.set w true } ∧
        ∀ p, (u.port p).pending = (s.port p).pending ||| 0x0020#16) ∧
    (s.pins.ocWin.get w = false → driven r.run = false →
      exec (.windowOvercurrent w true) s =
        .next { s with pins := { s.pins with ocWin := s.pins.ocWin.set w true } }) ∧
    (s.pins.sensorOk.get w = true → s.queuedWindow w = none →
      ∃ u, exec (.sensorSupplyChange w false) s = .next u ∧ (u.win w).normalized = false ∧
        (u.win w).fault = .SENSOR_LOST ∧ (u.win w).P = r.P ∧ (u.win w).profile = r.profile ∧
        (u.win w).run = (if driven r.run then .BRAKING else r.run) ∧ (u.win w).cont =
          (if driven r.run = true ∨ r.run = .BRAKING then none else r.cont) ∧
        (∀ v, v ≠ w → u.win v = s.win v) ∧ u.units = s.units ∧
        ∀ p, (u.port p).pending = (s.port p).pending ||| 0x0020#16) ∧
    (s.pins.sensorOk.get w = false →
      exec (.sensorSupplyChange w true) s = .next ({ s with
        pins := { s.pins with sensorOk := s.pins.sensorOk.set w true } }.setWin w { r with
          fault := if r.fault = WindowFault.SENSOR_LOST then WindowFault.NONE else r.fault
          lastHall := none })) ∧
    (mv < 9000 → ∃ u, exec (.supplySample mv) s = .next u ∧ u.pins = { s.pins with supply := mv } ∧
      ∀ v, u.win v = (if (s.win v).run = .RUNNING ∧ (s.win v).dir = .UP ∧
          ((s.win v).mode = .AUTO ∨ (s.win v).mode = .COMFORT) then stopRecord s.now none (s.win v)
        else s.win v)) ∧
    (9000 ≤ mv → mv ≤ 24000 → 9000 ≤ s.pins.supply →
      exec (.supplySample mv) s = .next { s with pins := { s.pins with supply := mv } })

/-- JOB_TURNS_BLOCKING, and what the blocking flag does (R101): a job that has waited 2000 ms is blocking from then on, and
an admission attempt follows; one that enters the queue with that age enters with the flag set, which is a trigger. A
window job replaced in place and a job that loses an actuator keep enqueue time and flag. The flag moves no job in scan
order; a blocking job that fails, for whatever reason, stops the scan and keeps its flag, and another does not stop it. -/
def Obligations.JobTurnsBlocking : Prop :=
  ∀ (j : Job) (t : WindowTask) (p : Priority) (a : Act) (ids : List Nat) (flag : Bool) (why : Option Nat) (s : State),
    let ages := fun (q : List Job) => q.map (fun x => (x.id, x.enqueued, x.blocking))
    let entered := enterQueue j s
    (operating s → s.queuedJob j.id = some j → j.blocking = false → timerDue s.now ⟨j.enqueued.time, 2000⟩ = true →
      exec (.jobTurnsBlocking j.id) s = .next (finish (trigger { s with
        queue := s.queue.map (fun x => if x.id = j.id then { x with blocking := true } else x) }))) ∧
    (2000 ≤ ageAt s.now j.enqueued → entered.attemptDue = true ∧
      ∃ older younger, s.queue = older ++ younger ∧ entered.queue = older ++ { j with blocking := true } :: younger) ∧
    ages (replaceJob j t p s).2.queue = ages s.queue ∧
    (∀ x ∈ ages (dropQueued a s).queue, x ∈ ages s.queue) ∧
    scanOrder (s.queue.map (fun x => { x with blocking := flag })) = scanOrder s.queue ∧
    (s.queuedJob j.id = some j → visit j s = .failed why →
      (j.blocking = true → scanJobs (j.id :: ids) flag s = scanJobs [j.id] flag s ∧
        ∃ x ∈ (scanJobs [j.id] flag s).queue, x.id = j.id ∧ x.blocking = true) ∧
      (j.blocking = false → scanJobs (j.id :: ids) flag s = scanJobs ids true (scanJobs [j.id] flag s)))

/-! ## Fobs, presentations and searches -/

/-- PRESENT that is not accepted (R113 to R115, R117, R119, R127, R139): the result by the counter, with what each
result changes in the slot: a reject more, a new candidate, a restarted gap timer, or nothing. An unknown button is
BAD_INDEX, PASSIVE on Port M NOT_PERMITTED; on Port E a PASSIVE answer with a tag that no open search has is LATE or
WRONG_TAG and is not verified, and one that is verified but not accepted closes its search as FOUND_REJECTED. -/
def Obligations.PresentRejectionsByCounter : Prop :=
  ∀ (p : Port) (identity : BitVec 32) (counter : BitVec 24) (button tag : Byte) (b : Button) (i : Fin 8)
    (x : OpenSearch) (s : State), listening p s → calm s →
    let c := counter.toNat
    let f := s.fob i
    let a := arrived p s
    let held := b = .LOCK_HELD ∧ s.hold.isOpen = true ∧ s.hold.slot = i
    let rejected := a.setFob i { f with rejects := min 255 (f.rejects + 1) }
    let answered := fun (r : PresentResult) (slot : Nat) (t : State) =>
      exec (.present p identity counter button tag) s = .next (respond p 0x30#8
        ⟨.DONE, packData [(4, presentCode r), (1, 0), (3, 7), (8, 0), (4, slot)]⟩ t)
    let closed := fun (r : PresentResult) (slot : Option (Fin 8)) (t : State) =>
      raise .SEARCH_ENDED { t with search := { s.search with
        current := none
        last := some ⟨x.tag, x.purpose, x.latches, x.opened, ⟨s.now, false⟩, .FOUND_REJECTED,
          some ⟨slot, r, none, none⟩⟩ } }
    (4 ≤ button.toNat → exec (.present p identity counter button tag) s =
      .next (respond p 0x30#8 (Answer.refused .BAD_INDEX) a)) ∧
    (buttonOf button = some b → b ≠ .PASSIVE → activeSlot identity s = none → answered .UNKNOWN_FOB 15 a) ∧
    (buttonOf button = some b → b ≠ .PASSIVE → activeSlot identity s = some i →
      (c = f.C → held → answered .HOLD_EXTENDED i.val { a with
        hold := { s.hold with lastFrame := s.reading, gapT := some ⟨s.now, 300⟩ } }) ∧
      (c = f.C → ¬ held → isDuplicate f b p s = true → answered .DUPLICATE i.val a) ∧
      (c = f.C → ¬ held → isDuplicate f b p s = false → answered .REPLAY i.val rejected) ∧
      (c < f.C → answered .REPLAY i.val rejected) ∧
      (f.C + 64 < c → c ≤ f.C + 32768 → confirms f c = false → answered .RESYNC_NEEDED i.val
        (a.setFob i { f with candidate := some ⟨c, s.reading⟩ })) ∧
      (f.C + 32768 < c → answered .OUT_OF_WINDOW i.val rejected)) ∧
    (button = 3#8 → p = .M →
      exec (.present p identity counter button tag) s = .next (respond p 0x30#8 ⟨.NOT_PERMITTED, 0#72⟩ a)) ∧
    (button = 3#8 → p = .E → s.search.current.any (fun y => y.tag = tag.toNat) = false →
      (s.search.last.any (fun y => y.tag = tag.toNat) = true → answered .LATE 15 a) ∧
      (s.search.last.any (fun y => y.tag = tag.toNat) = false → answered .WRONG_TAG 15 a)) ∧
    (button = 3#8 → p = .E → s.search.current = some x → x.tag = tag.toNat →
      (activeSlot identity s = none → answered .UNKNOWN_FOB 15 (closed .UNKNOWN_FOB none a)) ∧
      (activeSlot identity s = some i → c < f.C → answered .REPLAY i.val (closed .REPLAY (some i) rejected)) ∧
      (activeSlot identity s = some i → f.C + 64 < c → c ≤ f.C + 32768 → confirms f c = false →
        answered .RESYNC_NEEDED i.val (closed .RESYNC_NEEDED (some i)
          (a.setFob i { f with candidate := some ⟨c, s.reading⟩ }))))

/-- PRESENT that is accepted (R115, R116, R121), by a counter of the window or, with the resync indication, by one that
confirms the candidate: the counter is consumed whatever the action gives, the acceptance and the entry action record are
written, a commit is pending, ENTRY_ACCEPTED is raised, and no other slot changes. A PASSIVE answer closes its search as
FOUND_ACCEPTED (R138, R139). -/
def Obligations.PresentAcceptedConsumesCounter : Prop :=
  ∀ (p : Port) (identity : BitVec 32) (counter : BitVec 24) (button tag : Byte) (b : Button) (i : Fin 8)
    (resync : Bool) (k : Candidate) (x : OpenSearch) (s : State),
    let c := counter.toNat
    let C := (s.fob i).C
    listening p s → buttonOf button = some b → activeSlot identity s = some i →
    (resync = false → C < c ∧ c ≤ C + 64) →
    (resync = true → C + 64 < c ∧ c ≤ C + 32768 ∧ (s.fob i).candidate = some k ∧ k.counter < c ∧ c ≤ k.counter + 4) →
    (b = .PASSIVE → p = .E ∧ s.search.current = some x ∧ x.tag = tag.toNat) →
    ∃ u, exec (.present p identity counter button tag) s = .next u ∧
      u.fob i = { s.fob i with
        C := c
        candidate := none
        commitPending := true
        acceptance := some ⟨⟨s.now, false⟩, p, b⟩ } ∧
      (∀ k, k ≠ i → u.fob k = s.fob k) ∧
      u.entry = some ⟨match b with | .UNLOCK => .UNLOCK | .PASSIVE => .PASSIVE | _ => .LOCK, i, ⟨s.now, false⟩, p⟩ ∧
      (u.port p).slot.code = 0x30#8 ∧ (u.port p).slot.status = .DONE ∧
      (u.port p).slot.data.extractLsb' 0 5 = (if resync then 16#5 else 0#5) ∧
      (∀ q, (u.port q).pending &&& 0x0400#16 = 0x0400#16) ∧ u.writer.running.isSome = true ∧
      (b ≠ .PASSIVE → u.search = s.search) ∧
      (b = .PASSIVE → u.search.current = none ∧ (∀ q, (u.port q).pending &&& 0x0200#16 = 0x0200#16) ∧
        u.search.last.map (fun v => { v with answer := none }) =
          some ⟨x.tag, x.purpose, x.latches, x.opened, ⟨s.now, false⟩, .FOUND_ACCEPTED, none⟩ ∧
        (u.search.last.bind (·.answer)).any (fun v =>
          v.slot = some i && v.result = .ACCEPTED && v.action.isSome) = true) ∧
      u.store = s.store ∧ u.params = s.params ∧ u.crash = s.crash ∧ u.now = s.now ∧ u.pins = s.pins ∧
      u.keyLock = s.keyLock

/-- Presses and answers that are accepted from rest. The unlock action of a first press (R15, R17), with the car
ALL_LOCKED and SELECTIVE_UNLOCK ON: one MINUS stroke on the driver's latch alone, the relock timer of RELOCK_TIME, and
the answer ACCEPTED, DONE with the job; that of a PASSIVE answer to a search of one latch drives that latch (R140).
The lock action of a first press (R14) forms no job with a door OPEN and is answered DOOR_OPEN; with all CLOSED it
drives all five latches and opens the comfort hold of the press (R116, R126). The next job id is 1 to 255 where the
record of the search is to hold the job (R88; every step keeps it so: SmallLawsKeptByEveryStep). The new job's id is
State.newId: that a live id is skipped when an id is taken is the model's choice (log entry 46). -/
def Obligations.EntryPressFromRest : Prop :=
  ∀ (p : Port) (identity : BitVec 32) (counter : BitVec 24) (tag : Byte) (i : Fin 8) (l : Latch) (x : OpenSearch)
    (s : State),
    listening p s → calm s → restingLocks s → s.crash.latch = false → s.entry = none → s.hold.isOpen = false →
    activeSlot identity s = some i → (s.fob i).C < counter.toNat → counter.toNat ≤ (s.fob i).C + 64 →
    let driver : Latch := if s.params.driverSide = 0 then .FL else .FR
    let d := s.params.strokeTime
    let ready := s.units = 0 ∧ 10 ≤ s.params.driveBudget ∧ s.pins.ocDoor = false ∧ s.pins.ocTail = false
    let given := fun (u : State) (action job : Nat) =>
      (u.port p).slot = ⟨0x30#8, .DONE, packData [(4, 0), (1, 0), (3, action), (8, job), (4, i.val)]⟩
    let unlocks := fun (u : State) (a : Latch) =>
      u.strokes = [⟨some s.newId, groupOf (.latch a), .MINUS, [⟨.latch a, .UNLOCKED, d⟩], d, s.reading, 2, 2⟩] ∧
      u.units = 2 ∧ u.queue = [] ∧ u.relock = some ⟨s.now, s.params.relockTime * 1000⟩ ∧
      (u.act (.latch a)).activity = .STROKING ∧ (∀ b, b ≠ .latch a → u.act b = s.act b) ∧
      u.windows = s.windows ∧ u.hold = s.hold ∧ given u 0 s.newId
    (ready → (∀ l, (s.act (.latch l)).state = .LOCKED) → s.params.relockTime ≠ 0 →
      (s.params.selectiveUnlock = 1 →
        ∃ u, exec (.present p identity counter 1#8 tag) s = .next u ∧ unlocks u driver) ∧
      (p = .E → s.search.current = some x → x.tag = tag.toNat → x.purpose = .UNLOCK → x.latches = [l] →
        s.params.passiveUnlockAll = 0 → 1 ≤ s.nextId → s.nextId ≤ 255 →
        ∃ u, exec (.present p identity counter 3#8 tag) s = .next u ∧ unlocks u l ∧
          u.search.last = some ⟨x.tag, .UNLOCK, [l], x.opened, ⟨s.now, false⟩, .FOUND_ACCEPTED,
            some ⟨some i, .ACCEPTED, some .DONE, some s.newId⟩⟩)) ∧
    ((∃ l ∈ Latch.all, s.pins.ajarOpen.get l = true) →
      ∃ u, exec (.present p identity counter 0#8 tag) s = .next u ∧ u.table = s.table ∧ u.strokes = [] ∧
        u.queue = [] ∧ u.relock = s.relock ∧ u.hold = s.hold ∧ u.windows = s.windows ∧ given u 1 0) ∧
    (ready → (∀ l, s.pins.ajarOpen.get l = false) → (∀ l, (s.act (.latch l)).state = .UNLOCKED) →
      ∃ u, exec (.present p identity counter 0#8 tag) s = .next u ∧
        u.strokes =
          [⟨some s.newId, .DOOR, .PLUS, [.FL, .FR, .RL, .RR].map (fun l => ⟨.latch l, .LOCKED, d⟩), d, s.reading, 2, 8⟩,
            ⟨some s.newId, .TAIL, .PLUS, [⟨.latch .TG, .LOCKED, d⟩], d, s.reading, 2, 2⟩] ∧
        u.units = 10 ∧ u.queue = [] ∧ u.relock = none ∧ u.windows = s.windows ∧ given u 0 s.newId ∧
        u.hold = ⟨true, true, i, counter.toNat, p, s.reading, s.reading, false,
          some ⟨s.now, s.params.comfortHoldStart⟩, some ⟨s.now, 300⟩⟩)

/-- CANDIDATE_LIFETIME_EXPIRY, GAP_TIMER_EXPIRY and START_TIMER_EXPIRY (R117, R128, R129): the candidate goes; the hold
closes with both timers off, and where comfort has started, its runs brake, its continuations are dropped and its queued
job goes; comfort starts, and a window that meets its conditions from rest runs up in COMFORT. -/
def Obligations.CandidateAndHoldTimers : Prop :=
  ∀ (i : Fin 8) (x : Candidate) (t : Timer) (w : Win) (j : Job) (k : WindowTask) (s : State), operating s → calm s →
    timerDue s.now t = true →
    let lapsed := { s.hold with isOpen := false, startT := none, gapT := none }
    let ended := fun v => if (s.win v).run = .RUNNING ∧ (s.win v).mode = .COMFORT then stopRecord s.now none (s.win v)
      else if (s.win v).run = .BRAKING ∧ (∃ c, (s.win v).cont = some c ∧ c.reversal = false ∧ c.mode = .COMFORT) then
        { s.win v with cont := none }
      else s.win v
    ((s.fob i).candidate = some x → t = ⟨x.time.time, 10000⟩ →
      exec (.candidateLifetimeExpiry i) s = .next (s.setFob i { s.fob i with candidate := none })) ∧
    (s.hold.gapT = some t → s.hold.isOpen = true → s.hold.started = false →
      exec .gapTimerExpiry s = .next { s with hold := lapsed }) ∧
    (s.hold.gapT = some t → s.hold.isOpen = true → s.hold.started = true → s.queue = [] → s.slot.isOpen = false →
      ∃ u, exec .gapTimerExpiry s = .next u ∧ u.hold = lapsed ∧ (∀ v, u.win v = ended v) ∧ u.queue = [] ∧
        u.units = s.units ∧ u.admitted = s.admitted ∧ u.table = s.table ∧ u.fobs = s.fobs ∧ u.search = s.search ∧
        u.ports = s.ports) ∧
    (s.hold.gapT = some t → s.hold.isOpen = true → s.hold.started = true → s.queue = [j] →
      j.targets = .window k → k.mode = .COMFORT → (s.win k.win).run = .QUEUED → s.slot.isOpen = false →
      ∃ u, exec .gapTimerExpiry s = .next u ∧ u.hold = lapsed ∧ u.queue = [] ∧ (u.win k.win).run = .IDLE ∧
        (∀ v, v ≠ k.win → u.win v = ended v) ∧ u.units = s.units ∧
        ∀ p, (u.port p).pending = (s.port p).pending ||| 0x0008#16) ∧
    (s.hold.startT = some t → (∀ v, comfortFits v s = false) →
      exec .startTimerExpiry s = .next { s with hold := { s.hold with started := true, startT := none } }) ∧
    (s.hold.startT = some t → comfortFits w s = true → (∀ v, v ≠ w → comfortFits v s = false) →
      (s.win w).run = .IDLE → s.queue = [] → s.slot.isOpen = false → s.units + 4 ≤ s.params.driveBudget →
      s.pins.ocWin.get w = false →
      ∃ u, exec .startTimerExpiry s = .next u ∧ (u.win w).run = .RUNNING ∧ (u.win w).mode = .COMFORT ∧
        (u.win w).dir = .UP ∧ (u.win w).P = (s.win w).P ∧ (u.win w).commander = some ⟨portOrigin s.hold.port, 2⟩ ∧
        u.hold = { s.hold with started := true, startT := none } ∧ u.units = s.units + 4 ∧ u.queue = [] ∧
        (∀ v, v ≠ w → u.win v = s.win v) ∧ u.table = s.table ∧ u.fobs = s.fobs ∧ u.ports = s.ports)

/-- TOUCH (R131, R133 to R135): only the change from untouched to touched is a touch, so an input that is touched
already, also since power-on, makes none before its release; a release changes only the input. A LOCK touch is ignored
while the crash latch is set or a door is OPEN; a touch opens a search with the next tag, unless its latch is held off;
it joins an open search of its own purpose and leaves one of the other purpose as it is. -/
def Obligations.TouchOpensOrJoinsSearch : Prop :=
  ∀ (i : TouchInput) (x : OpenSearch) (s : State), operating s → calm s →
    let p := touchPurpose i
    let l := touchLatch i
    let level := touchLevel i s.pins.touch
    let woken : State := { s with pins := { s.pins with touch := setTouch i true s.pins.touch }, phase := .ACTIVE }
    let barred := p = .LOCK ∧ (s.crash.latch = true ∨ ∃ k ∈ Latch.all, s.pins.ajarOpen.get k = true)
    (level = true → exec (.touch i true) s = .next s) ∧
    (level = false → exec (.touch i false) s = .next s) ∧
    (level = true →
      exec (.touch i false) s = .next { s with pins := { s.pins with touch := setTouch i false s.pins.touch } }) ∧
    (level = false → barred → exec (.touch i true) s = .next woken) ∧
    (level = false → ¬ barred → s.search.current = none → s.search.holdOff l = none →
      exec (.touch i true) s = .next (raise .SEARCH_REQUEST { woken with search := { s.search with
        current := some ⟨s.search.nextTag, p, [l], ⟨s.now, false⟩⟩
        nextTag := if s.search.nextTag < 255 then s.search.nextTag + 1 else 1 } })) ∧
    (level = false → ¬ barred → s.search.current = none → (s.search.holdOff l).isSome = true →
      exec (.touch i true) s = .next woken) ∧
    (level = false → ¬ barred → s.search.current = some x → x.purpose = p →
      exec (.touch i true) s = .next { woken with search := { s.search with
        current := some { x with latches := Latch.all.filter (fun k => k = l ∨ k ∈ x.latches) } } }) ∧
    (level = false → ¬ barred → s.search.current = some x → x.purpose ≠ p →
      exec (.touch i true) s = .next woken)

/-- SEARCH_EXPIRY, SEARCH_NONE and HOLD_OFF_END (R136 to R138, R142): an open search closes as EXPIRED or NOT_FOUND with
SEARCH_ENDED, and each of its latches that has a touch input is held off for 1.5 s; a tag of the last closed search or of
none changes nothing, nor does SEARCH_NONE on Port M. -/
def Obligations.SearchesCloseAndHoldOff : Prop :=
  ∀ (x : OpenSearch) (tag : Byte) (l : Latch) (t : Timer) (s : State), operating s → calm s →
    let ends := fun (o : SearchOutcome) (u : State) => u.search.current = none ∧ u.search.nextTag = s.search.nextTag ∧
      u.search.last = some ⟨x.tag, x.purpose, x.latches, x.opened, ⟨s.now, false⟩, o, none⟩ ∧
      (∀ k, wfTouchLatch k = true → u.search.holdOff k =
        if k ∈ x.latches then some ⟨s.now, 1500⟩ else s.search.holdOff k) ∧
      (∀ p, (u.port p).pending = (s.port p).pending ||| 0x0200#16) ∧
      u.table = s.table ∧ u.windows = s.windows ∧ u.fobs = s.fobs ∧ u.queue = s.queue ∧ u.crash = s.crash
    let answered := fun (code : Nat) (u : State) =>
      (u.port .E).slot = ⟨0x31#8, .DONE, packData [(2, code)]⟩
    (s.search.current = some x → timerDue s.now ⟨x.opened.time, s.params.searchTimeout⟩ = true →
      ∃ u, exec .searchExpiry s = .next u ∧ ends .EXPIRED u) ∧
    (listening .E s → s.search.current = some x → x.tag = tag.toNat →
      ∃ u, exec (.searchNone .E tag) s = .next u ∧ ends .NOT_FOUND u ∧ answered 0 u) ∧
    (listening .E s → s.search.current.any (fun y => y.tag = tag.toNat) = false →
      s.search.last.any (fun y => y.tag = tag.toNat) = true →
      exec (.searchNone .E tag) s = .next (respond .E 0x31#8 ⟨.DONE, packData [(2, 1)]⟩ (arrived .E s))) ∧
    (listening .E s → s.search.current.any (fun y => y.tag = tag.toNat) = false →
      s.search.last.any (fun y => y.tag = tag.toNat) = false →
      exec (.searchNone .E tag) s = .next (respond .E 0x31#8 ⟨.DONE, packData [(2, 2)]⟩ (arrived .E s))) ∧
    (listening .M s → s.phase = .ACTIVE →
      exec (.searchNone .M tag) s = .next (respond .M 0x31#8 ⟨.NOT_PERMITTED, 0#72⟩ (arrived .M s))) ∧
    (s.search.holdOff l = some t → timerDue s.now t = true →
      exec (.holdOffEnd l) s = .next { s with search := s.search.setHoldOff l none })

/-! ## Crash response -/

/-- CRASH_IN_CHANGE, QUIET_TIMER_EXPIRY and CRASH_CLEAR (R149, R158), and a later indication with the slot open, by
CRASH_NOTIFY or by the expiry of the qualification (R149, R151, R157). -/
def Obligations.CrashLineAndClear : Prop :=
  ∀ (t : Timer) (s : State), operating s → calm s →
    let answered := fun (a : Answer) (u : State) =>
      exec (.crashClear .M) s = .next (respond .M 0x61#8 a u)
    (s.pins.crashIn = false → s.crash.line = .INACTIVE → exec (.crashInChange true) s = .next { s with
      pins := { s.pins with crashIn := true }
      phase := .ACTIVE
      crash := { s.crash with line := .QUALIFYING, qualT := some ⟨s.now, 4⟩, quiet := false, quietT := none } }) ∧
    (s.pins.crashIn = true → s.crash.line ≠ .INACTIVE → exec (.crashInChange false) s = .next { s with
      pins := { s.pins with crashIn := false }
      crash := { s.crash with line := .INACTIVE, qualT := none, quietT := some ⟨s.now, 10000⟩ } }) ∧
    (s.crash.quietT = some t → timerDue s.now t = true → exec .quietTimerExpiry s = .next { s with
      crash := { s.crash with quiet := true, quietT := none } }) ∧
    (listening .M s → s.crash.latch = false → answered Answer.done (arrived .M s)) ∧
    (listening .M s → s.crash.latch = true → s.crash.quiet = false →
      answered (Answer.refused .LINE_ACTIVE) (arrived .M s)) ∧
    (listening .M s → s.crash.latch = true → s.crash.quiet = true → s.slot.isOpen = true →
      answered (Answer.refused .BUSY_ACTIVITY) (arrived .M s)) ∧
    (listening .M s → s.crash.latch = true → s.crash.quiet = true → s.slot.isOpen = false →
      answered Answer.done { arrived .M s with crash := { s.crash with latch := false } }) ∧
    (listening .M s → s.crash.latch = true → s.slot.isOpen = true →
      exec (.crashNotify .M) s = .next (respond .M 0x60#8 Answer.done (raise .CRASH
        { arrived .M s with crash := { s.crash with lastSource := some .PORT_M } }))) ∧
    (s.crash.qualT = some t → timerDue s.now t = true → s.crash.latch = true → s.slot.isOpen = true →
      exec .qualificationTimerExpiry s = .next (raise .CRASH
        { s with crash := { s.crash with line := .ACTIVE, qualT := none, lastSource := some .LINE } }))

/-- A crash indication from rest with all five LOCKED (R108, R109, R149 to R153, R157): by CRASH_NOTIFY or by a
qualified line, two crash strokes of no job drive all five latches toward UNLOCKED beside the units that windows hold,
and every driven window brakes with its tally kept, but that of a FORCED run, which its stop clears (R61, R62, as log
entry 38 reads them beside R153). The first sets the latch with its source, stops the relock timer
and closes the hold and the search; a later one that finds the slot closed launches again and leaves those three. In
standby the expiry of the qualification does not end standby (R184), and no half-bridge is driven there: the five
latches are pending, and the next transfer wakes the part and starts the strokes (read from R184 and R109, log entry
13). A child engage stroke that the first indication finds running is cut, and its members return to the queue as one
fresh job of its age (R36, R37), where the strokes and activities agree (strokesLaw, a part of the law that every step
keeps: MatrixLawKeptByEveryStep). The fresh job's id is State.newId: that a live id is skipped when an id is taken,
and that the id of the job which loses the stroke is live until then, is the model's choice (log entry 46). -/
def Obligations.CrashFromRestUnlocksAllFive : Prop :=
  ∀ (t : Timer) (p : Port) (st : Stroke) (j : Job) (kids : List Child) (s : State), calm s → listening .M s →
    (∀ l, (s.act (.latch l)).state = .LOCKED) → s.pins.ocDoor = false → s.pins.ocTail = false →
    let d := s.params.strokeTime
    let free := s.units + 10 ≤ s.params.driveBudget
    let due := s.crash.qualT = some t ∧ timerDue s.now t = true
    let strokes : List Stroke :=
      [⟨none, .DOOR, .MINUS, [.FL, .FR, .RL, .RR].map (fun l => ⟨.latch l, .UNLOCKED, d⟩), d, s.reading, 3, 8⟩,
        ⟨none, .TAIL, .MINUS, [⟨.latch .TG, .UNLOCKED, d⟩], d, s.reading, 3, 2⟩]
    let launched := fun (u : State) (src : CrashSource) =>
      u.crash.latch = true ∧ u.crash.lastSource = some src ∧
        (∀ w, driven (s.win w).run = true → (u.win w).run = .BRAKING ∧ (u.win w).cont = none) ∧
        (∀ w, let ends := driven (s.win w).run = true ∧ (s.win w).mode = .FORCED
          (u.win w).tally = (if ends then 0 else (s.win w).tally) ∧
            (u.win w).tallyT = (if ends then none else (s.win w).tallyT)) ∧
        (∀ w, (s.win w).run = .IDLE → u.win w = s.win w) ∧
        (∀ q, (u.port q).pending &&& 0x0080#16 = 0x0080#16) ∧ u.fobs = s.fobs ∧ u.params = s.params ∧
        u.store = s.store ∧ u.entry = s.entry
    let first := fun (u : State) => u.relock = none ∧ u.hold.isOpen = false ∧ u.search.current = none
    let alone := fun (u : State) => u.queue = [] ∧ ∀ c, u.act (.child c) = s.act (.child c)
    let runs := fun (u : State) => u.phase = .ACTIVE ∧ u.strokes = strokes ∧ u.slot = ⟨true, [], Latch.all, []⟩ ∧
      ∀ l, (u.act (.latch l)).activity = .STROKING ∧ (u.act (.latch l)).attempts = 1
    (restingLocks s → free → ∀ x ∈ [(Instr.crashNotify .M, CrashSource.PORT_M), (.qualificationTimerExpiry, .LINE)],
      (x.2 = .LINE → s.phase = .ACTIVE ∧ due) →
      ∃ u, exec x.1 s = .next u ∧ launched u x.2 ∧ alone u ∧ runs u ∧ u.units = s.units + 10 ∧
        (s.crash.latch = false → first u) ∧
        (s.crash.latch = true → u.relock = s.relock ∧ u.hold = s.hold ∧ u.search = s.search)) ∧
    (restingLocks s → free → s.crash.latch = false → due → s.phase = .STANDBY →
      ∃ u, exec .qualificationTimerExpiry s = .next u ∧ launched u .LINE ∧ alone u ∧ first u ∧ u.phase = .STANDBY ∧
        u.strokes = [] ∧ u.slot = ⟨true, Latch.all, [], []⟩ ∧ u.units = s.units ∧
        (∀ l, (u.act (.latch l)).activity = .QUEUED ∧ (u.act (.latch l)).state = .LOCKED) ∧
        ∃ v, exec (.transferBegin p) u = .next v ∧ runs v ∧ v.units = s.units + 10) ∧
    (s.crash.latch = false → s.queue = [] → s.slot = CrashSlot.closed → s.admitted = [j] → j.goal? = some .ENGAGE →
      s.strokes = [st] → st.group = .TAIL → st.polarity = .PLUS → st.job = some j.id →
      st.members.map (·.act) = kids.map Act.child → kids ≠ [] → kids.Nodup →
      (∀ l, (s.act (.latch l)).activity = .IDLE ∧ (s.act (.latch l)).wait = none) →
      s.units - st.units + 10 ≤ s.params.driveBudget → strokesLaw s →
      ∃ u, exec (.crashNotify .M) s = .next u ∧ launched u .PORT_M ∧ first u ∧ runs u ∧
        u.units = s.units - st.units + 10 ∧ u.admitted = [] ∧
        u.queue = [⟨s.newId, j.origin, .lock .ENGAGE (kids.map Act.child), .USER, j.enqueued,
          decide (2000 ≤ ageAt s.now j.enqueued), false, 0⟩] ∧
        (∀ c ∈ kids, (u.act (.child c)).state = (s.sensed (.child c)).getD (s.act (.child c)).state ∧
          (u.act (.child c)).activity = .QUEUED ∧ (u.act (.child c)).attempts = 0 ∧
          (u.act (.child c)).fault = (s.act (.child c)).fault ∧
          (u.act (.child c)).strokes = (s.act (.child c)).strokes) ∧
        ∀ c, c ∉ kids → u.act (.child c) = s.act (.child c))

/-! ## The ports -/

/-- TRANSFER_BEGIN and TRANSFER_END (R159, R161 to R163, R184): a transfer carries the slot as it stands, its frame most
significant bit first and ones beyond it, and ends standby; a transfer that began with a command in flight or with the
line undriven changes nothing but itself; the wrong length, a failed check, an unknown code and a command of the other
port give their status and nothing else. That a TRANSFER_BEGIN within a transfer ends standby alone, and that a
TRANSFER_END without one stands for a whole transfer, is the model's choice (log entry 14). -/
def Obligations.TransfersAndTheirTests : Prop :=
  ∀ (p : Port) (bytes : List Byte) (trailing : Bool) (x : Transfer) (n : Nat) (s : State), operating s → calm s →
    let code := bytes.headD 0#8
    let r := s.port p
    let begun : State := { s.setPort p { r with transfer := some ⟨true, r.inFlight.isSome, r.slot⟩ } with
      phase := .ACTIVE }
    let ended := s.setPort p { r with transfer := none }
    let answered := fun (st : Status) => s.phase = .ACTIVE → listening p s →
      exec (.transferEnd p bytes trailing) s = .next (respond p code ⟨st, 0#72⟩ (arrived p s))
    (r.transfer = none → exec (.transferBegin p) s = .next begun ∧ s.bitOut p n = none ∧
      begun.bitOut p n = some (if n < 96 then (r.slot.frame.getD (n / 8) 0#8).getMsbD (n % 8) else true)) ∧
    (r.transfer = some x → exec (.transferBegin p) s = .next { s with phase := .ACTIVE }) ∧
    (r.transfer = some x → x.driven = false → s.bitOut p n = none) ∧
    (r.transfer = some x → (x.inFlight = true ∨ x.driven = false) →
      exec (.transferEnd p bytes trailing) s = .next ended) ∧
    (bytes.length ≠ 12 ∨ trailing = true → answered .FRAME_ERROR) ∧
    (bytes.length = 12 → trailing = false → goodCheck bytes = false → answered .CHECK_FAILED) ∧
    (bytes.length = 12 → trailing = false → goodCheck bytes = true → decodeFrame p bytes = none →
      answered .UNKNOWN_COMMAND) ∧
    (trailing = false → (decodeFrame p bytes).isSome = true → permittedOn p code = false →
      answered .NOT_PERMITTED)

/-- A frame that carries a command is that command's own row: in every state, the end of a transfer of the frame's
bytes is the command (R160, R161, R165). That a command's row is the end of the whole transfer that carries it is the
model's choice (log entry 14). -/
def Obligations.TransferEndRunsItsCommand : Prop :=
  ∀ (p : Port) (bytes : List Byte) (i : Instr) (s : State), decodeFrame p bytes = some i →
    exec (.transferEnd p bytes false) s = exec i s

/-- The request frame of every command of the two ports, with every operand, is 12 bytes with a good check, and reading
it gives the command back (R160, R165). The frame of a response carries its code, its status as R164 numbers it and its
nine data bytes, the low bits first, and its twelve bytes sum to 255 modulo 256 (R160). -/
def Obligations.FramesCarryTheirCommands : Prop :=
  ∀ (i : Instr) (p : Port) (bytes : List Byte) (r : Response),
    (encodeFrame i = some (p, bytes) →
      bytes.length = 12 ∧ goodCheck bytes = true ∧ decodeFrame p bytes = some i) ∧
    r.frame.length = 12 ∧ (r.frame.map BitVec.toNat).sum % 256 = 255 ∧ goodCheck r.frame = true ∧
    r.frame[0]? = some r.code ∧
    (∀ x ∈ [(Status.NONE, 0#8), (.DONE, 1#8), (.ACCEPTED, 2#8), (.IN_PROGRESS, 3#8), (.REFUSED, 4#8),
      (.UNKNOWN_COMMAND, 5#8), (.NOT_PERMITTED, 6#8), (.CHECK_FAILED, 7#8), (.FRAME_ERROR, 8#8)],
      r.status = x.1 → r.frame[1]? = some x.2) ∧
    ∀ k, k < 9 → r.frame[k + 2]? = some (r.data.extractLsb' (8 * k) 8)

/-- NOP, READ_NOTICES, READ_LATCHES, READ_WINDOW, READ_SEARCH, READ_LAST_ENTRY and READ_PARAM answer and change nothing
but the response slot of their port (what they answer, bit by bit: ReadLayouts); CLEAR_NOTICES and SET_MASK change the pending set and the mask of their port alone
(R162, R166 to R169, R174, R175, R180). The attention line is the common kinds of the two (R176). -/
def Obligations.ReadsChangeOnlyTheSlot : Prop :=
  ∀ (p : Port) (x y : Byte) (kinds : BitVec 16) (s : State), listening p s →
    let a := arrived p s
    let r := s.port p
    (∀ ic ∈ [(Instr.nop p, 0x00#8), (.readNotices p, 0x01#8), (.readLatches p, 0x10#8), (.readWindow p x y, 0x20#8),
        (.readSearch p x, 0x32#8), (.readLastEntry p x, 0x33#8), (.readParam p x, 0x51#8)],
      exec ic.1 s = .next (respond p ic.2 (effectOf ic.1 a).1 a)) ∧
    (effectOf (.nop p) a).1 = Answer.done ∧
    (effectOf (.readNotices p) a).1 = Answer.doneWith [(16, r.pending.toNat), (16, r.mask.toNat),
      (1, if r.pending &&& r.mask = 0#16 then 0 else 1)] ∧
    (4 ≤ x.toNat → (effectOf (.readWindow p x y) a).1 = Answer.refused .BAD_INDEX) ∧
    (2 ≤ x.toNat → (effectOf (.readSearch p x) a).1 = Answer.refused .BAD_INDEX ∧
      (effectOf (.readLastEntry p x) a).1 = Answer.refused .BAD_INDEX) ∧
    (14 ≤ x.toNat → (effectOf (.readParam p x) a).1 = Answer.refused .BAD_INDEX) ∧
    exec (.clearNotices p kinds) s = .next (respond p 0x02#8 Answer.done
      (a.setPort p { r with transfer := none, pending := r.pending &&& ~~~kinds })) ∧
    exec (.setMask p kinds) s = .next (respond p 0x03#8 Answer.done
      (a.setPort p { r with transfer := none, mask := kinds &&& 0x0FFF#16 })) ∧
    (s.attention p = true ↔ r.pending &&& r.mask ≠ 0#16)

/-- The bit places of every read (R145, R160, R167 to R169, R172), each as its first bit, its width and its value: the
answer of a read on either port holds at each place the low bits of the value. The commander that page 0 of READ_WINDOW
gives is that of log entry 22, and the codes are those of log entry 19 (the model's readings). -/
def Obligations.ReadLayouts : Prop :=
  ∀ (p : Port) (w : Win) (window : Byte) (x : OpenSearch) (y : ClosedSearch) (i : Fin 8) (z : Fin 32) (k : Nat)
    (j : Job) (s : State), listening p s → winOf window = some w →
    let reads := fun (c : Instr) (places : List (Nat × Nat × Nat)) =>
      ∃ u, exec c s = .next u ∧ (u.port p).slot.status = .DONE ∧ holdsAt (u.port p).slot.data places
    let r := s.win w
    let age := fun (t : Reading) => min (ageAt s.now t) 65535
    let pinched := fun (v : LastPinch → Nat) (absent : Nat) => (r.mon.lastPinch.map v).getD absent
    let answer := if s.search.current.isSome then none else s.search.last.bind (fun c =>
      if c.outcome = .FOUND_ACCEPTED ∨ c.outcome = .FOUND_REJECTED then c.answer else none)
    let left := fun (l : Latch) => ((s.search.holdOff l).map (timerLeft s.now)).getD 0
    let entered := fun (v : EntryRecord → Nat) => (s.entry.map v).getD 0
    let hold := fun (v : Nat) => if s.hold.present then v else 0
    let c := (s.port p).cursor
    let summary := [(54, 5, s.queue.length), (59, 1, bit s.nearFull), (60, 5, s.units),
      (65, 5, s.params.driveBudget), (70, 1, bit s.slot.isOpen), (71, 1, 0)]
    reads (.readLatches p)
      ([(Latch.FL, 0), (.FR, 9), (.RL, 18), (.RR, 27), (.TG, 36)].flatMap (fun lb =>
        let a := s.act (.latch lb.1)
        [(lb.2, 2, positionCode a.state), (lb.2 + 2, 2, sensedCode (s.sensed (.latch lb.1))),
          (lb.2 + 4, 2, activityCode a.activity), (lb.2 + 6, 2, lockFaultCode a.fault),
          (lb.2 + 8, 1, if s.pins.ajarOpen.get lb.1 then 0 else 1)]) ++
      [(Child.CRL, 45), (.CRR, 51)].flatMap (fun cb =>
        let a := s.act (.child cb.1)
        [(cb.2, 1, positionCode a.state), (cb.2 + 1, 1, sensedCode (s.sensed (.child cb.1))),
          (cb.2 + 2, 2, activityCode a.activity), (cb.2 + 4, 2, lockFaultCode a.fault)]) ++
      [(57, 2, polarityCode (s.polarity .DOOR)), (59, 2, polarityCode (s.polarity .TAIL)),
        (61, 2, vehicleCode s.vehicle), (63, 1, bit s.crash.latch), (64, 2, crashSourceCode s.crash.lastSource),
        (66, 1, bit s.crash.quiet), (67, 1, bit s.slot.isOpen), (68, 4, 0)]) ∧
    reads (.readWindow p window 0#8)
      [(0, 3, runStateCode r.run), (3, 2, runModeCode r.mode), (5, 1, dirCode r.dir), (6, 8, r.job.getD 0),
        (14, 1, bit r.cont.isSome), (15, 2, (r.cont.map (fun c => runModeCode c.mode)).getD 3),
        (17, 1, (r.cont.map (fun c => dirCode c.dir)).getD 1), (18, 1, bit r.normalized), (19, 16, r.P),
        (35, 16, r.target.getD 65535), (51, 4, ((s.owner w).map (fun c => originCode c.origin)).getD 15),
        (55, 2, ((s.owner w).map (·.rank)).getD 0), (57, 3, windowFaultCode r.fault), (60, 1, bit r.held),
        (61, 2, r.tally), (63, 2, monitorPhaseCode r.mon.phase), (65, 7, 0)] ∧
    reads (.readWindow p window 1#8)
      [(0, 16, r.profile.L.getD 0), (16, 1, bit (s.learned w)), (17, 1, bit r.mon.marked), (18, 10, r.H),
        (28, 15, s.pins.supply), (43, 29, 0)] ∧
    reads (.readWindow p window 2#8)
      [(0, 2, pinched (fun c => pinchCauseCode c.cause) 3), (2, 16, pinched (·.position) 65535),
        (18, 6, pinched (fun c => c.zone.getD 63) 63), (24, 2, pinched (fun c => pinchTestCode c.test) 3),
        (26, 16, pinched (·.F) 65535), (42, 30, 0)] ∧
    reads (.readWindow p window 3#8)
      [(0, 2, pinched (fun c => pinchCauseCode c.cause) 3), (2, 16, pinched (·.reference) 65535),
        (18, 16, pinched (·.Fmin) 65535), (34, 38, 0)] ∧
    (s.search.current = some x → reads (.readSearch p 0#8)
      [(0, 2, 0), (2, 8, x.tag), (10, 1, purposeCode x.purpose), (11, 3, searchSet x.latches), (14, 16, age x.opened),
        (30, 16, 0), (46, 3, 7), (49, 8, s.search.nextTag)]) ∧
    (s.search.current = none → s.search.last = some y → reads (.readSearch p 0#8)
      [(0, 2, 1), (2, 8, y.tag), (10, 1, purposeCode y.purpose), (11, 3, searchSet y.latches),
        (14, 16, min (y.closed.time - y.opened.time).toNat 65535), (30, 16, age y.closed),
        (46, 3, outcomeCode y.outcome), (49, 8, s.search.nextTag)]) ∧
    (s.search.current = none → s.search.last = none → reads (.readSearch p 0#8)
      [(0, 2, 2), (2, 8, 0), (10, 1, 1), (11, 3, 7), (14, 16, 65535), (30, 16, 65535), (46, 3, 7),
        (49, 8, s.search.nextTag)]) ∧
    reads (.readSearch p 1#8)
      [(0, 2, if s.search.current.isSome then 0 else if s.search.last.isSome then 1 else 2),
        (2, 4, ((answer.bind (·.slot)).map (·.val)).getD 15), (6, 4, (answer.map (fun c => presentCode c.result)).getD 15),
        (10, 3, ((answer.bind (·.action)).map actionCode).getD 7), (13, 8, (answer.bind (·.job)).getD 0),
        (21, 11, left .FL), (32, 11, left .FR), (43, 11, left .TG)] ∧
    reads (.readLastEntry p 0#8)
      [(0, 1, bit s.entry.isSome), (1, 2, entered (fun e => entryButtonCode e.button)), (3, 3, entered (·.slot.val)),
        (6, 1, entered (fun e => portCode e.port)), (7, 16, entered (fun e => age e.time)),
        (23, 1, bit s.hold.present), (24, 1, hold (bit s.hold.isOpen)), (25, 3, hold s.hold.slot.val),
        (28, 1, hold (portCode s.hold.port)), (29, 1, hold (bit s.hold.started)), (30, 16, hold (age s.hold.start)),
        (46, 16, hold (age s.hold.lastFrame))] ∧
    reads (.readLastEntry p 1#8) [(0, 1, bit s.hold.present), (1, 24, hold s.hold.counter)] ∧
    (c.table = .FOB → c.index = i.val → reads (.readNext p)
      [(0, 3, i.val), (3, 2, slotStatusCode (s.fob i).status), (5, 1, bit (s.fob i).candidate.isSome),
        (6, 32, if (s.fob i).status = .ACTIVE then (s.fob i).identity.toNat else 0),
        (38, 24, if (s.fob i).status = .ACTIVE then (s.fob i).C else 0), (62, 8, (s.fob i).rejects)]) ∧
    (c.table = .PROFILE → c.index = z.val → c.window = w → reads (.readNext p)
      [(0, 2, winCode w), (2, 5, z.val), (7, 16, r.profile.R[z]), (23, 16, r.profile.L.getD 0),
        (39, 1, bit (s.learned w)), (40, 1, bit r.mon.marked)]) ∧
    (c.table = .QUEUE → c.index = k → s.queue[k]? = none → reads (.readNext p) ((0, 54, 0) :: summary)) ∧
    (c.table = .QUEUE → c.index = k → s.queue[k]? = some j → reads (.readNext p)
      ([(0, 8, j.id), (8, 4, originCode j.origin), (14, 1, priorityCode j.priority), (15, 1, bit j.blocking),
          (16, 1, bit j.shed), (38, 16, age j.enqueued)] ++ summary ++
        match j.targets with
        | .lock g as =>
          if g = .ENGAGE ∨ g = .RELEASE then
            [(12, 2, 1), (17, 2, childBits as), (19, 1, if g = .ENGAGE then 0 else 1), (20, 18, 0)]
          else [(12, 2, 0), (17, 5, latchBits as), (22, 2, goalCode g), (24, 14, 0)]
        | .window t => [(12, 2, 2), (17, 2, winCode t.win), (19, 2, runModeCode t.mode), (21, 1, dirCode t.dir),
          (22, 16, t.target.getD 65535)]))

/-- SELECT and READ_NEXT (R171, R172): a selection in range sets the cursor, one out of range is refused and leaves it;
READ_NEXT answers the entry at the index and moves the index by its step around the table. -/
def Obligations.CursorSelectsAndMoves : Prop :=
  ∀ (p : Port) (table window index stepByte : Byte) (s : State), listening p s →
    let a := arrived p s
    let r := { s.port p with transfer := none }
    let c := r.cursor
    let size := fun t : CursorTable => match t with | .FOB => 8 | .PROFILE => 32 | .QUEUE => 16
    (∀ t st w, tableOf table = some t → stepOf stepByte = some st → t = .PROFILE → winOf window = some w →
      index.toNat < 32 → exec (.select p table window index stepByte) s =
        .next (respond p 0x40#8 Answer.done (a.setPort p { r with cursor := ⟨t, w, index.toNat, st⟩ }))) ∧
    (∀ t st, tableOf table = some t → stepOf stepByte = some st → t ≠ .PROFILE → index.toNat < size t →
      exec (.select p table window index stepByte) s =
        .next (respond p 0x40#8 Answer.done (a.setPort p { r with cursor := ⟨t, c.window, index.toNat, st⟩ }))) ∧
    ((tableOf table = none ∨ stepOf stepByte = none ∨ (∃ t, tableOf table = some t ∧ size t ≤ index.toNat) ∨
        (tableOf table = some .PROFILE ∧ winOf window = none)) →
      exec (.select p table window index stepByte) s =
        .next (respond p 0x40#8 (Answer.refused .BAD_INDEX) a)) ∧
    exec (.readNext p) s = .next (respond p 0x41#8 (Answer.doneWith (cursorEntry s c)) (a.setPort p { r with
      cursor := { c with index := match c.step with
        | .FORWARD => (c.index + 1) % size c.table
        | .BACKWARD => (c.index + size c.table - 1) % size c.table
        | .STAY => c.index } }))

/-! ## The store, parameters, RESTART and standby -/

/-- SET_PARAM (R179): a code above 13 is refused; the value is clamped into the parameter's range, the clamped value is in force and answered, and
no other parameter changes; where the parameter's change acts on nothing at once, nothing else does. READ_PARAM (R180)
answers the value in force, the stored one and the default. -/
def Obligations.SetParamClampsIntoRange : Prop :=
  ∀ (param : Byte) (value : BitVec 16) (q : Param) (s : State), listening .M s → calm s →
    let v := value.toNat
    (14 ≤ param.toNat → exec (.setParam .M param value) s =
      .next (respond .M 0x50#8 (Answer.refused .BAD_INDEX) (arrived .M s))) ∧
    (paramOfCode param.toNat = some q →
    let x := match q with
      | .DRIVE_BUDGET => max 10 (min v 16)
      | .STROKE_TIME => max 50 (min v 400) / 10 * 10
      | .DEADLOCK_STROKE_TIME => max 100 (min v 600) / 10 * 10
      | .SELECTIVE_UNLOCK | .PASSIVE_UNLOCK_ALL | .DRIVER_SIDE => min v 1
      | .RELOCK_TIME => if v = 0 then 0 else max 10 (min v 120)
      | .PINCH_THRESHOLD => max 4 (min v 32)
      | .REVERSE_DISTANCE => max 100 (min v 600)
      | .SEAL_ZONE => max 4 (min v 40)
      | .BLANKING => max 8 (min v 48)
      | .HEAT_LIMIT => max 300 (min v 900)
      | .COMFORT_HOLD_START => max 500 (min v 3000)
      | .SEARCH_TIMEOUT => max 200 (min v 1000)
    x = paramClamp q v ∧
    let given : Response := ⟨0x50#8, .DONE,
      packData [(4, param.toNat), (16, x), (1, if x = v then 0 else 1)]⟩
    (∃ u, exec (.setParam .M param value) s = .next u ∧ u.params = paramSet s.params q x ∧
      (u.port .M).slot = given ∧ (u.port .E).slot = (s.port .E).slot ∧ u.store = s.store ∧ u.fobs = s.fobs ∧
      u.hold = s.hold ∧ u.crash = s.crash ∧ u.pins = s.pins ∧ u.now = s.now) ∧
    (q ≠ .DRIVE_BUDGET → q ≠ .HEAT_LIMIT → q ≠ .SEARCH_TIMEOUT →
      exec (.setParam .M param value) s = .next (respond .M 0x50#8 ⟨given.status, given.data⟩
        { arrived .M s with params := paramSet s.params q x })) ∧
    paramClamp q x = x ∧ paramGet (paramSet s.params q x) q = x ∧
    (∀ k, k ≠ q → paramGet (paramSet s.params q x) k = paramGet s.params k) ∧
    (s.writer.paramsFailed = false → exec (.readParam .M param) s = .next (respond .M 0x51#8
      ⟨.DONE, packData [(4, param.toNat), (16, paramGet s.params q), (16, paramGet s.store.params.values q),
        (16, paramGet Params.defaults q)]⟩ (arrived .M s))))

/-- ENROLL, REVOKE, CLEAR_PROFILE, SAVE_PROFILES and COMMIT_PARAMS (R84, R85, R123, R124, R163, R178, R180) on an idle
store: IN_PROGRESS, Port M in flight with the command's code, and the write running with its time, the other marked
profiles behind it in window order. Their refusals. That CLEAR_PROFILE sets clean NO and empties the scratch outside a
monitored run as well is the model's choice (log entry 40). -/
def Obligations.StoreCommandsTakePortMInFlight : Prop :=
  ∀ (slot window : Byte) (identity : BitVec 32) (counter : BitVec 24) (i : Fin 8) (w : Win) (ws : List Win) (s : State),
    listening .M s → calm s → s.writer.running = none →
    let a := arrived .M s
    let begins := fun (code : Byte) (x : Payload) (span : Nat) (more : List PortWrite) (t : State) =>
      respond .M code ⟨.IN_PROGRESS, 0#72⟩ ({ t with writer := { t.writer with
        running := some ⟨x, true, false, ⟨s.now, span⟩⟩, portQueue := more } }.setPort .M
          { s.port .M with transfer := none, inFlight := some code })
    (slotOf slot = some i → identity ≠ 0#32 →
      (∀ k, k ≠ i → ¬((s.fob k).status = .ACTIVE ∧ (s.fob k).identity = identity)) →
      exec (.enroll .M slot identity counter) s =
        .next (begins 0x34#8 (.enroll i ⟨true, identity, counter.toNat⟩) 6 [] a)) ∧
    (slotOf slot = some i → identity ≠ 0#32 →
      (∃ k ∈ List.finRange 8, k ≠ i ∧ (s.fob k).status = .ACTIVE ∧ (s.fob k).identity = identity) →
      exec (.enroll .M slot identity counter) s =
        .next (respond .M 0x34#8 (Answer.refused .DUPLICATE_IDENTITY) a)) ∧
    (slotOf slot = some i → identity = 0#32 →
      exec (.enroll .M slot identity counter) s = .next (respond .M 0x34#8 (Answer.refused .BAD_INDEX) a)) ∧
    (slotOf slot = none → exec (.enroll .M slot identity counter) s =
        .next (respond .M 0x34#8 (Answer.refused .BAD_INDEX) a) ∧
      exec (.revoke .M slot) s = .next (respond .M 0x35#8 (Answer.refused .BAD_INDEX) a)) ∧
    (slotOf slot = some i → exec (.revoke .M slot) s = .next (begins 0x35#8 (.revoke i) 6 [] a)) ∧
    (winOf window = some w → exec (.clearProfile .M window) s =
      .next (begins 0x22#8 (.profile w ⟨none, Vector.replicate 32 0⟩) 10 [] (a.setWin w { s.win w with
        profile := ⟨none, Vector.replicate 32 0⟩
        mon := { (s.win w).mon with
          marked := true
          clean := false
          scratch := Vector.replicate 32 ⟨0, 0⟩ } }))) ∧
    (4 ≤ window.toNat → exec (.clearProfile .M window) s =
      .next (respond .M 0x22#8 (Answer.refused .BAD_INDEX) a)) ∧
    ((∀ v, (s.win v).mon.marked = false) → exec (.saveProfiles .M) s =
      .next (respond .M 0x23#8 Answer.done a)) ∧
    ((∀ v, (s.win v).mon.marked = decide (v = w)) → exec (.saveProfiles .M) s =
      .next (begins 0x23#8 (.profile w (s.win w).profile) 10 [] a)) ∧
    ([Win.WFL, .WFR, .WRL, .WRR].filter (fun v => (s.win v).mon.marked) = w :: ws → exec (.saveProfiles .M) s =
      .next (begins 0x23#8 (.profile w (s.win w).profile) 10 (ws.map PortWrite.profile) a)) ∧
    exec (.commitParams .M) s = .next (begins 0x52#8 (.params s.params) 10 [] a)

/-- COMMIT_WRITE_COMPLETE, PROFILE_WRITE_COMPLETE, ENROLL_WRITE_COMPLETE, REVOKE_WRITE_COMPLETE and
PARAM_WRITE_COMPLETE (R83 to R85, R121, R123, R124, R163, R178, R180): what was written reaches the store and its
record; a command in flight whose last write it was gets its final status, and one with a profile left to write goes on
with it. A written item carries a fresh check byte, which makes its bytes sum to 255 modulo 256, so it passes its check
(R177; which bytes a value has is the model's choice, log entry 29). That an EMPTY slot holds identity 0 is the model's
choice (log entry 25). -/
def Obligations.CompletedWritesReachTheStore : Prop :=
  ∀ (i : Fin 8) (w v : Win) (r : SlotRecord) (q : Profile) (values : Params) (byPort changed : Bool)
    (more : List PortWrite) (t : Timer) (code : Byte) (s : State), operating s → timerDue s.now t = true →
    let final := fun u : State => s.writer.portQueue = [] → (s.port .M).inFlight = some code → code ≠ 0x71#8 →
      (u.port .M).slot = ⟨code, .DONE, 0#72⟩ ∧ (u.port .M).inFlight = none
    let checked := fun (item : List Byte) (check : Byte) => ((item ++ [check]).map BitVec.toNat).sum % 256 = 255
    (checked (slotBytes r) (storedSlot r).check ∧ (storedSlot r).ok = true ∧
      checked (profileBytes q) (storedProfile q).check ∧ (storedProfile q).ok = true ∧
      checked (paramBytes values) (storedParams values).check ∧ (storedParams values).ok = true) ∧
    (s.writer.running = some ⟨.commit i r, false, changed, t⟩ → ∃ u, exec .commitWriteComplete s = .next u ∧
      u.store = { s.store with slots := s.store.slots.set i (storedSlot r) } ∧ (u.fob i).storedC = r.counter ∧
      (u.fob i).C = (s.fob i).C ∧ (u.fob i).commitPending = decide ((s.fob i).C ≠ r.counter) ∧
      (∀ k, k ≠ i → u.fob k = s.fob k)) ∧
    (s.writer.running = some ⟨.profile w q, byPort, changed, t⟩ → ∃ u, exec .profileWriteComplete s = .next u ∧
      u.store = { s.store with profiles := s.store.profiles.set w (storedProfile q) } ∧
      (s.attemptDue = false → slotSteady s →
        u.win w = { s.win w with mon := { (s.win w).mon with marked := changed } } ∧
          ∀ v, v ≠ w → u.win v = s.win v) ∧
      (byPort = false → (u.port .M).slot = (s.port .M).slot ∧ (u.port .M).inFlight = (s.port .M).inFlight) ∧
      (byPort = true → final u) ∧
      (byPort = true → s.writer.portQueue = .profile v :: more →
        (u.port .M).slot = (s.port .M).slot ∧ (u.port .M).inFlight = (s.port .M).inFlight ∧
        u.writer.portQueue = more ∧
        u.writer.running = some ⟨.profile v (s.win v).profile, true, false, ⟨s.now, 10⟩⟩)) ∧
    (s.writer.running = some ⟨.enroll i r, true, changed, t⟩ → ∃ u, exec .enrollWriteComplete s = .next u ∧
      u.store = { s.store with slots := s.store.slots.set i (storedSlot r) } ∧
      u.fob i = ⟨.ACTIVE, r.identity, r.counter, r.counter, none, 0, none, false⟩ ∧
      (∀ k, k ≠ i → u.fob k = s.fob k) ∧ (s.hold.slot = i → u.hold.isOpen = false) ∧ final u) ∧
    (s.writer.running = some ⟨.revoke i, true, changed, t⟩ → ∃ u, exec .revokeWriteComplete s = .next u ∧
      u.store = { s.store with slots := s.store.slots.set i (storedSlot SlotRecord.empty) } ∧ u.fob i = FobSlot.empty ∧
      (∀ k, k ≠ i → u.fob k = s.fob k) ∧ (s.hold.slot = i → u.hold.isOpen = false) ∧ final u) ∧
    (s.writer.running = some ⟨.params values, true, changed, t⟩ → ∃ u, exec .paramWriteComplete s = .next u ∧
      u.store = { s.store with params := storedParams values } ∧ u.writer.paramsFailed = false ∧ u.fobs = s.fobs ∧ final u)

/-- RESTART from any state (R38, R182): no stroke, job or search is left, every latch and child actuator is IDLE, no
window is driven and none has a continuation (an IDLE window has none before), the units of the cut strokes are back, the
parameters are loaded again, the small records are empty, and RESTARTED is the kind pending; the store, the fob slots,
the tallies (but a FORCED run's) and the crash record are kept. The fields of the closed hold are the model's choice (log entry 25), and that
a FORCED run's tally clears at this stop is read from R61, R62 and R48 beside R39 and R182 (log entry 38). -/
def Obligations.RestartClearsTheRecords : Prop :=
  ∀ s : State, listening .M s →
    ∃ u, exec (.restart .M) s = .next u ∧ u.phase = .ACTIVE ∧ u.strokes = [] ∧ u.queue = [] ∧
      u.slot = CrashSlot.closed ∧ u.search.current = none ∧ u.hold = Hold.closed ∧ u.relock = none ∧
      u.keyLock = none ∧ u.entry = none ∧ u.nearFull = false ∧
      (∀ a, (u.act a).activity = .IDLE ∧ (u.act a).attempts = 0 ∧ (u.act a).strokes = (s.act a).strokes) ∧
      u.units = s.units - (s.strokes.map (·.units)).sum ∧
      (∀ w, ((s.win w).run = .IDLE → (s.win w).cont = none) → (u.win w).cont = none) ∧
      (∀ w, ((u.win w).run = .IDLE ∨ (u.win w).run = .BRAKING) ∧ (u.win w).P = (s.win w).P ∧
        (u.win w).normalized = (s.win w).normalized ∧ (u.win w).profile = (s.win w).profile ∧
        (u.win w).H = (s.win w).H ∧
        let ends := driven (s.win w).run = true ∧ (s.win w).mode = .FORCED
        (u.win w).tally = (if ends then 0 else (s.win w).tally) ∧
          (u.win w).tallyT = (if ends then none else (s.win w).tallyT)) ∧
      (∀ sw, u.spent.get sw = false) ∧ u.params = loadedParams s.store.params ∧ u.store = s.store ∧
      u.fobs = s.fobs ∧ u.crash = s.crash ∧ u.pins = s.pins ∧ u.now = s.now ∧
      (∀ p, (u.port p).pending = (if s.store.params.ok then 0x0001#16 else 0x0801#16) ∧
        (u.port p).mask = (s.port p).mask ∧ (u.port p).cursor = (s.port p).cursor) ∧
      (u.port .M).slot = ⟨0x70#8, .DONE, 0#72⟩ ∧ (u.port .E).slot = (s.port .E).slot

/-- STANDBY (R183): refused while any condition fails; entered at once where all hold and no profile is marked, answered
with entered 1; with a profile to save, Port M is in flight and the part stays ACTIVE, and the completion of its last
write tests again: entered 1 and standby, or entered 0 and the part stays as it is. -/
def Obligations.StandbyEnteredWhenFree : Prop :=
  ∀ (w : Win) (q : Profile) (changed : Bool) (t : Timer) (s : State), calm s →
    let free := s.queue = [] ∧ s.strokes = [] ∧ (∀ w, busy (s.win w).run = false) ∧
      (∀ a, (s.act a).activity ≠ .RETRY_WAIT) ∧ s.slot.isOpen = false ∧ s.search.current = none ∧
      s.hold.isOpen = false ∧ s.relock = none ∧ ∀ i, (s.fob i).commitPending = false
    let clean := changed = false ∧ ∀ v, v ≠ w → (s.win v).mon.marked = false
    (listening .M s → ¬ free → exec (.standby .M) s =
      .next (respond .M 0x71#8 (Answer.refused .BUSY_ACTIVITY) (arrived .M s))) ∧
    (listening .M s → free → (∀ w, (s.win w).mon.marked = false) → exec (.standby .M) s =
      .next (respond .M 0x71#8 ⟨.DONE, packData [(1, 1)]⟩ { arrived .M s with phase := .STANDBY })) ∧
    (listening .M s → free → (∃ w ∈ Win.all, (s.win w).mon.marked = true) → ∃ u, exec (.standby .M) s = .next u ∧ u.phase = .ACTIVE ∧
      (u.port .M).slot = ⟨0x71#8, .IN_PROGRESS, 0#72⟩ ∧ (u.port .M).inFlight = some 0x71#8 ∧
      u.windows = s.windows ∧ u.table = s.table) ∧
    (operating s → s.writer.running = some ⟨.profile w q, true, changed, t⟩ → timerDue s.now t = true →
      s.writer.portQueue = [] → (s.port .M).inFlight = some 0x71#8 →
      ∃ u, exec .profileWriteComplete s = .next u ∧ (u.port .M).inFlight = none ∧
        (free → clean → u.phase = .STANDBY ∧ (u.port .M).slot = ⟨0x71#8, .DONE, packData [(1, 1)]⟩) ∧
        (¬(free ∧ clean) → u.phase = s.phase ∧ (u.port .M).slot = ⟨0x71#8, .DONE, packData [(1, 0)]⟩))

/-- READING_EXPIRED (R185): a recorded reading that is 120 s old is marked, which makes its age longer than any span;
no other reading changes, and nothing but marks of readings does. -/
def Obligations.ReadingIsMarkedExpired : Prop :=
  ∀ (r : ReadingRef) (x : Reading) (s : State), operating s → calm s → readingOf r s = some x → x.expired = false →
    timerDue s.now ⟨x.time, 120000⟩ = true →
    ∃ u, exec (.readingExpired r) s = .next u ∧ readingOf r u = some { x with expired := true } ∧
      ageAt u.now { x with expired := true } = 4294967296 ∧ u.now = s.now ∧
      (∀ q, q ≠ r → readingOf q u = readingOf q s) ∧ u.unmarked = s.unmarked

/-! ## Laws that every step keeps -/

/-- Every step leaves nothing over: no admission trigger is left (R96), no crash slot stays open when it is done (R110),
and a store with an item to write is writing (R178). The trigger is the model's own field, and an event makes its attempts
within a bound that none reaches (log entry 16). -/
def Obligations.CalmKeptByEveryStep : Prop :=
  ∀ s t : State, calm s → step s = .next t → calm t

/-- Six laws, each kept by every step: the queue holds at most 16 jobs (R89); no two queued jobs name one actuator or
window (R89), with what keeps it so (R22, R45, R93, R94), which rests on the law of job ids and on a braking timer running
on a BRAKING window alone (UnitsLawKeptByEveryStep); the parameters in force are in their ranges (R179); the next
tag is 1 to 255 (R132); the crash latch is CLEAR only while the slot is closed (R151); the next job id and the ids of the
live jobs are 1 to 255, and no two live jobs share one (R88), which rests on the bound of the queue and on the strokes and
windows that the admitted jobs drive. -/
def Obligations.SmallLawsKeptByEveryStep : Prop :=
  ∀ s t : State, step s = .next t →
    (queueBound s → queueBound t) ∧
      (queueNamesLaw s → idsLaw s → (∀ w, (s.win w).brakeT.isSome = true → (s.win w).run = .BRAKING) →
        queueNamesLaw t) ∧
      (paramsLaw s → paramsLaw t) ∧ (tagLaw s → tagLaw t) ∧ (slotLaw s → slotLaw t) ∧ (locksLaw s → queueBound s → idsLaw s → idsLaw t)

/-- The law of units (R95): the units held equal the sum over the running strokes and the busy windows. A braking timer
runs only on a window that is BRAKING. With the parameters in their ranges, the units held never exceed 16. -/
def Obligations.UnitsLawKeptByEveryStep : Prop :=
  ∀ s t : State, step s = .next t →
    (unitsLaw s → (∀ w, (s.win w).brakeT.isSome = true → (s.win w).run = .BRAKING) →
      unitsLaw t ∧ ∀ w, (t.win w).brakeT.isSome = true → (t.win w).run = .BRAKING) ∧
    (paramsLaw s → s.units ≤ 16 → t.units ≤ 16)

/-- The law of window position (R44, R50) and the ranges of H and the tally (R56, R61). -/
def Obligations.WindowLawsKeptByEveryStep : Prop :=
  ∀ s t : State, step s = .next t → (positionLaw s → positionLaw t) ∧
    ((∀ w, (s.win w).H ≤ 900 ∧ (s.win w).tally ≤ 3) → ∀ w, (t.win w).H ≤ 900 ∧ (t.win w).tally ≤ 3)

/-- The law of the counters (R121): a slot's counter only increases, but where the write of an ENROLL or REVOKE of that
slot completes and where a power-on loads it; and no stored counter, and no counter being written for its slot, exceeds
the counter in use. And the law of the fob table (R112), with what keeps it: no two ACTIVE slots hold one identity and none holds 0,
while at most one enrolment is under way. -/
def Obligations.CounterLawKeptByEveryStep : Prop :=
  ∀ s t : State, step s = .next t →
    (counterLaw s →
      (∀ x i r, s.writer.running = some x → x.payload = .commit i r → r.counter ≤ (s.fob i).C) → counterLaw t ∧
        ∀ x i r, t.writer.running = some x → x.payload = .commit i r → r.counter ≤ (t.fob i).C) ∧
    (s.phase ≠ .LOADING → (∀ pins rest, s.pending ≠ .powerOnReset pins :: rest) →
      ∀ i, (∀ x r, s.writer.running = some x → x.payload = .enroll i r ∨ x.payload = .revoke i →
        t.writer.running = s.writer.running) → (s.fob i).C ≤ (t.fob i).C) ∧
    (enrolLaw s → enrolLaw t)

/-- The state after reset meets every law above; and from a factory store with lines at rest and no transfer under way,
a power-on and the enabling of the ports give that state (log entry 3 names the rest levels and the store). -/
def Obligations.ResetMeetsEveryLaw : Prop :=
  (calm State.reset ∧ matrixLaw State.reset ∧ queueBound State.reset ∧ paramsLaw State.reset ∧ tagLaw State.reset ∧
    slotLaw State.reset ∧ unitsLaw State.reset ∧ positionLaw State.reset ∧ windowRanges State.reset ∧
    counterLaw State.reset ∧ lockTableLaw State.reset ∧ fobLaw State.reset ∧ crashLaw State.reset ∧
    queueLaw State.reset ∧ polesLaw State.reset ∧ locksLaw State.reset ∧ queueNamesLaw State.reset ∧
    enrolLaw State.reset ∧ idsLaw State.reset ∧ State.reset.units = 0 ∧ ∀ w, (State.reset.win w).brakeT = none) ∧
    ∀ s t : State, s.store = Store.factory → s.pending = [] → s.schedule = [] →
      (∀ p, (s.port p).transfer = none) →
      exec (.powerOnReset Config.restPins) s = .next t → exec .portsEnabled t = .next State.reset
end

