-- ==== Sys2Proof/Laws/State.lean ====
section
/-! SUPPORT. The small lemmas of State: what each update of one record leaves of every other field, and what a
record reads after an update. -/

namespace Sys2Proof.Machine

open Sys2Proof

/-! ## Families of like things -/

@[simp] theorem perlatch_get_set_same {α : Type} (v : PerLatch α) (i : Latch) (x : α) :
    (v.set i x).get i = x := by cases i <;> rfl

theorem perlatch_get_set_ne {α : Type} (v : PerLatch α) {i j : Latch} (x : α) (h : j ≠ i) :
    (v.set i x).get j = v.get j := by cases i <;> cases j <;> first | rfl | exact absurd rfl h

@[simp] theorem perlatch_set_get {α : Type} (v : PerLatch α) (i : Latch) : v.set i (v.get i) = v := by
  cases i <;> rfl

theorem perlatch_ext {α : Type} {u v : PerLatch α} (h : ∀ i, u.get i = v.get i) : u = v := by
  obtain ⟨⟩ := u
  obtain ⟨⟩ := v
  simp only [PerLatch.mk.injEq]
  refine ⟨h .FL, h .FR, h .RL, h .RR, h .TG⟩

@[simp] theorem perdoor_get_set_same {α : Type} (v : PerDoor α) (i : Door) (x : α) :
    (v.set i x).get i = x := by cases i <;> rfl

theorem perdoor_get_set_ne {α : Type} (v : PerDoor α) {i j : Door} (x : α) (h : j ≠ i) :
    (v.set i x).get j = v.get j := by cases i <;> cases j <;> first | rfl | exact absurd rfl h

@[simp] theorem perdoor_set_get {α : Type} (v : PerDoor α) (i : Door) : v.set i (v.get i) = v := by
  cases i <;> rfl

theorem perdoor_ext {α : Type} {u v : PerDoor α} (h : ∀ i, u.get i = v.get i) : u = v := by
  obtain ⟨⟩ := u
  obtain ⟨⟩ := v
  simp only [PerDoor.mk.injEq]
  refine ⟨h .FL, h .FR, h .RL, h .RR⟩

@[simp] theorem perchild_get_set_same {α : Type} (v : PerChild α) (i : Child) (x : α) :
    (v.set i x).get i = x := by cases i <;> rfl

theorem perchild_get_set_ne {α : Type} (v : PerChild α) {i j : Child} (x : α) (h : j ≠ i) :
    (v.set i x).get j = v.get j := by cases i <;> cases j <;> first | rfl | exact absurd rfl h

@[simp] theorem perchild_set_get {α : Type} (v : PerChild α) (i : Child) : v.set i (v.get i) = v := by
  cases i <;> rfl

theorem perchild_ext {α : Type} {u v : PerChild α} (h : ∀ i, u.get i = v.get i) : u = v := by
  obtain ⟨⟩ := u
  obtain ⟨⟩ := v
  simp only [PerChild.mk.injEq]
  refine ⟨h .CRL, h .CRR⟩

@[simp] theorem perwin_get_set_same {α : Type} (v : PerWin α) (i : Win) (x : α) :
    (v.set i x).get i = x := by cases i <;> rfl

theorem perwin_get_set_ne {α : Type} (v : PerWin α) {i j : Win} (x : α) (h : j ≠ i) :
    (v.set i x).get j = v.get j := by cases i <;> cases j <;> first | rfl | exact absurd rfl h

@[simp] theorem perwin_set_get {α : Type} (v : PerWin α) (i : Win) : v.set i (v.get i) = v := by
  cases i <;> rfl

theorem perwin_ext {α : Type} {u v : PerWin α} (h : ∀ i, u.get i = v.get i) : u = v := by
  obtain ⟨⟩ := u
  obtain ⟨⟩ := v
  simp only [PerWin.mk.injEq]
  refine ⟨h .WFL, h .WFR, h .WRL, h .WRR⟩

@[simp] theorem perport_get_set_same {α : Type} (v : PerPort α) (i : Port) (x : α) :
    (v.set i x).get i = x := by cases i <;> rfl

theorem perport_get_set_ne {α : Type} (v : PerPort α) {i j : Port} (x : α) (h : j ≠ i) :
    (v.set i x).get j = v.get j := by cases i <;> cases j <;> first | rfl | exact absurd rfl h

@[simp] theorem perport_set_get {α : Type} (v : PerPort α) (i : Port) : v.set i (v.get i) = v := by
  cases i <;> rfl

theorem perport_ext {α : Type} {u v : PerPort α} (h : ∀ i, u.get i = v.get i) : u = v := by
  obtain ⟨⟩ := u
  obtain ⟨⟩ := v
  simp only [PerPort.mk.injEq]
  refine ⟨h .M, h .E⟩

/-! ## setPort -/

@[simp] theorem setPort_pending (s : State) (p : Port) (r : PortRec) : (s.setPort p r).pending = s.pending := rfl
@[simp] theorem setPort_schedule (s : State) (p : Port) (r : PortRec) : (s.setPort p r).schedule = s.schedule := rfl
@[simp] theorem setPort_attemptDue (s : State) (p : Port) (r : PortRec) : (s.setPort p r).attemptDue = s.attemptDue := rfl
@[simp] theorem setPort_phase (s : State) (p : Port) (r : PortRec) : (s.setPort p r).phase = s.phase := rfl
@[simp] theorem setPort_now (s : State) (p : Port) (r : PortRec) : (s.setPort p r).now = s.now := rfl
@[simp] theorem setPort_pins (s : State) (p : Port) (r : PortRec) : (s.setPort p r).pins = s.pins := rfl
@[simp] theorem setPort_params (s : State) (p : Port) (r : PortRec) : (s.setPort p r).params = s.params := rfl
@[simp] theorem setPort_store (s : State) (p : Port) (r : PortRec) : (s.setPort p r).store = s.store := rfl
@[simp] theorem setPort_writer (s : State) (p : Port) (r : PortRec) : (s.setPort p r).writer = s.writer := rfl
@[simp] theorem setPort_table (s : State) (p : Port) (r : PortRec) : (s.setPort p r).table = s.table := rfl
@[simp] theorem setPort_keyLock (s : State) (p : Port) (r : PortRec) : (s.setPort p r).keyLock = s.keyLock := rfl
@[simp] theorem setPort_entry (s : State) (p : Port) (r : PortRec) : (s.setPort p r).entry = s.entry := rfl
@[simp] theorem setPort_relock (s : State) (p : Port) (r : PortRec) : (s.setPort p r).relock = s.relock := rfl
@[simp] theorem setPort_strokes (s : State) (p : Port) (r : PortRec) : (s.setPort p r).strokes = s.strokes := rfl
@[simp] theorem setPort_windows (s : State) (p : Port) (r : PortRec) : (s.setPort p r).windows = s.windows := rfl
@[simp] theorem setPort_spent (s : State) (p : Port) (r : PortRec) : (s.setPort p r).spent = s.spent := rfl
@[simp] theorem setPort_queue (s : State) (p : Port) (r : PortRec) : (s.setPort p r).queue = s.queue := rfl
@[simp] theorem setPort_admitted (s : State) (p : Port) (r : PortRec) : (s.setPort p r).admitted = s.admitted := rfl
@[simp] theorem setPort_nextId (s : State) (p : Port) (r : PortRec) : (s.setPort p r).nextId = s.nextId := rfl
@[simp] theorem setPort_units (s : State) (p : Port) (r : PortRec) : (s.setPort p r).units = s.units := rfl
@[simp] theorem setPort_nearFull (s : State) (p : Port) (r : PortRec) : (s.setPort p r).nearFull = s.nearFull := rfl
@[simp] theorem setPort_slot (s : State) (p : Port) (r : PortRec) : (s.setPort p r).slot = s.slot := rfl
@[simp] theorem setPort_fobs (s : State) (p : Port) (r : PortRec) : (s.setPort p r).fobs = s.fobs := rfl
@[simp] theorem setPort_hold (s : State) (p : Port) (r : PortRec) : (s.setPort p r).hold = s.hold := rfl
@[simp] theorem setPort_search (s : State) (p : Port) (r : PortRec) : (s.setPort p r).search = s.search := rfl
@[simp] theorem setPort_crash (s : State) (p : Port) (r : PortRec) : (s.setPort p r).crash = s.crash := rfl

/-! ## setAct -/

@[simp] theorem setAct_pending (s : State) (a : Act) (r : ActRec) : (s.setAct a r).pending = s.pending := by cases a <;> rfl
@[simp] theorem setAct_schedule (s : State) (a : Act) (r : ActRec) : (s.setAct a r).schedule = s.schedule := by cases a <;> rfl
@[simp] theorem setAct_attemptDue (s : State) (a : Act) (r : ActRec) : (s.setAct a r).attemptDue = s.attemptDue := by cases a <;> rfl
@[simp] theorem setAct_phase (s : State) (a : Act) (r : ActRec) : (s.setAct a r).phase = s.phase := by cases a <;> rfl
@[simp] theorem setAct_now (s : State) (a : Act) (r : ActRec) : (s.setAct a r).now = s.now := by cases a <;> rfl
@[simp] theorem setAct_pins (s : State) (a : Act) (r : ActRec) : (s.setAct a r).pins = s.pins := by cases a <;> rfl
@[simp] theorem setAct_params (s : State) (a : Act) (r : ActRec) : (s.setAct a r).params = s.params := by cases a <;> rfl
@[simp] theorem setAct_store (s : State) (a : Act) (r : ActRec) : (s.setAct a r).store = s.store := by cases a <;> rfl
@[simp] theorem setAct_writer (s : State) (a : Act) (r : ActRec) : (s.setAct a r).writer = s.writer := by cases a <;> rfl
@[simp] theorem setAct_keyLock (s : State) (a : Act) (r : ActRec) : (s.setAct a r).keyLock = s.keyLock := by cases a <;> rfl
@[simp] theorem setAct_entry (s : State) (a : Act) (r : ActRec) : (s.setAct a r).entry = s.entry := by cases a <;> rfl
@[simp] theorem setAct_relock (s : State) (a : Act) (r : ActRec) : (s.setAct a r).relock = s.relock := by cases a <;> rfl
@[simp] theorem setAct_strokes (s : State) (a : Act) (r : ActRec) : (s.setAct a r).strokes = s.strokes := by cases a <;> rfl
@[simp] theorem setAct_windows (s : State) (a : Act) (r : ActRec) : (s.setAct a r).windows = s.windows := by cases a <;> rfl
@[simp] theorem setAct_spent (s : State) (a : Act) (r : ActRec) : (s.setAct a r).spent = s.spent := by cases a <;> rfl
@[simp] theorem setAct_queue (s : State) (a : Act) (r : ActRec) : (s.setAct a r).queue = s.queue := by cases a <;> rfl
@[simp] theorem setAct_admitted (s : State) (a : Act) (r : ActRec) : (s.setAct a r).admitted = s.admitted := by cases a <;> rfl
@[simp] theorem setAct_nextId (s : State) (a : Act) (r : ActRec) : (s.setAct a r).nextId = s.nextId := by cases a <;> rfl
@[simp] theorem setAct_units (s : State) (a : Act) (r : ActRec) : (s.setAct a r).units = s.units := by cases a <;> rfl
@[simp] theorem setAct_nearFull (s : State) (a : Act) (r : ActRec) : (s.setAct a r).nearFull = s.nearFull := by cases a <;> rfl
@[simp] theorem setAct_slot (s : State) (a : Act) (r : ActRec) : (s.setAct a r).slot = s.slot := by cases a <;> rfl
@[simp] theorem setAct_fobs (s : State) (a : Act) (r : ActRec) : (s.setAct a r).fobs = s.fobs := by cases a <;> rfl
@[simp] theorem setAct_hold (s : State) (a : Act) (r : ActRec) : (s.setAct a r).hold = s.hold := by cases a <;> rfl
@[simp] theorem setAct_search (s : State) (a : Act) (r : ActRec) : (s.setAct a r).search = s.search := by cases a <;> rfl
@[simp] theorem setAct_crash (s : State) (a : Act) (r : ActRec) : (s.setAct a r).crash = s.crash := by cases a <;> rfl
@[simp] theorem setAct_ports (s : State) (a : Act) (r : ActRec) : (s.setAct a r).ports = s.ports := by cases a <;> rfl

/-! ## setWin -/

@[simp] theorem setWin_pending (s : State) (w : Win) (r : Window) : (s.setWin w r).pending = s.pending := rfl
@[simp] theorem setWin_schedule (s : State) (w : Win) (r : Window) : (s.setWin w r).schedule = s.schedule := rfl
@[simp] theorem setWin_attemptDue (s : State) (w : Win) (r : Window) : (s.setWin w r).attemptDue = s.attemptDue := rfl
@[simp] theorem setWin_phase (s : State) (w : Win) (r : Window) : (s.setWin w r).phase = s.phase := rfl
@[simp] theorem setWin_now (s : State) (w : Win) (r : Window) : (s.setWin w r).now = s.now := rfl
@[simp] theorem setWin_pins (s : State) (w : Win) (r : Window) : (s.setWin w r).pins = s.pins := rfl
@[simp] theorem setWin_params (s : State) (w : Win) (r : Window) : (s.setWin w r).params = s.params := rfl
@[simp] theorem setWin_store (s : State) (w : Win) (r : Window) : (s.setWin w r).store = s.store := rfl
@[simp] theorem setWin_writer (s : State) (w : Win) (r : Window) : (s.setWin w r).writer = s.writer := rfl
@[simp] theorem setWin_table (s : State) (w : Win) (r : Window) : (s.setWin w r).table = s.table := rfl
@[simp] theorem setWin_keyLock (s : State) (w : Win) (r : Window) : (s.setWin w r).keyLock = s.keyLock := rfl
@[simp] theorem setWin_entry (s : State) (w : Win) (r : Window) : (s.setWin w r).entry = s.entry := rfl
@[simp] theorem setWin_relock (s : State) (w : Win) (r : Window) : (s.setWin w r).relock = s.relock := rfl
@[simp] theorem setWin_strokes (s : State) (w : Win) (r : Window) : (s.setWin w r).strokes = s.strokes := rfl
@[simp] theorem setWin_spent (s : State) (w : Win) (r : Window) : (s.setWin w r).spent = s.spent := rfl
@[simp] theorem setWin_queue (s : State) (w : Win) (r : Window) : (s.setWin w r).queue = s.queue := rfl
@[simp] theorem setWin_admitted (s : State) (w : Win) (r : Window) : (s.setWin w r).admitted = s.admitted := rfl
@[simp] theorem setWin_nextId (s : State) (w : Win) (r : Window) : (s.setWin w r).nextId = s.nextId := rfl
@[simp] theorem setWin_units (s : State) (w : Win) (r : Window) : (s.setWin w r).units = s.units := rfl
@[simp] theorem setWin_nearFull (s : State) (w : Win) (r : Window) : (s.setWin w r).nearFull = s.nearFull := rfl
@[simp] theorem setWin_slot (s : State) (w : Win) (r : Window) : (s.setWin w r).slot = s.slot := rfl
@[simp] theorem setWin_fobs (s : State) (w : Win) (r : Window) : (s.setWin w r).fobs = s.fobs := rfl
@[simp] theorem setWin_hold (s : State) (w : Win) (r : Window) : (s.setWin w r).hold = s.hold := rfl
@[simp] theorem setWin_search (s : State) (w : Win) (r : Window) : (s.setWin w r).search = s.search := rfl
@[simp] theorem setWin_crash (s : State) (w : Win) (r : Window) : (s.setWin w r).crash = s.crash := rfl
@[simp] theorem setWin_ports (s : State) (w : Win) (r : Window) : (s.setWin w r).ports = s.ports := rfl

/-! ## setFob -/

@[simp] theorem setFob_pending (s : State) (i : Fin 8) (r : FobSlot) : (s.setFob i r).pending = s.pending := rfl
@[simp] theorem setFob_schedule (s : State) (i : Fin 8) (r : FobSlot) : (s.setFob i r).schedule = s.schedule := rfl
@[simp] theorem setFob_attemptDue (s : State) (i : Fin 8) (r : FobSlot) : (s.setFob i r).attemptDue = s.attemptDue := rfl
@[simp] theorem setFob_phase (s : State) (i : Fin 8) (r : FobSlot) : (s.setFob i r).phase = s.phase := rfl
@[simp] theorem setFob_now (s : State) (i : Fin 8) (r : FobSlot) : (s.setFob i r).now = s.now := rfl
@[simp] theorem setFob_pins (s : State) (i : Fin 8) (r : FobSlot) : (s.setFob i r).pins = s.pins := rfl
@[simp] theorem setFob_params (s : State) (i : Fin 8) (r : FobSlot) : (s.setFob i r).params = s.params := rfl
@[simp] theorem setFob_store (s : State) (i : Fin 8) (r : FobSlot) : (s.setFob i r).store = s.store := rfl
@[simp] theorem setFob_writer (s : State) (i : Fin 8) (r : FobSlot) : (s.setFob i r).writer = s.writer := rfl
@[simp] theorem setFob_table (s : State) (i : Fin 8) (r : FobSlot) : (s.setFob i r).table = s.table := rfl
@[simp] theorem setFob_keyLock (s : State) (i : Fin 8) (r : FobSlot) : (s.setFob i r).keyLock = s.keyLock := rfl
@[simp] theorem setFob_entry (s : State) (i : Fin 8) (r : FobSlot) : (s.setFob i r).entry = s.entry := rfl
@[simp] theorem setFob_relock (s : State) (i : Fin 8) (r : FobSlot) : (s.setFob i r).relock = s.relock := rfl
@[simp] theorem setFob_strokes (s : State) (i : Fin 8) (r : FobSlot) : (s.setFob i r).strokes = s.strokes := rfl
@[simp] theorem setFob_windows (s : State) (i : Fin 8) (r : FobSlot) : (s.setFob i r).windows = s.windows := rfl
@[simp] theorem setFob_spent (s : State) (i : Fin 8) (r : FobSlot) : (s.setFob i r).spent = s.spent := rfl
@[simp] theorem setFob_queue (s : State) (i : Fin 8) (r : FobSlot) : (s.setFob i r).queue = s.queue := rfl
@[simp] theorem setFob_admitted (s : State) (i : Fin 8) (r : FobSlot) : (s.setFob i r).admitted = s.admitted := rfl
@[simp] theorem setFob_nextId (s : State) (i : Fin 8) (r : FobSlot) : (s.setFob i r).nextId = s.nextId := rfl
@[simp] theorem setFob_units (s : State) (i : Fin 8) (r : FobSlot) : (s.setFob i r).units = s.units := rfl
@[simp] theorem setFob_nearFull (s : State) (i : Fin 8) (r : FobSlot) : (s.setFob i r).nearFull = s.nearFull := rfl
@[simp] theorem setFob_slot (s : State) (i : Fin 8) (r : FobSlot) : (s.setFob i r).slot = s.slot := rfl
@[simp] theorem setFob_hold (s : State) (i : Fin 8) (r : FobSlot) : (s.setFob i r).hold = s.hold := rfl
@[simp] theorem setFob_search (s : State) (i : Fin 8) (r : FobSlot) : (s.setFob i r).search = s.search := rfl
@[simp] theorem setFob_crash (s : State) (i : Fin 8) (r : FobSlot) : (s.setFob i r).crash = s.crash := rfl
@[simp] theorem setFob_ports (s : State) (i : Fin 8) (r : FobSlot) : (s.setFob i r).ports = s.ports := rfl

/-! ## raise -/

@[simp] theorem raise_pending (s : State) (k : Notice) : (raise k s).pending = s.pending := rfl
@[simp] theorem raise_schedule (s : State) (k : Notice) : (raise k s).schedule = s.schedule := rfl
@[simp] theorem raise_attemptDue (s : State) (k : Notice) : (raise k s).attemptDue = s.attemptDue := rfl
@[simp] theorem raise_phase (s : State) (k : Notice) : (raise k s).phase = s.phase := rfl
@[simp] theorem raise_now (s : State) (k : Notice) : (raise k s).now = s.now := rfl
@[simp] theorem raise_pins (s : State) (k : Notice) : (raise k s).pins = s.pins := rfl
@[simp] theorem raise_params (s : State) (k : Notice) : (raise k s).params = s.params := rfl
@[simp] theorem raise_store (s : State) (k : Notice) : (raise k s).store = s.store := rfl
@[simp] theorem raise_writer (s : State) (k : Notice) : (raise k s).writer = s.writer := rfl
@[simp] theorem raise_table (s : State) (k : Notice) : (raise k s).table = s.table := rfl
@[simp] theorem raise_keyLock (s : State) (k : Notice) : (raise k s).keyLock = s.keyLock := rfl
@[simp] theorem raise_entry (s : State) (k : Notice) : (raise k s).entry = s.entry := rfl
@[simp] theorem raise_relock (s : State) (k : Notice) : (raise k s).relock = s.relock := rfl
@[simp] theorem raise_strokes (s : State) (k : Notice) : (raise k s).strokes = s.strokes := rfl
@[simp] theorem raise_windows (s : State) (k : Notice) : (raise k s).windows = s.windows := rfl
@[simp] theorem raise_spent (s : State) (k : Notice) : (raise k s).spent = s.spent := rfl
@[simp] theorem raise_queue (s : State) (k : Notice) : (raise k s).queue = s.queue := rfl
@[simp] theorem raise_admitted (s : State) (k : Notice) : (raise k s).admitted = s.admitted := rfl
@[simp] theorem raise_nextId (s : State) (k : Notice) : (raise k s).nextId = s.nextId := rfl
@[simp] theorem raise_units (s : State) (k : Notice) : (raise k s).units = s.units := rfl
@[simp] theorem raise_nearFull (s : State) (k : Notice) : (raise k s).nearFull = s.nearFull := rfl
@[simp] theorem raise_slot (s : State) (k : Notice) : (raise k s).slot = s.slot := rfl
@[simp] theorem raise_fobs (s : State) (k : Notice) : (raise k s).fobs = s.fobs := rfl
@[simp] theorem raise_hold (s : State) (k : Notice) : (raise k s).hold = s.hold := rfl
@[simp] theorem raise_search (s : State) (k : Notice) : (raise k s).search = s.search := rfl
@[simp] theorem raise_crash (s : State) (k : Notice) : (raise k s).crash = s.crash := rfl

/-! ## trigger -/

@[simp] theorem trigger_pending (s : State) : (trigger s).pending = s.pending := rfl
@[simp] theorem trigger_schedule (s : State) : (trigger s).schedule = s.schedule := rfl
@[simp] theorem trigger_phase (s : State) : (trigger s).phase = s.phase := rfl
@[simp] theorem trigger_now (s : State) : (trigger s).now = s.now := rfl
@[simp] theorem trigger_pins (s : State) : (trigger s).pins = s.pins := rfl
@[simp] theorem trigger_params (s : State) : (trigger s).params = s.params := rfl
@[simp] theorem trigger_store (s : State) : (trigger s).store = s.store := rfl
@[simp] theorem trigger_writer (s : State) : (trigger s).writer = s.writer := rfl
@[simp] theorem trigger_table (s : State) : (trigger s).table = s.table := rfl
@[simp] theorem trigger_keyLock (s : State) : (trigger s).keyLock = s.keyLock := rfl
@[simp] theorem trigger_entry (s : State) : (trigger s).entry = s.entry := rfl
@[simp] theorem trigger_relock (s : State) : (trigger s).relock = s.relock := rfl
@[simp] theorem trigger_strokes (s : State) : (trigger s).strokes = s.strokes := rfl
@[simp] theorem trigger_windows (s : State) : (trigger s).windows = s.windows := rfl
@[simp] theorem trigger_spent (s : State) : (trigger s).spent = s.spent := rfl
@[simp] theorem trigger_queue (s : State) : (trigger s).queue = s.queue := rfl
@[simp] theorem trigger_admitted (s : State) : (trigger s).admitted = s.admitted := rfl
@[simp] theorem trigger_nextId (s : State) : (trigger s).nextId = s.nextId := rfl
@[simp] theorem trigger_units (s : State) : (trigger s).units = s.units := rfl
@[simp] theorem trigger_nearFull (s : State) : (trigger s).nearFull = s.nearFull := rfl
@[simp] theorem trigger_slot (s : State) : (trigger s).slot = s.slot := rfl
@[simp] theorem trigger_fobs (s : State) : (trigger s).fobs = s.fobs := rfl
@[simp] theorem trigger_hold (s : State) : (trigger s).hold = s.hold := rfl
@[simp] theorem trigger_search (s : State) : (trigger s).search = s.search := rfl
@[simp] theorem trigger_crash (s : State) : (trigger s).crash = s.crash := rfl
@[simp] theorem trigger_ports (s : State) : (trigger s).ports = s.ports := rfl

/-! ## cancelRelock -/

@[simp] theorem cancelRelock_pending (s : State) : (cancelRelock s).pending = s.pending := rfl
@[simp] theorem cancelRelock_schedule (s : State) : (cancelRelock s).schedule = s.schedule := rfl
@[simp] theorem cancelRelock_attemptDue (s : State) : (cancelRelock s).attemptDue = s.attemptDue := rfl
@[simp] theorem cancelRelock_phase (s : State) : (cancelRelock s).phase = s.phase := rfl
@[simp] theorem cancelRelock_now (s : State) : (cancelRelock s).now = s.now := rfl
@[simp] theorem cancelRelock_pins (s : State) : (cancelRelock s).pins = s.pins := rfl
@[simp] theorem cancelRelock_params (s : State) : (cancelRelock s).params = s.params := rfl
@[simp] theorem cancelRelock_store (s : State) : (cancelRelock s).store = s.store := rfl
@[simp] theorem cancelRelock_writer (s : State) : (cancelRelock s).writer = s.writer := rfl
@[simp] theorem cancelRelock_table (s : State) : (cancelRelock s).table = s.table := rfl
@[simp] theorem cancelRelock_keyLock (s : State) : (cancelRelock s).keyLock = s.keyLock := rfl
@[simp] theorem cancelRelock_entry (s : State) : (cancelRelock s).entry = s.entry := rfl
@[simp] theorem cancelRelock_strokes (s : State) : (cancelRelock s).strokes = s.strokes := rfl
@[simp] theorem cancelRelock_windows (s : State) : (cancelRelock s).windows = s.windows := rfl
@[simp] theorem cancelRelock_spent (s : State) : (cancelRelock s).spent = s.spent := rfl
@[simp] theorem cancelRelock_queue (s : State) : (cancelRelock s).queue = s.queue := rfl
@[simp] theorem cancelRelock_admitted (s : State) : (cancelRelock s).admitted = s.admitted := rfl
@[simp] theorem cancelRelock_nextId (s : State) : (cancelRelock s).nextId = s.nextId := rfl
@[simp] theorem cancelRelock_units (s : State) : (cancelRelock s).units = s.units := rfl
@[simp] theorem cancelRelock_nearFull (s : State) : (cancelRelock s).nearFull = s.nearFull := rfl
@[simp] theorem cancelRelock_slot (s : State) : (cancelRelock s).slot = s.slot := rfl
@[simp] theorem cancelRelock_fobs (s : State) : (cancelRelock s).fobs = s.fobs := rfl
@[simp] theorem cancelRelock_hold (s : State) : (cancelRelock s).hold = s.hold := rfl
@[simp] theorem cancelRelock_search (s : State) : (cancelRelock s).search = s.search := rfl
@[simp] theorem cancelRelock_crash (s : State) : (cancelRelock s).crash = s.crash := rfl
@[simp] theorem cancelRelock_ports (s : State) : (cancelRelock s).ports = s.ports := rfl

/-! ## The items of the store (R177) -/

@[simp] theorem storedSlot_record (r : SlotRecord) : (storedSlot r).toSlotRecord = r := rfl
@[simp] theorem storedProfile_profile (p : Profile) : (storedProfile p).profile = p := rfl
@[simp] theorem storedParams_values (v : Params) : (storedParams v).values = v := rfl
@[simp] theorem storedSlot_ok (r : SlotRecord) : (storedSlot r).ok = true := decide_eq_true rfl
@[simp] theorem storedProfile_ok (p : Profile) : (storedProfile p).ok = true := decide_eq_true rfl
@[simp] theorem storedParams_ok (v : Params) : (storedParams v).ok = true := decide_eq_true rfl

theorem byteSum_append_one (bytes : List Byte) (b : Byte) : byteSum (bytes ++ [b]) = byteSum bytes + b := by
  induction bytes with
  | nil => simp [byteSum]
  | cons x xs ih => simp [byteSum, ih, BitVec.add_assoc]

theorem byteSum_zeros {bytes : List Byte} (h : ∀ b ∈ bytes, b = 0#8) : byteSum bytes = 0#8 := by
  induction bytes with
  | nil => rfl
  | cons x xs ih => simp [byteSum, h x List.mem_cons_self, ih (fun b hb => h b (List.mem_cons_of_mem _ hb))]

/-- With its check byte behind it, every list of bytes sums to 255 modulo 256. -/
theorem goodCheck_checkByte (bytes : List Byte) : goodCheck (bytes ++ [checkByte bytes]) = true := by
  simp [goodCheck, byteSum_append_one, checkByte]

/-- The factory store holds what a write of its contents would store. -/
theorem factory_slot : (⟨SlotRecord.empty, 255#8⟩ : StoredSlot) = storedSlot SlotRecord.empty := rfl
theorem factory_profile : (⟨Profile.unknown, 255#8⟩ : StoredProfile) = storedProfile Profile.unknown := by
  have h : byteSum (profileBytes Profile.unknown) = 0#8 := byteSum_zeros (by
    intro b hb
    simp only [profileBytes, Profile.unknown, List.mem_flatMap, List.mem_cons, Vector.toList_replicate,
      List.mem_replicate, Option.getD_none] at hb
    obtain ⟨x, hx, hb⟩ := hb
    obtain rfl : x = 0 := by tauto
    simpa [wordBytes] using hb)
  simp [storedProfile, checkByte, h]
theorem factory_params : Store.factory.params = storedParams Params.defaults := rfl

/-! ## Reads after updates -/

@[simp] theorem port_setPort_same (s : State) (p : Port) (r : PortRec) : (s.setPort p r).port p = r := by
  simp [State.port, State.setPort]

theorem port_setPort_ne (s : State) {p q : Port} (r : PortRec) (h : q ≠ p) :
    (s.setPort p r).port q = s.port q := by
  simp [State.port, State.setPort, perport_get_set_ne _ _ h]

@[simp] theorem win_setWin_same (s : State) (w : Win) (r : Window) : (s.setWin w r).win w = r := by
  simp [State.win, State.setWin]

theorem win_setWin_ne (s : State) {w v : Win} (r : Window) (h : v ≠ w) :
    (s.setWin w r).win v = s.win v := by
  simp [State.win, State.setWin, perwin_get_set_ne _ _ h]

@[simp] theorem setWin_win (s : State) (w : Win) : s.setWin w (s.win w) = s := by
  simp [State.win, State.setWin]

@[simp] theorem setWin_setWin (s : State) (w : Win) (r q : Window) :
    (s.setWin w r).setWin w q = s.setWin w q := by
  cases w <;> rfl

@[simp] theorem act_setAct_same (s : State) (a : Act) (r : ActRec) : (s.setAct a r).act a = r := by
  cases a <;> simp [State.act, State.setAct]

theorem act_setAct_ne (s : State) {a b : Act} (r : ActRec) (h : b ≠ a) :
    (s.setAct a r).act b = s.act b := by
  cases a <;> cases b <;> simp [State.act, State.setAct]
  · exact perlatch_get_set_ne _ _ (fun e => h (e ▸ rfl))
  · exact perchild_get_set_ne _ _ (fun e => h (e ▸ rfl))

@[simp] theorem setAct_setAct (s : State) (a : Act) (r q : ActRec) :
    (s.setAct a r).setAct a q = s.setAct a q := by
  cases a with
  | latch l => cases l <;> rfl
  | child c => cases c <;> rfl

@[simp] theorem setAct_act (s : State) (a : Act) : s.setAct a (s.act a) = s := by
  cases a <;> simp [State.act, State.setAct]

@[simp] theorem fob_setFob_same (s : State) (i : Fin 8) (r : FobSlot) : (s.setFob i r).fob i = r := by
  simp [State.fob, State.setFob]

theorem fob_setFob_ne (s : State) {i k : Fin 8} (r : FobSlot) (h : k ≠ i) :
    (s.setFob i r).fob k = s.fob k := by
  simp [State.fob, State.setFob, Fin.val_ne_of_ne (Ne.symm h)]

@[simp] theorem act_setPort (s : State) (p : Port) (r : PortRec) (a : Act) :
    (s.setPort p r).act a = s.act a := by cases a <;> rfl
@[simp] theorem act_setWin (s : State) (w : Win) (r : Window) (a : Act) :
    (s.setWin w r).act a = s.act a := by cases a <;> rfl
@[simp] theorem act_setFob (s : State) (i : Fin 8) (r : FobSlot) (a : Act) :
    (s.setFob i r).act a = s.act a := by cases a <;> rfl
@[simp] theorem act_raise (s : State) (k : Notice) (a : Act) : (raise k s).act a = s.act a := by
  cases a <;> rfl
@[simp] theorem act_trigger (s : State) (a : Act) : (trigger s).act a = s.act a := by cases a <;> rfl
@[simp] theorem win_setAct (s : State) (a : Act) (r : ActRec) (w : Win) :
    (s.setAct a r).win w = s.win w := by cases a <;> rfl
@[simp] theorem win_setPort (s : State) (p : Port) (r : PortRec) (w : Win) :
    (s.setPort p r).win w = s.win w := rfl
@[simp] theorem win_raise (s : State) (k : Notice) (w : Win) : (raise k s).win w = s.win w := rfl
@[simp] theorem win_trigger (s : State) (w : Win) : (trigger s).win w = s.win w := rfl
@[simp] theorem fob_setAct (s : State) (a : Act) (r : ActRec) (i : Fin 8) :
    (s.setAct a r).fob i = s.fob i := by cases a <;> rfl
@[simp] theorem fob_setPort (s : State) (p : Port) (r : PortRec) (i : Fin 8) :
    (s.setPort p r).fob i = s.fob i := rfl
@[simp] theorem fob_setWin (s : State) (w : Win) (r : Window) (i : Fin 8) :
    (s.setWin w r).fob i = s.fob i := rfl
@[simp] theorem fob_raise (s : State) (k : Notice) (i : Fin 8) : (raise k s).fob i = s.fob i := rfl
@[simp] theorem fob_trigger (s : State) (i : Fin 8) : (trigger s).fob i = s.fob i := rfl
@[simp] theorem port_setAct (s : State) (a : Act) (r : ActRec) (p : Port) :
    (s.setAct a r).port p = s.port p := by cases a <;> rfl
@[simp] theorem port_setWin (s : State) (w : Win) (r : Window) (p : Port) :
    (s.setWin w r).port p = s.port p := rfl
@[simp] theorem port_setFob (s : State) (i : Fin 8) (r : FobSlot) (p : Port) :
    (s.setFob i r).port p = s.port p := rfl
@[simp] theorem port_trigger (s : State) (p : Port) : (trigger s).port p = s.port p := rfl
@[simp] theorem port_raise (s : State) (k : Notice) (p : Port) :
    (raise k s).port p = (s.port p).notice k := by cases p <;> rfl

/-- Raising a kind that is pending already changes nothing (R8). -/
@[simp] theorem raise_raise (s : State) (k : Notice) : raise k (raise k s) = raise k s := by
  simp [raise, PortRec.notice, BitVec.or_assoc]

theorem raise_setAct (s : State) (k : Notice) (a : Act) (r : ActRec) :
    (raise k s).setAct a r = raise k (s.setAct a r) := by cases a <;> rfl

theorem raise_setWin (s : State) (k : Notice) (w : Win) (r : Window) :
    (raise k s).setWin w r = raise k (s.setWin w r) := rfl

theorem raise_setFob (s : State) (k : Notice) (i : Fin 8) (r : FobSlot) :
    (raise k s).setFob i r = raise k (s.setFob i r) := rfl

/-- Two kinds are raised in either order. -/
theorem raise_comm (s : State) (k m : Notice) : raise k (raise m s) = raise m (raise k s) := by
  simp only [raise, PortRec.notice, State.mk.injEq, PerPort.mk.injEq, PortRec.mk.injEq, true_and, and_true]
  constructor <;> (rw [BitVec.or_assoc, BitVec.or_assoc, BitVec.or_comm m.bit])

end Sys2Proof.Machine
end

