-- ==== Sys2Proof/Laws/Events.lean ====
section
/-! SUPPORT. How an event ends: a calm state has nothing left to do, and what the shared operations of an event can
do. -/

namespace Sys2Proof.Machine

open Sys2Proof

/-! ## Calm states -/

theorem slotDone_congr {s t : State} (h : t.slot = s.slot) (k : t.strokes = s.strokes) :
    t.slotDone = s.slotDone := by simp [State.slotDone, h, k]

theorem nextCommit_congr {s t : State} (h : t.fobs = s.fobs) : nextCommit t = nextCommit s := by
  simp [nextCommit, State.fob, h]

theorem nextProfile_congr {s t : State} (h : t.writer = s.writer) : nextProfile t = nextProfile s := by
  simp [nextProfile, h]

/-- Calm depends on five fields only. -/
theorem calm_congr {s t : State} (ha : t.attemptDue = s.attemptDue) (hs : t.slot = s.slot)
    (hk : t.strokes = s.strokes) (hw : t.writer = s.writer) (hf : t.fobs = s.fobs) (h : calm s) :
    calm t := by
  obtain ⟨h1, h2, h3⟩ := h
  refine ⟨ha.trans h1, ?_, ?_⟩
  · intro o
    rw [slotDone_congr hs hk]
    exact h2 (hs ▸ o)
  · unfold storeSteady at h3 ⊢
    rw [nextCommit_congr hf, nextProfile_congr hw, hw]
    exact h3

theorem settleFuel_still (n : Nat) {s : State} (h : s.attemptDue = false) : settleFuel n s = s := by
  have e : takeTriggers s = s := by
    cases s
    simp_all [takeTriggers]
  cases n <;> simp [settleFuel, h, e]

/-- With no trigger and no slot to close, no attempt is made. -/
theorem settle_still {s : State} (h : s.attemptDue = false) (k : slotSteady s) : settle s = s := by
  have c : closeDue s = s := by
    unfold closeDue
    cases o : s.slot.isOpen with
    | false => simp
    | true => simp [k o]
  rw [settle, c, settleFuel_still _ h]

/-- A store that runs a write, or has none to begin, begins none. -/
theorem pump_steady {s : State} (h : storeSteady s) : pump s = s := by
  unfold pump
  rcases h with h | ⟨h1, h2, h3⟩
  · simp [h]
  · cases hr : s.writer.running <;> simp [h1, h2, h3]

/-- After an event that left nothing over, nothing more happens. -/
theorem finish_calm {s : State} (h : calm s) : finish s = s := by
  rw [finish, settle_still h.1 h.2.1, pump_steady h.2.2]

/-- An attempt on an empty queue with the slot closed changes nothing (R96, R97). -/
theorem attempt_empty {s : State} (hq : s.queue = []) (ho : s.slot.isOpen = false) : attempt s = s := by
  simp [attempt, ho, scanQueue, scanOrder, hq, scanJobs]

theorem takeTriggers_trigger {s : State} (h : s.attemptDue = false) : takeTriggers (trigger s) = s := by
  cases s
  simp_all [takeTriggers, trigger]

/-- A trigger that finds the queue empty and the slot closed has no effect (R96, R184). -/
theorem settle_trigger_empty {s : State} (hq : s.queue = []) (ho : s.slot.isOpen = false)
    (h : s.attemptDue = false) : settle (trigger s) = s := by
  have c : closeDue (trigger s) = trigger s := by simp [closeDue, ho]
  have e : (trigger s).attemptDue = true := rfl
  rw [settle, c, settleFuel, if_pos e, takeTriggers_trigger h, attempt_empty hq ho, settleFuel_still _ h]

theorem finish_trigger_empty {s : State} (hq : s.queue = []) (ho : s.slot.isOpen = false)
    (h : calm s) : finish (trigger s) = s := by
  rw [finish, settle_trigger_empty hq ho h.1, pump_steady h.2.2]

/-! ## Events -/

theorem event_operating {s : State} (h : operating s) (work : State → State) :
    event work s = finish (work s) := by
  have e : s.phase ≠ .LOADING := by rcases h with h | ⟨h, -⟩ <;> simp [h]
  simp [event, e]

theorem event_loading {s : State} (h : s.phase = .LOADING) (work : State → State) : event work s = s := by
  simp [event, h]

/-- A wake event of the running part leaves it ACTIVE (R184). -/
theorem wake_operating {s : State} (h : operating s) : wake s = { s with phase := .ACTIVE } := by
  rcases h with h | ⟨h, k⟩
  · cases s
    simp_all [wake]
  · simp [wake, h, k]

/-- With no crash job waiting in standby, the end of standby calls for no attempt. -/
theorem awaken_operating {s : State} (h : operating s) : awaken s = { s with phase := .ACTIVE } := by
  rw [← wake_operating h]
  rcases h with h | ⟨-, k⟩
  · simp [awaken, h]
  · simp [awaken, k]

/-- The expiry of a timer that is due. -/
theorem expire_due {t : Timer} {s : State} (h : timerDue s.now t = true) (work : State → State) :
    expire (some t) work s = work s := by simp [expire, advanceTo, h]

theorem expiry_due {tm : State → Option Timer} {t : Timer} {s : State} (ho : operating s)
    (ht : tm s = some t) (h : timerDue s.now t = true) (work : State → State) :
    expiry tm work s = finish (work s) := by
  simp [expiry, event_operating ho, ht, expire_due h]

theorem lineEvent_changed {s : State} {changed : Bool} (h : changed = true) (level work : State → State) :
    lineEvent changed level work s = event work (level s) := by simp [lineEvent, h]

/-! ## The timer of an expiry -/

/-- Moving the running time to a timer's moment does so once. -/
theorem advanceTo_idem (t : Timer) (s : State) : advanceTo t (advanceTo t s) = advanceTo t s := by
  unfold advanceTo
  split
  · rfl
  · split <;> rfl

end Sys2Proof.Machine
end

