-- ==== Sys2Proof/Laws/Packing.lean ====
section
/-! SUPPORT. What packing a response's fields can do (R160): each field stands at the sum of the widths before it, and
every bit beyond the last field reads 0. -/

namespace Sys2Proof.Machine

open Sys2Proof

theorem packFields_append (as bs : List (Nat × Nat)) :
    packFields (as ++ bs) = packFields as + 2 ^ (as.map (·.1)).sum * packFields bs := by
  induction as with
  | nil => simp [packFields]
  | cons a as ih =>
    obtain ⟨w, v⟩ := a
    simp only [List.cons_append, packFields, ih, List.map_cons, List.sum_cons, pow_add]
    ring

theorem packFields_lt (fs : List (Nat × Nat)) : packFields fs < 2 ^ (fs.map (·.1)).sum := by
  induction fs with
  | nil => simp [packFields]
  | cons a fs ih =>
    obtain ⟨w, v⟩ := a
    have hv : v % 2 ^ w < 2 ^ w := Nat.mod_lt _ (by positivity)
    have hm := Nat.mul_le_mul_left (2 ^ w) (Nat.succ_le_of_lt ih)
    simp only [packFields, List.map_cons, List.sum_cons, pow_add]
    rw [Nat.mul_succ] at hm
    omega

/-- A field stands at the sum of the widths before it. -/
theorem packFields_place (as bs : List (Nat × Nat)) (w v : Nat) :
    packFields (as ++ (w, v) :: bs) / 2 ^ (as.map (·.1)).sum % 2 ^ w = v % 2 ^ w := by
  rw [packFields_append, Nat.add_mul_div_left _ _ (by positivity), Nat.div_eq_of_lt (packFields_lt as), Nat.zero_add]
  simp [packFields]

/-- The bits of a response's data that hold a field hold its value. -/
theorem packData_place (as bs : List (Nat × Nat)) (w v : Nat) (h : (as.map (·.1)).sum + w ≤ 72) :
    ((packData (as ++ (w, v) :: bs)).extractLsb' (as.map (·.1)).sum w).toNat = v % 2 ^ w := by
  rw [← packFields_place as bs w v, packData, BitVec.extractLsb'_toNat, BitVec.toNat_ofNat, Nat.shiftRight_eq_div_pow]
  obtain ⟨k, hk⟩ := Nat.exists_eq_add_of_le h
  rw [show 2 ^ 72 = 2 ^ (as.map (·.1)).sum * (2 ^ w * 2 ^ k) by rw [← pow_add, ← pow_add, hk, Nat.add_assoc],
    Nat.mod_mul_right_div_self, Nat.mod_mul_right_mod]

/-- Data bits past the last field read 0. -/
theorem packData_rest (fs : List (Nat × Nat)) (start w : Nat) (h : (fs.map (·.1)).sum ≤ start) :
    ((packData fs).extractLsb' start w).toNat = 0 := by
  have hlt := lt_of_lt_of_le (packFields_lt fs) (Nat.pow_le_pow_right (by decide) h)
  rw [packData, BitVec.extractLsb'_toNat, BitVec.toNat_ofNat, Nat.shiftRight_eq_div_pow,
    Nat.div_eq_of_lt (lt_of_le_of_lt (Nat.mod_le _ _) hlt), Nat.zero_mod]

end Sys2Proof.Machine
end

