-- ==== Sys2Proof/Laws/Scheduler.lean ====
section
/-! SUPPORT. What the lock table, the scheduler and the windows can reach: one frame law for each shared operation.
`outside s` is s with everything blanked that drives, queues and their notices may change; an operation that keeps it
changes nothing else. -/

namespace Sys2Proof.Machine

open Sys2Proof

/-- A port without its pending set. -/
def PortRec.quiet (p : PortRec) : PortRec := { p with pending := 0#16 }

/-- The state less the lock table, the strokes, the windows, the queue, the admitted jobs, the job numbers, the units,
the crash slot, the triggers and the pending sets. -/
def outside (s : State) : State :=
  { s with
    attemptDue := false
    table := State.reset.table
    strokes := []
    windows := State.reset.windows
    queue := []
    admitted := []
    nextId := 0
    units := 0
    nearFull := false
    slot := CrashSlot.closed
    ports := ⟨s.ports.m.quiet, s.ports.e.quiet⟩ }

/-! ## What equal outsides say -/

section
variable {s t : State} (h : outside t = outside s)
include h

theorem outside_pending : t.pending = s.pending := (congrArg State.pending h :)
theorem outside_schedule : t.schedule = s.schedule := (congrArg State.schedule h :)
theorem outside_phase : t.phase = s.phase := (congrArg State.phase h :)
theorem outside_now : t.now = s.now := (congrArg State.now h :)
theorem outside_pins : t.pins = s.pins := (congrArg State.pins h :)
theorem outside_params : t.params = s.params := (congrArg State.params h :)
theorem outside_store : t.store = s.store := (congrArg State.store h :)
theorem outside_writer : t.writer = s.writer := (congrArg State.writer h :)
theorem outside_keyLock : t.keyLock = s.keyLock := (congrArg State.keyLock h :)
theorem outside_entry : t.entry = s.entry := (congrArg State.entry h :)
theorem outside_relock : t.relock = s.relock := (congrArg State.relock h :)
theorem outside_spent : t.spent = s.spent := (congrArg State.spent h :)
theorem outside_fobs : t.fobs = s.fobs := (congrArg State.fobs h :)
theorem outside_hold : t.hold = s.hold := (congrArg State.hold h :)
theorem outside_search : t.search = s.search := (congrArg State.search h :)
theorem outside_crash : t.crash = s.crash := (congrArg State.crash h :)

/-- A port keeps all but its pending set. -/
theorem outside_port (p : Port) : (t.port p).quiet = (s.port p).quiet := by
  cases p
  · exact congrArg (fun x => x.ports.m) h
  · exact congrArg (fun x => x.ports.e) h

theorem outside_slot (p : Port) : (t.port p).slot = (s.port p).slot := (congrArg PortRec.slot (outside_port h p) :)
theorem outside_inFlight (p : Port) : (t.port p).inFlight = (s.port p).inFlight :=
  (congrArg PortRec.inFlight (outside_port h p) :)
theorem outside_mask (p : Port) : (t.port p).mask = (s.port p).mask := (congrArg PortRec.mask (outside_port h p) :)
theorem outside_cursor (p : Port) : (t.port p).cursor = (s.port p).cursor := (congrArg PortRec.cursor (outside_port h p) :)
theorem outside_transfer (p : Port) : (t.port p).transfer = (s.port p).transfer :=
  (congrArg PortRec.transfer (outside_port h p) :)

end

/-! ## Folds -/

theorem outside_foldl {α : Type} (f : State → α → State) (h : ∀ s a, outside (f s a) = outside s) (l : List α)
    (s : State) : outside (l.foldl f s) = outside s := by
  induction l generalizing s with
  | nil => rfl
  | cons a l ih => rw [List.foldl_cons, ih, h]

/-! ## The records and the queue -/

@[simp] theorem outside_raise (k : Notice) (s : State) : outside (raise k s) = outside s := rfl
@[simp] theorem outside_trigger (s : State) : outside (trigger s) = outside s := rfl
@[simp] theorem outside_takeTriggers (s : State) : outside (takeTriggers s) = outside s := rfl
@[simp] theorem outside_setAct (a : Act) (r : ActRec) (s : State) : outside (s.setAct a r) = outside s := by
  cases a <;> rfl
@[simp] theorem outside_setWin (w : Win) (r : Window) (s : State) : outside (s.setWin w r) = outside s := rfl
@[simp] theorem outside_tookId (s : State) : outside s.tookId = outside s := rfl
@[simp] theorem outside_dropAdmitted (id : Nat) (s : State) : outside (dropAdmitted id s) = outside s := rfl

@[simp] theorem outside_setQueue (q : List Job) (s : State) : outside (s.setQueue q) = outside s := by
  unfold State.setQueue
  split
  · rfl
  · split <;> rfl

@[simp] theorem outside_enterQueue (j : Job) (s : State) : outside (enterQueue j s) = outside s := by
  simp [enterQueue]
@[simp] theorem outside_takeFromQueue (id : Nat) (s : State) : outside (takeFromQueue id s) = outside s := by
  simp [takeFromQueue]
@[simp] theorem outside_removeFromQueue (id : Nat) (s : State) : outside (removeFromQueue id s) = outside s := by
  simp [removeFromQueue]
@[simp] theorem outside_changeQueued (k : Job → Bool) (f : Job → Job) (s : State) :
    outside (changeQueued k f s) = outside s := by simp [changeQueued]
@[simp] theorem outside_dropQueued (a : Act) (s : State) : outside (dropQueued a s) = outside s := by
  simp only [dropQueued]
  split <;> simp

/-! ## The lock table and the strokes -/

@[simp] theorem outside_setPosition (a : Act) (p : Position) (s : State) :
    outside (setPosition a p s) = outside s := by
  unfold setPosition
  split <;> simp
@[simp] theorem outside_setFault (a : Act) (f : LockFault) (s : State) : outside (setFault a f s) = outside s := by
  simp only [setFault]
  split <;> simp
@[simp] theorem outside_setAttempts (a : Act) (n : Nat) (s : State) : outside (setAttempts a n s) = outside s := by
  simp [setAttempts]
@[simp] theorem outside_setActivity (a : Act) (x : Activity) (s : State) :
    outside (setActivity a x s) = outside s := by simp [setActivity]
@[simp] theorem outside_resumeAs (a : Act) (x : Activity) (s : State) : outside (resumeAs a x s) = outside s := by
  simp only [resumeAs]
  split <;> simp
@[simp] theorem outside_leaveSlot (a : Act) (s : State) : outside (leaveSlot a s) = outside s := by
  cases a <;> rfl
@[simp] theorem outside_joinWaiting (a : Act) (s : State) : outside (joinWaiting a s) = outside s := by
  cases a <;> rfl
@[simp] theorem outside_finalFailure (a : Act) (f : LockFault) (s : State) :
    outside (finalFailure a f s) = outside s := by simp [finalFailure]
@[simp] theorem outside_abandonRetry (a : Act) (x : Activity) (s : State) :
    outside (abandonRetry a x s) = outside s := by simp [abandonRetry]
@[simp] theorem outside_meetQueued (a : Act) (s : State) : outside (meetQueued a s) = outside s := by
  unfold meetQueued
  split
  · split
    · split <;> simp
    · rfl
  · rfl
@[simp] theorem outside_enterOrdinaryWait (a : Act) (f : LockFault) (g : Goal) (j : Job) (s : State) :
    outside (enterOrdinaryWait a f g j s) = outside s := by simp [enterOrdinaryWait]
@[simp] theorem outside_enterCrashWait (a : Act) (f : LockFault) (s : State) :
    outside (enterCrashWait a f s) = outside s := by simp [enterCrashWait]
@[simp] theorem outside_failAttempt (st : Stroke) (m : Member) (f : LockFault) (s : State) :
    outside (failAttempt st m f s) = outside s := by
  unfold failAttempt
  split
  · split
    · simp
    · split
      · split <;> simp
      · simp
  · simp
@[simp] theorem outside_beginMember (a : Act) (s : State) : outside (beginMember a s) = outside s := by
  simp [beginMember]
@[simp] theorem outside_startStroke (job : Option Nat) (grp : Group) (g : Goal) (n : Nat) (as : List Act) (s : State) :
    outside (startStroke job grp g n as s) = outside s := by
  unfold startStroke
  split
  · rfl
  · exact outside_foldl _ (fun _ _ => outside_beginMember _ _) _ _
@[simp] theorem outside_verifyMember (st : Stroke) (s : State) (m : Member) :
    outside (verifyMember st s m) = outside s := by
  unfold verifyMember
  split <;> simp
@[simp] theorem outside_settleJob (job : Option Nat) (s : State) : outside (settleJob job s) = outside s := by
  unfold settleJob
  split
  · rfl
  · split <;> simp
@[simp] theorem outside_removeStroke (st : Stroke) (s : State) : outside (removeStroke st s) = outside s := rfl
@[simp] theorem outside_endStroke (st : Stroke) (s : State) : outside (endStroke st s) = outside s := by
  simp [endStroke, outside_foldl _ (outside_verifyMember st)]
@[simp] theorem outside_overcurrentMember (st : Stroke) (s : State) (m : Member) :
    outside (overcurrentMember st s m) = outside s := by simp [overcurrentMember]
@[simp] theorem outside_cutGroup (g : Group) (s : State) : outside (cutGroup g s) = outside s := by
  simp only [cutGroup]
  split
  · rfl
  · simp [outside_foldl _ (fun t (st : Stroke) => outside_settleJob st.job t),
      outside_foldl _ (fun t (st : Stroke) => outside_removeStroke st t),
      outside_foldl _ (fun t (st : Stroke) => outside_foldl _ (outside_overcurrentMember st) st.members t)]
@[simp] theorem outside_checkOverload (g : Group) (s : State) : outside (checkOverload g s) = outside s := by
  unfold checkOverload
  split <;> simp
@[simp] theorem outside_releaseAct (a : Act) (x : Activity) (s : State) :
    outside (releaseAct a x s) = outside s := by simp [releaseAct]
@[simp] theorem outside_crashMember (s : State) (m : Member) : outside (crashMember s m) = outside s := by
  simp [crashMember]
@[simp] theorem outside_returnChildren (st : Stroke) (job : Option Job) (s : State) :
    outside (returnChildren st job s) = outside s := by
  simp only [returnChildren]
  split
  · rfl
  · split
    · rfl
    · simp [outside_foldl _ (fun t (a : Act) => outside_setActivity a .QUEUED t)]
@[simp] theorem outside_crashCutStroke (s : State) (st : Stroke) : outside (crashCutStroke s st) = outside s := by
  simp [crashCutStroke, outside_foldl _ outside_crashMember]
@[simp] theorem outside_crashCut (s : State) : outside (crashCut s) = outside s :=
  outside_foldl _ outside_crashCutStroke _ _

/-! ## Windows -/

@[simp] theorem outside_stopWindow (w : Win) (c : Option Continuation) (s : State) :
    outside (stopWindow w c s) = outside s := rfl
@[simp] theorem outside_dropContinuation (w : Win) (s : State) : outside (dropContinuation w s) = outside s := rfl
@[simp] theorem outside_setWindowFault (w : Win) (f : WindowFault) (s : State) :
    outside (setWindowFault w f s) = outside s := rfl
@[simp] theorem outside_idleWindow (w : Win) (s : State) : outside (idleWindow w s) = outside s := by
  simp only [idleWindow]
  split <;> simp
@[simp] theorem outside_removeWindowJob (w : Win) (s : State) : outside (removeWindowJob w s) = outside s := by
  simp only [removeWindowJob]
  split
  · rfl
  · split <;> simp
@[simp] theorem outside_overcurrentWindow (w : Win) (s : State) : outside (overcurrentWindow w s) = outside s := rfl
@[simp] theorem outside_startDrive (w : Win) (run : RunState) (mode : RunMode) (dir : Dir) (target : Option Nat)
    (cmd : Option Commander) (s : State) : outside (startDrive w run mode dir target cmd s) = outside s := by
  simp only [startDrive]
  split <;> simp
@[simp] theorem outside_startRun (t : WindowTask) (s : State) : outside (startRun t s) = outside s := by
  simp [startRun]
@[simp] theorem outside_startReversal (w : Win) (c : Continuation) (s : State) :
    outside (startReversal w c s) = outside s := by simp [startReversal]
@[simp] theorem outside_endBraking (w : Win) (s : State) : outside (endBraking w s) = outside s := by
  have u : ∀ (n : Nat) (x : State), outside { x with units := n } = outside x := fun _ _ => rfl
  simp only [endBraking]
  cases (s.win w).job <;> simp only [] <;> split <;> first | (split <;> simp [u]) | simp [u]
@[simp] theorem outside_brakingOver (w : Win) (s : State) : outside (brakingOver w s) = outside s := by
  unfold brakingOver
  split
  · split
    · simp
    · split <;> simp
  · simp
@[simp] theorem outside_thermalHold (w : Win) (s : State) : outside (thermalHold w s) = outside s := by
  simp only [thermalHold, outside_removeWindowJob]
  split
  · simp
  · split <;> simp
@[simp] theorem outside_thermalClear (w : Win) (s : State) : outside (thermalClear w s) = outside s := rfl
@[simp] theorem outside_testHold (w : Win) (s : State) : outside (testHold w s) = outside s := by
  simp only [testHold]
  split
  · simp
  · split <;> simp
@[simp] theorem outside_haltWindow (w : Win) (s : State) : outside (haltWindow w s) = outside s := by
  simp only [haltWindow]
  split
  · simp
  · split <;> simp
@[simp] theorem outside_haltAllWindows (s : State) : outside (haltAllWindows s) = outside s :=
  outside_foldl _ (fun t w => outside_haltWindow w t) _ _
@[simp] theorem outside_removeAllWindowJobs (s : State) : outside (removeAllWindowJobs s) = outside s :=
  outside_foldl _ (fun t w => outside_removeWindowJob w t) _ _
@[simp] theorem outside_undervoltageStop (w : Win) (s : State) : outside (undervoltageStop w s) = outside s := by
  simp only [undervoltageStop]
  split <;> simp

/-! ## Admission -/

@[simp] theorem outside_dropAct (a : Act) (s : State) : outside (dropAct a s) = outside s := by simp [dropAct]
@[simp] theorem outside_admitLock (j : Job) (g : Goal) (as rem : List Act) (s : State) :
    outside (admitLock j g as rem s) = outside s := by
  have u : ∀ (l : List Job) (x : State), outside { x with admitted := l } = outside x := fun _ _ => rfl
  simp only [admitLock]
  split <;> simp [u, outside_foldl _ (fun t (a : Act) => outside_dropAct a t)]
@[simp] theorem outside_rejectWindowJob (j : Job) (w : Win) (s : State) :
    outside (rejectWindowJob j w s) = outside s := by
  simp only [rejectWindowJob]
  split <;> simp
@[simp] theorem outside_admitWindow (j : Job) (t : WindowTask) (s : State) :
    outside (admitWindow j t s) = outside s := by
  have u : ∀ (l : List Job) (n : Nat) (x : State), outside { x with admitted := l, units := n } = outside x :=
    fun _ _ _ => rfl
  simp [admitWindow, u]
@[simp] theorem outside_requeueComfort (w : Win) (c : Commander) (s : State) :
    outside (requeueComfort w c s) = outside s := by
  simp only [requeueComfort]
  split <;> simp
@[simp] theorem outside_shedWindow (w : Win) (s : State) : outside (shedWindow w s) = outside s := by
  simp only [shedWindow]
  split <;> simp
@[simp] theorem outside_shedRuns (ws : List Win) (covered need : Nat) (s : State) :
    outside (shedRuns ws covered need s) = outside s := by
  induction ws generalizing covered s with
  | nil => rfl
  | cons w ws ih =>
    simp only [shedRuns]
    split
    · rfl
    · rw [ih, outside_shedWindow]
@[simp] theorem outside_shedFor (j : Job) (cost : Nat) (s : State) : outside (shedFor j cost s) = outside s := by
  simp only [shedFor]
  split
  · rfl
  · split <;> simp

theorem outside_visit {j : Job} {s t : State} (h : visit j s = .passed t) : outside t = outside s := by
  unfold visit at h
  split at h
  · simp only [visitLock] at h
    split at h
    · split at h
      · cases h
        simp
      · cases h
    · cases h
  · unfold visitWindow at h
    split at h
    · cases h
      simp
    · cases h
    · split at h
      · cases h
      · split at h
        · cases h
          simp
        · split at h
          · cases h
            simp
          · cases h

@[simp] theorem outside_scanJobs (ids : List Nat) (b : Bool) (s : State) :
    outside (scanJobs ids b s) = outside s := by
  induction ids generalizing b s with
  | nil => rfl
  | cons id ids ih =>
    simp only [scanJobs]
    split
    · exact ih _ _
    · split
      · rename_i h
        rw [ih, outside_visit h]
      · split
        · split <;> simp
        · rw [ih]
          split <;> simp

@[simp] theorem outside_scanQueue (s : State) : outside (scanQueue s) = outside s := outside_scanJobs _ _ _

@[simp] theorem outside_dropPending (l : Latch) (s : State) : outside (dropPending l s) = outside s := by
  have u : ∀ (c : CrashSlot) (x : State), outside { x with slot := c } = outside x := fun _ _ => rfl
  simp only [dropPending]
  split <;> simp [u]
@[simp] theorem outside_serveGroup (grp : Group) (s : State) : outside (serveGroup grp s) = outside s := by
  have u : ∀ (c : CrashSlot) (x : State), outside { x with slot := c } = outside x := fun _ _ => rfl
  simp only [serveGroup]
  split <;> simp [u]
@[simp] theorem outside_serveSlot (s : State) : outside (serveSlot s) = outside s := by
  simp [serveSlot, outside_foldl _ (fun t (l : Latch) => outside_dropPending l t)]
@[simp] theorem outside_closeSlot (s : State) : outside (closeSlot s) = outside s := rfl
@[simp] theorem outside_attempt (s : State) : outside (attempt s) = outside s := by
  simp only [attempt]
  split
  · split <;> simp
  · simp

@[simp] theorem outside_settleFuel (n : Nat) (s : State) : outside (settleFuel n s) = outside s := by
  induction n generalizing s with
  | zero => rfl
  | succ n ih =>
    unfold settleFuel
    split
    · simp [ih]
    · rfl

@[simp] theorem outside_closeDue (s : State) : outside (closeDue s) = outside s := by
  unfold closeDue
  split <;> simp

/-- The admission attempt of an event reaches only what is blanked in `outside` (R96 to R104, R109). -/
@[simp] theorem outside_settle (s : State) : outside (settle s) = outside s := by simp [settle]

/-! ## Requests -/

@[simp] theorem outside_queueAct (a : Act) (s : State) : outside (queueAct a s) = outside s := by
  unfold queueAct
  split <;> simp
@[simp] theorem outside_keepOut (a : Act) (s : State) : outside (keepOut a s) = outside s := by
  unfold keepOut
  split <;> simp

theorem outside_meetWait (g : Goal) (f : Forming) (a : Act) :
    outside (meetWait g f a).state = outside f.state := by
  unfold meetWait
  split
  · split
    · split <;> rfl
    · simp
  · rfl

theorem outside_meetJob (g : Goal) (f : Forming) (a : Act) :
    outside (meetJob g f a).state = outside f.state := by
  unfold meetJob
  split
  · split <;> (split <;> simp)
  · rfl

theorem outside_forming (step : Forming → Act → Forming)
    (h : ∀ f a, outside (step f a).state = outside f.state) (l : List Act) (f : Forming) :
    outside (l.foldl step f).state = outside f.state := by
  induction l generalizing f with
  | nil => rfl
  | cons a l ih => rw [List.foldl_cons, ih, h]

theorem outside_mergeRequest (g : Goal) (as : List Act) (s : State) :
    outside (mergeRequest g as s).state = outside s := by
  simp only [mergeRequest]
  rw [outside_forming _ (outside_meetJob g), outside_forming _ (outside_meetWait g)]

/-- The forming of a latch or child job reaches the lock table and the queue alone (R9, R23, R90 to R92). -/
@[simp] theorem outside_formJob (o : Origin) (g : Goal) (as : List Act) (s : State) :
    outside (formJob o g as s).2 = outside s := by
  simp only [formJob]
  split
  · exact outside_mergeRequest g as s
  · split
    · rw [outside_foldl _ (fun t (a : Act) => outside_keepOut a t), outside_mergeRequest]
    · rw [outside_foldl _ (fun t (a : Act) => outside_queueAct a t), outside_enterQueue, outside_tookId,
        outside_mergeRequest]

@[simp] theorem outside_newWindowJob (t : WindowTask) (p : Priority) (s : State) :
    outside (newWindowJob t p s).2 = outside s := by
  simp only [newWindowJob]
  split
  · rfl
  · split <;> simp
@[simp] theorem outside_replaceJob (j : Job) (t : WindowTask) (p : Priority) (s : State) :
    outside (replaceJob j t p s).2 = outside s := by
  simp only [replaceJob]
  split <;> simp
@[simp] theorem outside_takeOver (t : WindowTask) (s : State) : outside (takeOver t s) = outside s := by
  simp [takeOver]

/-- A window request reaches the window and the queue alone (R45, R90, R94). -/
@[simp] theorem outside_requestWindow (t : WindowTask) (p : Priority) (s : State) :
    outside (requestWindow t p s).2 = outside s := by
  simp only [requestWindow]
  split
  · simp
  · split
    · rfl
    · split <;> simp
  · split
    · rfl
    · split <;> simp
  · split
    · rfl
    · split
      · rfl
      · split
        · simp
        · split <;> simp
  · rfl

/-! ## The end of an event -/

/-- The start of a write changes the writer alone (R178). -/
theorem pump_writer (s : State) : pump s = { s with writer := (pump s).writer } := by
  unfold pump
  split
  · rfl
  · split
    · rfl
    · split
      · rfl
      · split <;> rfl

/-- An event's end reaches what `outside` blanks, and the writer (R96, R178). -/
theorem outside_finish (s : State) :
    outside (finish s) = { outside s with writer := (finish s).writer } := by
  unfold finish
  rw [pump_writer (settle s)]
  have h := outside_settle s
  calc outside { settle s with writer := (pump (settle s)).writer }
      = { outside (settle s) with writer := (pump (settle s)).writer } := rfl
    _ = _ := by rw [h]

end Sys2Proof.Machine
end

