-- ==== Sys2Proof/Tests/Slice0.lean ====
section
/-! SUPPORT. The model's own tests: an ill-formed command for each check of WellFormed, frames written out byte by byte,
values worked out in the manual, and for each statement with hypotheses a state and operands that meet them. -/

namespace Sys2Proof.Tests

open Sys2Proof Sys2Proof.Machine

/-! ## Well-formed commands -/

theorem test_wf_refuses_supply : (Instr.supplySample 24001).wf = false := by decide
theorem test_wf_takes_supply : (Instr.supplySample 24000).wf = true := by decide
theorem test_wf_refuses_power_on_supply :
    (Instr.powerOnReset { Config.restPins with supply := 24001 }).wf = false := by decide
theorem test_wf_refuses_short_period : (Instr.qualifiedEdge .WFL .A 99).wf = false := by decide
theorem test_wf_refuses_job_0 : (Instr.strokeEnd (some 0) .DOOR).wf = false := by decide
theorem test_wf_refuses_job_256 : (Instr.jobTurnsBlocking 256).wf = false := by decide
theorem test_wf_refuses_untouched_latch : (Instr.holdOffEnd .RL).wf = false := by decide
theorem test_wf_refuses_reading_of_job_0 : (Instr.readingExpired (.enqueue 0)).wf = false := by decide
theorem test_wf_refuses_stroke_of_job_256 :
    (Instr.readingExpired (.started (some 256) .TAIL)).wf = false := by decide

/-! ## Frames (R160, R165), byte by byte -/

/-- LATCH_REQUEST, set FL and TG, target UNLOCK: code 0x11, set 0x11, target 2, check 255 - 36. -/
theorem test_frame_latch_request :
    decodeFrame .M [0x11#8, 0x11#8, 2#8, 0#8, 0#8, 0#8, 0#8, 0#8, 0#8, 0#8, 0#8, 0xDB#8] =
      some (.latchRequest .M 0x11#8 2#8) := by decide

/-- WINDOW_REQUEST, WRL, GOTO, position 0x0123 with its low byte first. -/
theorem test_frame_window_request :
    decodeFrame .M [0x21#8, 2#8, 2#8, 0x23#8, 0x01#8, 0#8, 0#8, 0#8, 0#8, 0#8, 0#8, 0xB6#8] =
      some (.windowRequest .M 2#8 2#8 0x0123#16) := by decide

/-- PRESENT on Port E: identity 0x04030201, counter 0x070605, button PASSIVE, tag 9. -/
theorem test_frame_present :
    decodeFrame .E [0x30#8, 1#8, 2#8, 3#8, 4#8, 5#8, 6#8, 7#8, 3#8, 9#8, 0#8, 0xA7#8] =
      some (.present .E 0x04030201#32 0x070605#24 3#8 9#8) := by decide

/-- SET_PARAM, RELOCK_TIME, value 60. -/
theorem test_frame_set_param :
    decodeFrame .M [0x50#8, 5#8, 60#8, 0#8, 0#8, 0#8, 0#8, 0#8, 0#8, 0#8, 0#8, 0x6E#8] =
      some (.setParam .M 5#8 60#16) := by decide

theorem test_frame_bad_check :
    decodeFrame .M (List.replicate 12 0#8) = none := by decide

theorem test_frame_nop :
    decodeFrame .E (List.replicate 11 0#8 ++ [0xFF#8]) = some (.nop .E) := by decide

theorem test_frame_unknown_code :
    decodeFrame .M (0x72#8 :: (List.replicate 10 0#8 ++ [0x8D#8])) = none := by decide

theorem test_port_e_commands : permittedOn .E 0x11#8 = false ∧ permittedOn .E 0x51#8 = true ∧
    permittedOn .M 0x31#8 = false := by decide

/-! ## Values of the manual -/

/-- R71, R80: the quarter step rounds toward zero on both sides. -/
theorem test_quarter_step : quarterStep 100 107 = 101 ∧ quarterStep 107 100 = 106 ∧ quarterStep 100 97 = 100 := by
  decide

/-- R70: 2000 us at 12 V is 1777; the period saturates. -/
theorem test_normalized_period : normalizedPeriod 2000 12000 = 1777 ∧ normalizedPeriod 65535 18000 = 65535 := by
  decide

/-- R72: the zones of the ends of a travel. -/
theorem test_zone_ends : zoneOf 0 400 = 0 ∧ zoneOf 399 400 = 31 ∧ zoneOf 400 400 = 31 := by decide

/-- R179: clamping into range, down to a multiple of 10, and RELOCK_TIME 0 kept. -/
theorem test_clamping : paramClamp .STROKE_TIME 157 = 150 ∧ paramClamp .STROKE_TIME 9999 = 400 ∧
    paramClamp .RELOCK_TIME 0 = 0 ∧ paramClamp .RELOCK_TIME 5 = 10 ∧ paramClamp .DRIVE_BUDGET 9 = 10 := by decide

/-- R88, R134: job ids and tags go from 255 to 1. -/
theorem test_ids_wrap : succId 255 = 1 ∧ succTag 255 = 1 ∧ succId 41 = 42 := by decide

/-- R9: TG under a DEADLOCK job is carried to LOCKED in STROKE_TIME. -/
theorem test_deadlock_of_tailgate : strokeTarget .DEADLOCK (.latch .TG) = .LOCKED ∧
    strokeDuration Params.defaults .DEADLOCK (.latch .TG) .UNLOCKED = 150 ∧
    strokeDuration Params.defaults .DEADLOCK (.latch .FL) .LOCKED = 250 := by decide

/-! ## States for the witnesses -/

/-- A timer of a span that ends at the running time 0. -/
def due (span : Nat) : Timer := ⟨0#32 - timeOf span, span⟩

def rest : State := State.reset

/-- The state an event leaves; the state itself where it stops. -/
def after (i : Instr) (s : State) : State :=
  match exec i s with
  | .next t => t
  | _ => s

def actAs (a : Act) (f : ActRec → ActRec) : State := rest.setAct a (f (rest.act a))

def winAs (w : Win) (f : Window → Window) : State := rest.setWin w (f (rest.win w))

def runningUp (r : Window) : Window :=
  { r with
    run := .RUNNING
    mode := .AUTO
    dir := .UP
    normalized := true
    P := 100
    job := some 1
    stallT := some (due 128)
    commander := some ⟨.PORT_M, 2⟩ }

def runningDown (r : Window) : Window := { runningUp r with dir := .DOWN }

def fobAs (c : Nat) : State :=
  rest.setFob 0 { FobSlot.empty with status := .ACTIVE, identity := 77#32, C := c, storedC := c }

theorem rest_calm : calm rest := ⟨rfl, fun h => absurd h (by decide), Or.inr ⟨rfl, by decide, by decide⟩⟩

theorem rest_operating : operating rest := Or.inl rfl

theorem rest_locks : restingLocks rest := by
  refine ⟨rfl, rfl, rfl, rfl, rfl, rfl, ?_⟩
  intro a
  rcases a with l | c
  · cases l <;> decide
  · cases c <;> decide

theorem rest_listens (p : Port) : listening p rest := by
  cases p <;> exact ⟨rest_operating, rfl⟩

/-- Any state that differs from `rest` outside the five fields of `calm` is calm. -/
theorem like_rest {s : State} (ha : s.attemptDue = false) (hs : s.slot = rest.slot) (hk : s.strokes = [])
    (hw : s.writer = rest.writer) (hf : s.fobs = rest.fobs) : calm s :=
  calm_congr ha hs hk hw hf rest_calm

theorem forall_win {P : Win → Prop} (h : P .WFL ∧ P .WFR ∧ P .WRL ∧ P .WRR) : ∀ w, P w := by
  intro w
  cases w
  exacts [h.1, h.2.1, h.2.2.1, h.2.2.2]

theorem forall_act {P : Act → Prop} (h : P (.latch .FL) ∧ P (.latch .FR) ∧ P (.latch .RL) ∧ P (.latch .RR) ∧
    P (.latch .TG) ∧ P (.child .CRL) ∧ P (.child .CRR)) : ∀ a, P a := by
  obtain ⟨fl, fr, rl, rr, tg, cl, cr⟩ := h
  rintro (l | c)
  · cases l <;> assumption
  · cases c <;> assumption

theorem forall_latch {P : Latch → Prop} (h : P .FL ∧ P .FR ∧ P .RL ∧ P .RR ∧ P .TG) : ∀ l, P l := by
  intro l
  cases l
  exacts [h.1, h.2.1, h.2.2.1, h.2.2.2.1, h.2.2.2.2]

/-! ## Single steps of the manual's worked examples -/

/-- The tail group of chapter 2's example: job 7 locks TG, job 8 engages CRL alone, and job 9 waits for its polarity. -/
def tailAt0 : State :=
  after (.latchRequest .M 0x10#8 0#8)
    { rest.setAct (.child .CRR) { rest.act (.child .CRR) with state := .ENGAGED } with nextId := 7 }

def tailAt40 : State := after .childSafetyButton { tailAt0 with now := 40#32 }

theorem test_tail_at_0 : tailAt0.commonBridge .TAIL = .HIGH ∧ tailAt0.bridge (.latch .TG) = .LOW ∧ tailAt0.units = 2 ∧
    tailAt0.strokes.map (·.job) = [some 7] := by decide

theorem test_tail_at_40 : tailAt40.bridge (.child .CRL) = .LOW ∧ tailAt40.bridge (.child .CRR) = .OFF ∧
    tailAt40.units = 3 ∧ tailAt40.strokes.map (·.job) = [some 7, some 8] := by decide

theorem test_tail_at_60 :
    let t := after (.childRequest .M 2#8 1#8) { tailAt40 with now := 60#32 }
    (t.act (.child .CRR)).activity = .QUEUED ∧ t.polarity .TAIL = .PLUS ∧ t.units = 3 ∧ t.queue.map (·.id) = [9] := by
  decide

/-- R115: a counter 64 above the last is taken, and 65 above asks for a second press. -/
theorem test_present_window :
    ((after (.present .E 77#32 564#24 1#8 0#8) (fobAs 500)).fob 0).C = 564 := by decide

theorem test_present_resync :
    ((after (.present .E 77#32 565#24 1#8 0#8) (fobAs 500)).fob 0).C = 500 ∧
      ((after (.present .E 77#32 565#24 1#8 0#8) (fobAs 500)).fob 0).candidate.map (·.counter) = some 565 := by
  decide

/-! ## Witnesses: states and operands that meet the hypotheses of each statement -/

theorem witness_StepRunsTheFrontCommand :
    ({ rest with pending := [.portsEnabled] } : State).pending = .portsEnabled :: [] := rfl

/-- A tally timer that is due is the one expiry due; at rest none is, in standby neither. -/
theorem witness_IdleStepTakesExpiryOrTick :
    rest.pending = [] ∧ dueNow rest = [] ∧ rest.phase ≠ .LOADING ∧ ({ rest with phase := .STANDBY } : State).phase ≠ .LOADING ∧
      dueNow (winAs .WFL (fun r => { r with tallyT := some (due 10000) })) = [.tallyTimerExpiry .WFL] := by
  decide

theorem witness_ExpiryComesAtItsMoment :
    isExpiry .quietTimerExpiry = true ∧ timerOf .quietTimerExpiry rest = some ⟨0#32, 10000⟩ ∧ rest.phase ≠ .LOADING ∧
      isExpiry .relockTimerExpiry = true ∧ timerOf .relockTimerExpiry rest = none ∧ calm rest :=
  ⟨rfl, rfl, by decide, rfl, rfl, rest_calm⟩

/-- A transfer that a power-on reset finds under way goes on undriven. -/
theorem witness_PortsEnabledEndsTheLoad :
    let s := powerOn .LOADING Config.restPins (after (.transferBegin .M) rest)
    s.phase = .LOADING ∧ (s.port .M).transfer = some ⟨false, false, Response.blank⟩ ∧ rest.phase ≠ .LOADING ∧
      s.pins.crashIn ≠ true ∧ s.crash.line = .INACTIVE ∧
      (powerOn .LOADING { Config.restPins with crashIn := true } rest).pins.crashIn ≠ false ∧
      (powerOn .LOADING { Config.restPins with crashIn := true } rest).crash.line ≠ .INACTIVE :=
  ⟨rfl, rfl, by decide⟩

/-- R148: the latch that the first sampled level set stays SET where CRASH_IN goes inactive during the load. -/
theorem test_first_level_sets_the_latch :
    let s := powerOn .LOADING { Config.restPins with crashIn := true } rest
    let t := after .portsEnabled (after (.crashInChange false) s)
    s.crash.latch = true ∧ t.phase = .ACTIVE ∧ t.crash.latch = true ∧ t.crash.line = .INACTIVE ∧
      t.pins.crashIn = false := by decide

/-- Slot 1 repeats slot 0's identity, slot 2 fails its check, slot 0 is ACTIVE. -/
def someSlots : Vector StoredSlot 8 :=
  ((Store.factory.slots.set 0 (storedSlot ⟨true, 77#32, 5⟩)).set 1 (storedSlot ⟨true, 77#32, 9⟩)).set 2
    ⟨⟨true, 8#32, 1⟩, 0#8⟩

/-- R177: the check byte of an ACTIVE slot with identity 77 and counter 5 is 255 less 1, 77 and 5, and every item of the
factory store passes its check. -/
theorem test_item_checks : (storedSlot ⟨true, 77#32, 5⟩).check = 172#8 ∧
    (⟨⟨true, 77#32, 5⟩, 171#8⟩ : StoredSlot).ok = false ∧ Store.factory.params.ok = true ∧
    (Store.factory.slots[(7 : Fin 8)]).ok = true := by decide

theorem test_factory_profiles : ∀ w, (Store.factory.profiles.get w).ok = true := by
  rintro (_ | _ | _ | _) <;> exact (congrArg StoredProfile.ok factory_profile).trans (storedProfile_ok _)

theorem witness_LoadedSlotsAreUnique :
    (someSlots[(2 : Fin 8)]).ok = false ∧ (loadedFobs someSlots)[(0 : Fin 8)].status = .ACTIVE ∧
      (loadedFobs someSlots)[(0 : Fin 8)].identity = (someSlots[(1 : Fin 8)]).identity ∧
      (someSlots[(1 : Fin 8)]).ok = true ∧ (someSlots[(1 : Fin 8)]).active = true ∧
      (someSlots[(0 : Fin 8)]).identity ≠ 0#32 ∧ (someSlots[(7 : Fin 8)]).ok = true ∧
      (someSlots[(7 : Fin 8)]).active = false := by decide

theorem witness_ContactChangeIsFollowed :
    operating rest ∧ calm rest ∧ contactLevel rest.pins (.lock .FL) ≠ true ∧
      follows (rest.act (contactAct (.lock .FL))).activity = true ∧
      decodeContacts (setContact (.lock .FL) true rest.pins) (.latch .FL) = some .LOCKED ∧
      contactLevel rest.pins (.dead .FL) ≠ true ∧
      decodeContacts (setContact (.dead .FL) true rest.pins) (.latch .FL) = none :=
  ⟨rest_operating, rest_calm, by decide, by decide, by decide, by decide, by decide⟩

def lockJob (id : Nat) : Job := ⟨id, .PORT_M, .lock .LOCK [.latch .FL], .USER, Reading.zero, false, false, 0⟩

def windowJob (id : Nat) : Job :=
  ⟨id, .PORT_M, .window ⟨.WFL, .AUTO, .DOWN, none, ⟨.PORT_M, 2⟩⟩, .USER, Reading.zero, false, false, 0⟩

def fullQueue : List Job := (List.range 16).map (fun k => windowJob (k + 1))

def crashed : State := { rest with crash := { rest.crash with latch := true } }

def stroking : State := actAs (.latch .FL) (fun r => { r with activity := .STROKING })

def waitingFor (p : Position) : RetryWait :=
  ⟨due 500, .NO_MOVE, some ⟨5, .RETRY, .lock (if p = .LOCKED then .LOCK else .UNLOCK) [.latch .FL], .USER, Reading.zero,
    false, false, 0⟩⟩

def waitingState (p : Position) : State :=
  actAs (.latch .FL) (fun r => { r with activity := .RETRY_WAIT, wait := some (waitingFor p) })

/-- While stroking; in a wait for UNLOCKED that a LOCKED contact leaves; and in one for LOCKED that it ends, with a queued
job naming the actuator. -/
theorem witness_ContactChangeWhileNotFollowing :
    let q : State := { waitingState .LOCKED with queue := [lockJob 7] }
    (calm stroking ∧ calm (waitingState .UNLOCKED) ∧ calm q) ∧
      (stroking.act (.latch .FL)).activity = .STROKING ∧ contactLevel (waitingState .UNLOCKED).pins (.lock .FL) ≠ true ∧
      (waitingState .UNLOCKED).act (.latch .FL) = { rest.act (.latch .FL) with
        activity := .RETRY_WAIT
        wait := some (waitingFor .UNLOCKED) } ∧
      decodeContacts (setContact (.lock .FL) true rest.pins) (.latch .FL) ≠
        some (waitTarget (.latch .FL) (waitingFor .UNLOCKED)) ∧
      decodeContacts (setContact (.lock .FL) true rest.pins) (.latch .FL) =
        some (waitTarget (.latch .FL) (waitingFor .LOCKED)) ∧
      (q.act (.latch .FL)).wait = some (waitingFor .LOCKED) ∧ q.slot.isOpen = false :=
  ⟨⟨like_rest rfl rfl rfl rfl rfl, like_rest rfl rfl rfl rfl rfl, like_rest rfl rfl rfl rfl rfl⟩, by decide⟩

theorem witness_AjarChangeFollowsItsContact :
    operating rest ∧ calm rest ∧ rest.pins.ajarOpen.get .TG ≠ true := ⟨rest_operating, rest_calm, by decide⟩

theorem witness_LockTableTimersExpire :
    timerDue 0#32 (due 100) = true ∧
      ((actAs (.latch .RR) (fun r => { r with invalidT := some (due 100) })).act (.latch Door.RR.latch)).invalidT =
        some (due 100) ∧
      (let s := actAs (.child .CRL) (fun r => { r with strokes := 1, decay := some (due 3000) });
        timerDue s.now (due 3000) = true ∧ (s.act (.child .CRL)).decay = some (due 3000) ∧
          (s.act (.child .CRL)).strokes ≠ 10) ∧
      (let s := actAs (.latch .FL) (fun r => { r with strokes := 10, decay := some (due 3000) });
        (s.act (.latch .FL)).decay = some (due 3000) ∧ (s.act (.latch .FL)).strokes = 10) := by decide

theorem witness_RequestFormsOneJob :
    (∀ a ∈ Act.latches, (rest.act a).wait = none ∧ rest.queuedFor a = none) ∧ rest.queue.length < 16 ∧
      (stroking.act (.latch .FL)).activity = .STROKING ∧ (stroking.act (.latch .FL)).wait = none ∧
      (fullQueue.take 13).length = 13 ∧ rest.queue.length < (fullQueue.take 14).length ∧ rest.nearFull = false ∧
      (fullQueue.take 13).length < ({ rest with queue := fullQueue.take 14 } : State).queue.length := by decide

/-- A queued job of the same target, a full queue, and the refusals of LATCH_REQUEST at the ends of its sets and targets. -/
theorem witness_RequestAbsorbedOrKeptOut :
    let a : State := { rest with queue := [lockJob 7] }
    let f : State := { rest with queue := fullQueue }
    let o : State := { rest with pins := { rest.pins with ajarOpen := rest.pins.ajarOpen.set .TG true } }
    ((a.act (.latch .FL)).wait = none ∧ a.queuedFor (.latch .FL) = some (lockJob 7) ∧ (lockJob 7).goal? = some .LOCK ∧
      sameGoal .LOCK .UNLOCK (.latch .FL) = false ∧ a.queue.length < 16 ∧
      f.queuedFor (.latch .FL) = none ∧ f.queue.length = 16 ∧ (f.act (.latch .FL)).activity ≠ .QUEUED ∧
      (31#8).toNat < 32 ∧ (32#8).toNat = 32 ∧ 31#8 ≠ 0#8 ∧ (3#8).toNat = 3 ∧ (1#8).toNat < 2 ∧ (2#8).toNat < 3 ∧
      o.crash.latch = false ∧ (∃ l ∈ Latch.all, o.pins.ajarOpen.get l = true)) ∧
    (listening .M f ∧ calm f ∧ listening .M o ∧ calm o ∧ listening .M crashed ∧ calm crashed ∧
      crashed.crash.latch = true) ∧
    (∀ l, f.pins.ajarOpen.get l = false) ∧
      ∀ l, (f.act (.latch l)).wait = none ∧ f.queuedFor (.latch l) = none ∧
        (f.act (.latch l)).activity ≠ .QUEUED := by
  exact ⟨by decide, ⟨⟨rest_operating, rfl⟩, like_rest rfl rfl rfl rfl rfl, ⟨rest_operating, rfl⟩,
    like_rest rfl rfl rfl rfl rfl, ⟨rest_operating, rfl⟩, like_rest rfl rfl rfl rfl rfl, rfl⟩, forall_latch (by decide),
    forall_latch (by decide)⟩

/-- The key's second turn comes 2999 ms after its first. -/
theorem witness_PanelAndKeyFormTheirJobs :
    operating rest ∧ calm rest ∧ rest.crash.latch = false ∧
      ¬((∃ r, rest.keyLock = some r ∧ ageAt rest.now r < 3000) ∧ ∀ l, rest.pins.ajarOpen.get l = false) ∧
      (let s : State := { rest with keyLock := some ⟨0#32 - timeOf 2999, false⟩ };
        (∃ r, s.keyLock = some r ∧ ageAt s.now r < 3000) ∧ ∀ l, s.pins.ajarOpen.get l = false) ∧
      calm crashed ∧ crashed.crash.latch = true :=
  ⟨rest_operating, rest_calm, rfl, (by rintro ⟨⟨r, h, -⟩, -⟩; exact nomatch (show none = some r from h)),
    ⟨⟨_, rfl, by decide⟩, forall_latch (by decide)⟩, like_rest rfl rfl rfl rfl rfl, rfl⟩

/-- Both sides RELEASED and asked to ENGAGE, and CRR alone ENGAGED and asked to RELEASE. -/
theorem witness_ChildRequestDrivesItsSides :
    let e := actAs (.child .CRR) (fun r => { r with state := .ENGAGED })
    listening .M rest ∧ calm rest ∧ restingLocks rest ∧ 3#8 ≠ 0#8 ∧ (3#8).toNat < 4 ∧
      (∀ a ∈ [Act.child .CRL, .child .CRR], (rest.act a).state = .RELEASED) ∧ rest.units = 0 ∧
      2 ≤ rest.params.driveBudget ∧ rest.pins.ocTail = false ∧
      listening .M e ∧ calm e ∧ (e.act (.child .CRR)).state = .ENGAGED ∧ (2#8).getLsbD 1 = true ∧
      (4#8).toNat = 4 ∧ (2#8).toNat = 2 :=
  ⟨rest_listens _, rest_calm, rest_locks, by decide, by decide, by decide, rfl, by decide, rfl,
    ⟨rest_operating, rfl⟩, like_rest rfl rfl rfl rfl rfl, by decide, by decide, by decide, by decide⟩

def allLocked (s : State) : State :=
  { s with table := { s.table with latches := ⟨.fresh .LOCKED, .fresh .LOCKED, .fresh .LOCKED, .fresh .LOCKED,
    .fresh .LOCKED⟩ } }

theorem allLocked_rests {s : State} (h : s.table.children = rest.table.children) (hq : s.queue = []) (hs : s.strokes = [])
    (hc : s.slot = CrashSlot.closed) : restingLocks (allLocked s) := by
  refine ⟨hq, hs, by rw [show (allLocked s).slot = s.slot from rfl, hc]; rfl,
    by rw [show (allLocked s).slot = s.slot from rfl, hc]; rfl,
    by rw [show (allLocked s).slot = s.slot from rfl, hc]; rfl,
    by rw [show (allLocked s).slot = s.slot from rfl, hc]; rfl, ?_⟩
  intro a
  rcases a with l | c
  · cases l <;> exact ⟨rfl, rfl, show 0 < strokeLimit by decide⟩
  · have e : (allLocked s).act (.child c) = rest.act (.child c) := by
      cases c <;> simp [State.act, allLocked, h]
    rw [e]
    cases c <;> exact ⟨rfl, rfl, by decide⟩

def relocking : State := { rest with relock := some (due 30000) }

/-- A COMFORT run of WRL, admitted as job 1, that holds the units a lock of all five needs. -/
def comforting : State :=
  { winAs .WRL (fun r => { runningUp r with mode := .COMFORT, profile := ⟨some 400, Vector.replicate 32 900⟩ }) with
    admitted := [{ windowJob 1 with targets := .window ⟨.WRL, .COMFORT, .UP, none, ⟨.PORT_M, 2⟩⟩ }]
    units := 4
    params := { rest.params with driveBudget := 12 } }

/-- The car UNLOCKED, the car LOCKED with every ajar CLOSED, and a COMFORT run that a lock of all five sheds. -/
theorem witness_LockFromRestDrivesAllFive :
    ((listening .M comforting ∧ calm comforting ∧ restingLocks comforting) ∧
      ((∀ l, (comforting.act (.latch l)).state = .UNLOCKED) ∧ ∀ v, v ≠ .WRL → (comforting.win v).run = .IDLE) ∧
      comforting.params.driveBudget < comforting.units + 10 ∧ (comforting.win .WRL).run = .RUNNING ∧
      (comforting.win .WRL).mode = .COMFORT ∧ (comforting.win .WRL).commander = some ⟨.PORT_M, 2⟩ ∧
      (comforting.win .WRL).job = some 1 ∧ fits .COMFORT .UP none .WRL comforting = .FIT) ∧
    ∀ s ∈ [relocking, allLocked relocking],
      (operating s ∧ calm s ∧ restingLocks s ∧ listening .M s) ∧
      (s.crash.latch = false ∧ s.keyLock = none ∧ s.units = 0 ∧ 10 ≤ s.params.driveBudget ∧ s.pins.ocDoor = false ∧
        s.pins.ocTail = false ∧ s.relock = some (due 30000) ∧ timerDue s.now (due 30000) = true) ∧
      ((∀ l, (s.act (.latch l)).state = .UNLOCKED) ∨
        (∀ l, (s.act (.latch l)).state = .LOCKED) ∧ ∀ l, s.pins.ajarOpen.get l = false) := by
  refine ⟨⟨⟨⟨rest_operating, rfl⟩, like_rest rfl rfl rfl rfl rfl, rest_locks⟩,
    ⟨forall_latch (by decide), forall_win (by decide)⟩, by decide⟩, ?_⟩
  rintro s hs
  rcases List.mem_pair.mp hs with rfl | rfl
  · exact ⟨⟨rest_operating, like_rest rfl rfl rfl rfl rfl, rest_locks, rest_operating, rfl⟩, by decide,
      Or.inl (forall_latch (by decide))⟩
  · exact ⟨⟨rest_operating, like_rest rfl rfl rfl rfl rfl, allLocked_rests rfl rfl rfl rfl, rest_operating, rfl⟩,
      by decide, Or.inr ⟨forall_latch (by decide), forall_latch (by decide)⟩⟩

/-- The end of the 150 ms stroke of job 5 on FL, toward a position. -/
def strokeOn (p : Position) : Stroke :=
  ⟨some 5, .DOOR, .PLUS, [⟨.latch .FL, p, 150⟩], 150, ⟨0#32 - 150#32, false⟩, 2, 2⟩

def strokingOn (p : Position) (attempts : Nat) : State :=
  { actAs (.latch .FL) (fun r => { r with activity := .STROKING, attempts := attempts }) with
    strokes := [strokeOn p]
    admitted := [lockJob 5]
    units := 2 }

theorem strokingOn_calm (p : Position) (n : Nat) : calm (strokingOn p n) :=
  ⟨rfl, (fun h => (nomatch (show false = true from h))), Or.inr ⟨rfl, rfl, rfl⟩⟩

theorem witness_StrokeEndVerifiesItsMembers :
    let s := strokingOn .UNLOCKED 1
    let st := strokeOn .UNLOCKED
    operating s ∧ calm s ∧ s.strokes = [st] ∧ st.job = some 5 ∧ (st.members.map (·.act)).Nodup ∧
      timerDue s.now ⟨st.started.time, st.duration⟩ = true ∧ (∀ m ∈ st.members, s.sensed m.act = some m.target) ∧
      s.queue = [] ∧ s.slot = CrashSlot.closed :=
  ⟨rest_operating, strokingOn_calm _ _, rfl, rfl, by decide, by decide, by decide, rfl, rfl⟩

/-- The first attempt of two, and the second. -/
theorem witness_StrokeEndMissedWaitsOrFails :
    let st := strokeOn .LOCKED
    (∀ n, operating (strokingOn .LOCKED n) ∧ calm (strokingOn .LOCKED n) ∧ (strokingOn .LOCKED n).strokes = [st] ∧
      (strokingOn .LOCKED n).admitted = [lockJob 5] ∧ (strokingOn .LOCKED n).queue = [] ∧
      (strokingOn .LOCKED n).slot = CrashSlot.closed) ∧
    st.job = some (lockJob 5).id ∧ st.members = [⟨.latch .FL, .LOCKED, 150⟩] ∧ (lockJob 5).goal? = some .LOCK ∧
      Position.LOCKED = strokeTarget .LOCK (.latch .FL) ∧
      timerDue (strokingOn .LOCKED 1).now ⟨st.started.time, st.duration⟩ = true ∧
      (strokingOn .LOCKED 1).sensed (.latch .FL) ≠ some .LOCKED ∧
      ((strokingOn .LOCKED 1).act (.latch .FL)).attempts < st.allowance ∧
      st.allowance ≤ ((strokingOn .LOCKED 2).act (.latch .FL)).attempts :=
  ⟨fun n => ⟨rest_operating, strokingOn_calm _ n, rfl, rfl, rfl, rfl⟩, by decide⟩

theorem witness_RetryWaitExpiryReturnsToQueue :
    let s := waitingState .LOCKED
    let f : State := { s with queue := fullQueue }
    let c := actAs (.latch .FL) (fun r => { r with
      activity := .RETRY_WAIT
      wait := some ⟨due 200, .NO_MOVE, none⟩ })
    operating s ∧ (s.act (.latch .FL)).wait = some (waitingFor .LOCKED) ∧
      timerDue s.now (waitingFor .LOCKED).timer = true ∧ (waitingFor .LOCKED).job.isSome = true ∧
      s.queue.length < 16 ∧ 16 ≤ f.queue.length ∧
      (c.act (.latch .FL)).wait = some ⟨due 200, .NO_MOVE, none⟩ ∧ timerDue c.now (due 200) = true :=
  ⟨rest_operating, by decide⟩

/-- Two strokes of the door group, one member at its second attempt and two at their first, beside one of the tail group;
and a crash stroke in the open slot. -/
def overloaded : State :=
  { ((actAs (.latch .FL) (fun r => { r with activity := .STROKING, attempts := 2 })).setAct (.latch .RR)
      { rest.act (.latch .RR) with activity := .STROKING, attempts := 1 }).setAct (.latch .RL)
      { rest.act (.latch .RL) with activity := .STROKING, attempts := 1 } with
    strokes :=
      [{ strokeOn .LOCKED with members := [⟨.latch .FL, .LOCKED, 150⟩, ⟨.latch .RR, .LOCKED, 150⟩], units := 4 },
        { strokeOn .LOCKED with job := some 6, members := [⟨.latch .RL, .LOCKED, 150⟩] },
        ⟨some 5, .TAIL, .PLUS, [⟨.latch .TG, .LOCKED, 150⟩], 150, Reading.zero, 2, 2⟩]
    admitted := [{ lockJob 5 with targets := .lock .LOCK [.latch .FL, .latch .RR, .latch .TG] },
      { lockJob 6 with targets := .lock .LOCK [.latch .RL] }]
    units := 8 }

def crashStroke : State :=
  { actAs (.latch .FL) (fun r => { r with activity := .STROKING, attempts := 1 }) with
    strokes := [⟨none, .DOOR, .MINUS, [⟨.latch .FL, .UNLOCKED, 150⟩], 150, Reading.zero, 3, 2⟩]
    slot := ⟨true, [], [.FL], []⟩
    crash := { rest.crash with latch := true }
    units := 2 }

theorem witness_GroupOvercurrentCutsItsGroup :
    let cut := fun s : State => s.strokes.filter (fun st => st.group = .DOOR)
    let acts := fun s : State => ((cut s).flatMap (·.members)).map (·.act)
    (operating overloaded ∧ calm overloaded ∧ operating crashStroke ∧ calm crashStroke ∧ calm rest) ∧
    (∀ s ∈ [rest, overloaded, crashStroke], overcurrentLine s.pins .DOOR = false ∧ s.queue = []) ∧ cut rest = [] ∧
      (cut overloaded).length = 2 ∧ (acts overloaded).Nodup ∧ (∀ st ∈ cut overloaded, st.job ≠ none) ∧
      overloaded.slot = CrashSlot.closed ∧
      (∀ st ∈ cut overloaded, ∀ m ∈ st.members, ((drivingJob st m overloaded).bind Job.goal?) = some .LOCK ∧
        (st.allowance ≤ (overloaded.act m.act).attempts ↔ m.act = .latch .FL)) ∧
      (cut crashStroke).map (·.job) = [none] ∧ acts crashStroke = [Latch.FL].map Act.latch ∧
      (crashStroke.act (.latch .FL)).attempts < 3 ∧ crashStroke.slot.isOpen = true ∧ crashStroke.slot.pending = [] := by
  refine ⟨⟨rest_operating, ⟨rfl, fun h => (nomatch (show false = true from h)), Or.inr ⟨rfl, rfl, rfl⟩⟩, Or.inl rfl,
    ⟨rfl, fun _ => by decide, Or.inr ⟨rfl, rfl, rfl⟩⟩, rest_calm⟩, ?_⟩
  decide

theorem crashStroke_strokes : strokesLaw crashStroke := by
  refine ⟨?_, List.pairwise_singleton _ _, forall_act (by decide)⟩
  intro st h
  obtain rfl := List.mem_singleton.mp h
  exact ⟨.UNLOCK, rfl, by decide⟩

theorem crashStroke_waits : ∀ a, (crashStroke.act a).wait = none := forall_act (by decide)

/-- FL strokes; every other record reads what its contacts give. -/
theorem crashStroke_follows : lockTableLaw crashStroke := by
  have e : ∀ a, a = .latch .FL ∨ crashStroke.sensed a = some (crashStroke.act a).state := forall_act (by decide)
  intro a p hf h
  rcases e a with rfl | e
  · exact absurd hf (by decide)
  · exact Option.some.inj (e.symm.trans h)

/-- A running stroke, and the open crash slot with a running crash stroke, meet the laws of the matrix and of the locks. -/
theorem witness_MatrixLawKeptByEveryStep :
    (matrixLaw (strokingOn .LOCKED 1) ∧ polesLaw (strokingOn .LOCKED 1) ∧
      step { strokingOn .LOCKED 1 with pending := [.panelKeyInputRelease .KEY] } =
        exec (.panelKeyInputRelease .KEY) (strokingOn .LOCKED 1)) ∧ locksLaw crashStroke := by
  have waits := crashStroke_waits
  refine ⟨⟨⟨by decide, by decide⟩, by unfold polesLaw; decide, rfl⟩, ⟨by decide, by decide⟩, crashStroke_strokes,
    fun h => absurd h (by decide), fun _ => ⟨by decide, by decide, by decide, by decide⟩, fun _ => crashStroke_follows,
    fun j h => absurd h List.not_mem_nil, ?_, fun h => absurd h (by decide), by decide, ?_, by decide, fun _ => ⟨by decide, nofun⟩⟩
  · intro a x h
    rw [waits a] at h
    cases h
  · intro a x h
    rw [waits a] at h
    cases h

theorem witness_SwitchPressRunsItsWindow :
    (operating rest ∧ calm rest) ∧ rest.pins.switches.get .rearLeft = .NEUTRAL ∧ gated .rearLeft rest = false ∧
      switchWindow rest.params .rearLeft = .WRL ∧ (rest.win .WRL).run = .IDLE ∧ (rest.win .WRL).tally ≠ 3 ∧
      (rest.win .WRL).held = false ∧ rest.pins.sensorOk.get .WRL = true ∧ rest.pins.ocWin.get .WRL = false ∧
      rest.queue = [] ∧ rest.slot.isOpen = false ∧
      ({ rest with units := 8 } : State).units + 4 ≤ rest.params.driveBudget :=
  ⟨⟨rest_operating, rest_calm⟩, by decide⟩

def engaged : State := actAs (.child .CRL) (fun r => { r with state := .ENGAGED })

def held : State := { winAs .WRL (fun r => { runningDown r with mode := .MANUAL, commander := some ⟨.REAR_LEFT, 1⟩ }) with
  pins := { rest.pins with switches := rest.pins.switches.set .rearLeft .DOWN1 } }

theorem witness_SwitchGateAndRelease :
    (operating engaged ∧ calm engaged ∧ engaged.pins.switches.get .rearLeft = .NEUTRAL ∧
      gated .rearLeft engaged = true ∧ autoOf .rearLeft engaged = false) ∧
    (operating held ∧ calm held ∧ held.pins.switches.get .rearLeft ≠ .NEUTRAL ∧
      (∀ v ∈ releaseWindows .rearLeft, (held.win v).run = .IDLE ∨ (held.win v).run = .RUNNING) ∧
      (held.win .WRL).mode = .MANUAL ∧
      (held.win .WRL).commander.map (·.origin) = some (switchOrigin .rearLeft)) :=
  ⟨⟨rest_operating, like_rest rfl rfl rfl rfl rfl, by decide, by decide, by decide⟩,
    rest_operating, like_rest rfl rfl rfl rfl rfl, by decide, by decide, by decide, by decide⟩

def normal (s : State) : State := s.setWin .WFL { s.win .WFL with normalized := true, P := 40 }

/-- A window that has learned its travel of 400 counts, at a position and in a run state. -/
def requested (P : Nat) (run : RunState) : State :=
  rest.setWin .WFL { rest.win .WFL with
    run := run
    normalized := true
    P := P
    commander := some ⟨.DRIVER_PANEL, 3⟩
    profile := ⟨some 400, Vector.replicate 32 900⟩ }

/-- The boundaries of the checks: codes 3 and 4, supply 8999 and 9000, a GOTO to the position itself, to the ends of the
travel and beyond, and STOP against ranks 2 and 3. -/
theorem witness_WindowRequestChecksInOrder :
    let s := requested 40 .IDLE
    let low : State := { s with pins := { s.pins with supply := 8999 } }
    let full : State := { s with queue := fullQueue }
    (listening .M s ∧ calm s ∧ listening .M crashed ∧ calm crashed ∧ calm (normal rest) ∧ calm full ∧
      ∀ P run, listening .M (requested P run) ∧ calm (requested P run)) ∧
    (winOf 0#8 = some .WFL ∧ (4#8).toNat = 4 ∧ (3#8).toNat < 4 ∧ s.crash.latch = false ∧ crashed.crash.latch = true ∧
      (s.win .WFL).held = false ∧ ((winAs .WFL (fun r => { r with held := true })).win .WFL).held = true ∧
      (rest.win .WFL).normalized = false ∧ (s.win .WFL).normalized = true ∧ (normal rest).learned .WFL = false ∧
      ((normal rest).win .WFL).profile.L = none ∧ s.learned .WFL = true ∧ (s.win .WFL).profile.L = some 400 ∧
      low.learned .WFL = true ∧ low.pins.supply < 9000 ∧ 9000 ≤ s.pins.supply) ∧
    ((s.win .WFL).run = .IDLE ∧ s.pins.sensorOk.get .WFL = true ∧ s.pins.ocWin.get .WFL = false ∧ s.queue = [] ∧
      s.slot.isOpen = false ∧ s.units + 4 ≤ s.params.driveBudget ∧ full.queue.length = 16 ∧
      ((requested 40 .REVERSING).win .WFL).run = .REVERSING ∧ ((requested 40 .RUNNING).win .WFL).run = .RUNNING ∧
      ((requested 40 .RUNNING).win .WFL).commander = some ⟨.DRIVER_PANEL, 3⟩) ∧
    (min (40#16).toNat 400 = (s.win .WFL).P ∧ min (39#16).toNat 400 < (s.win .WFL).P ∧ min (0#16).toNat 400 = 0 ∧
      (s.win .WFL).P < min (41#16).toNat 400 ∧ min (65535#16).toNat 400 = 400) :=
  ⟨⟨⟨rest_operating, rfl⟩, like_rest rfl rfl rfl rfl rfl, ⟨rest_operating, rfl⟩, like_rest rfl rfl rfl rfl rfl,
    like_rest rfl rfl rfl rfl rfl, like_rest rfl rfl rfl rfl rfl,
    fun _ _ => ⟨⟨rest_operating, rfl⟩, like_rest rfl rfl rfl rfl rfl⟩⟩, by decide⟩

/-- P 101 is reached from 100 downward and 102 is not; a reversal from 60 ends at a distance of 41 and not of 42, and at a
travel of 101. -/
theorem witness_QualifiedEdgeCountsPosition :
    let go := fun (x : Nat) => (winAs .WFL (fun r => { runningDown r with target := some x })).win .WFL
    let back := fun (d : Nat) (L : Option Nat) => (winAs .WFL (fun r => { runningDown r with
      run := .REVERSING
      revStart := 60
      revDistance := d
      profile := ⟨L, r.profile.R⟩ })).win .WFL
    let s := winAs .WFL (fun r => { runningDown r with lastHall := some .A, hasEdge := true })
    calm s ∧ s.pins.sensorOk.get .WFL = true ∧ (s.win .WFL).lastHall ≠ some .B ∧ (s.win .WFL).run = .RUNNING ∧
      (s.win .WFL).mon.phase = .OFF ∧ (s.win .WFL).target = none ∧ (rest.win .WFL).run = .IDLE ∧
      (rest.win .WFL).hasEdge = false ∧
      ¬(s.pins.sensorOk.get .WFL = true ∧ (s.win .WFL).lastHall ≠ some .B ∧
        ((s.win .WFL).hasEdge = false ∨ 100 ≤ 99)) ∧
      ((go 101).run = .RUNNING ∧ (go 101).dir = .DOWN ∧ (go 101).P + 1 = 101 ∧ (go 102).target = some 102 ∧
        (go 102).P + 1 < 102) ∧
      (back 41 none).run = .REVERSING ∧ (back 41 none).revStart + (back 41 none).revDistance ≤ (back 41 none).P + 1 ∧
      (back 42 none).P + 1 < (back 42 none).revStart + (back 42 none).revDistance ∧ (back 42 none).mon.phase = .OFF ∧
      (back 42 (some 101)).profile.L = some ((back 42 (some 101)).P + 1) :=
  ⟨like_rest rfl rfl rfl rfl rfl, by decide⟩

/-- The top at SEAL_ZONE 12, the pinch one count above it, and the FORCED stall there. -/
theorem witness_UpwardStallIsTopOrPinch :
    let s := fun (P : Nat) (m : RunMode) => winAs .WFR (fun r => { runningUp r with P := P, mode := m })
    calm (s 12 .AUTO) ∧ ((s 12 .AUTO).win .WFR).run = .RUNNING ∧ ((s 12 .AUTO).win .WFR).dir = .UP ∧
      ((s 12 .AUTO).win .WFR).stallT = some (due 128) ∧ timerDue 0#32 (due 128) = true ∧
      ((s 12 .AUTO).win .WFR).P ≤ (s 12 .AUTO).params.sealZone ∧
      (s 13 .AUTO).params.sealZone < ((s 13 .AUTO).win .WFR).P ∧
      ((s 13 .AUTO).win .WFR).mode ≠ .FORCED ∧ ((s 13 .FORCED).win .WFR).mode = .FORCED :=
  ⟨like_rest rfl rfl rfl rfl rfl, by decide⟩

/-- The bottom at 350 of 400, the fault one count above it, and travels of 300 and 299 counts. -/
theorem witness_DownwardStallIsBottomOrFault :
    let s := fun (P : Nat) (L : Option Nat) => winAs .WRR (fun r => { runningDown r with
      P := P
      profile := ⟨L, r.profile.R⟩ })
    calm (s 350 none) ∧ driven ((s 350 none).win .WRR).run = true ∧ ((s 350 none).win .WRR).dir = .DOWN ∧
      ((s 350 none).win .WRR).stallT = some (due 128) ∧
      400 - 400 / 8 ≤ ((s 350 (some 400)).win .WRR).P ∧ ((s 349 (some 400)).win .WRR).P < 400 - 400 / 8 ∧
      ((s 350 (some 400)).win .WRR).profile.L = some 400 ∧ 300 ≤ ((s 300 none).win .WRR).P ∧
      ((s 299 none).win .WRR).P < 300 ∧ ((s 300 none).win .WRR).profile.L = none ∧
      ((s 300 none).win .WRR).normalized = true ∧ (rest.win .WRR).normalized = false :=
  ⟨like_rest rfl rfl rfl rfl rfl, by decide⟩

/-- An edge of 8000 us after edges of 1000 us, the persistence counter at 1. -/
def pinching : State := winAs .WFL (fun r => { runningUp r with
  hasEdge := true
  lastHall := some .A
  mon := { r.mon with phase := .ACTIVE, edges := 60, primed := true, F := 1000, Fmin := 1000, c := 1 } })

theorem witness_PinchByTestReverses :
    let r := pinching.win .WFL
    calm pinching ∧ r.commander = some ⟨.PORT_M, 2⟩ ∧ qualifies pinching .WFL .B 8000 = true ∧ r.run = .RUNNING ∧ r.dir = .UP ∧ r.mon.phase ≠ .OFF ∧
      r.target = none ∧ r.mode ≠ .FORCED ∧
      2 ≤ (monitorEdge pinching.params r.profile (r.P - 1) (edgePeriod r 8000) pinching.pins.supply r.mon).c :=
  ⟨like_rest rfl rfl rfl rfl rfl, by decide⟩

theorem witness_MonitoredEdgeRules :
    let m := (pinching.win .WFL).mon
    let b := { m with phase := MonitorPhase.BLANKING, edges := 23, blankingLength := 24 }
    m.edges < 65535 ∧ b.edges + 1 ≤ b.blankingLength ∧ ¬(m.phase = .BLANKING ∧ m.edges + 1 ≤ m.blankingLength) ∧
      12 ≤ Params.defaults.sealZone ∧ Params.defaults.sealZone < 13 ∧
      referenceAt Profile.unknown none = 0 ∧
      0 < referenceAt ⟨some 400, Vector.replicate 32 900⟩ (some (zoneOf 100 400)) := by decide

def braking (c : Option Continuation) : State :=
  winAs .WFL (fun r => { runningUp r with run := .BRAKING, cont := c, brakeT := some (due 100), stallT := none })

theorem witness_BrakingEndsIdleOrReversing :
    let c : Continuation := ⟨.AUTO, .DOWN, none, ⟨.PORT_M, 0⟩, true⟩
    (∀ x, calm (braking x)) ∧ ((braking none).win .WFL).run = .BRAKING ∧
      ((braking none).win .WFL).brakeT = some (due 100) ∧ timerDue 0#32 (due 100) = true ∧
      ((braking none).win .WFL).job = some 1 ∧ ((braking none).win .WFL).cont = none ∧ (braking none).queue = [] ∧
      ((braking (some c)).win .WFL).cont = some c ∧ (braking (some c)).pins.ocWin.get .WFL = false :=
  ⟨fun x => like_rest rfl rfl rfl rfl rfl, by decide⟩

theorem witness_WindowTimersCount :
    let s := winAs .WFL (fun r => { r with
      H := 598
      heatT := some (due 100)
      tallyT := some (due 10000)
      clearT := some (due 500)
      coolT := some (due 2000) })
    calm s ∧ timerDue s.now (due 100) = true ∧ (s.win .WFL).heatT = some (due 100) ∧ (s.win .WFL).held = false ∧
      min 900 ((s.win .WFL).H + 1) < s.params.heatLimit ∧ (s.win .WFL).coolT = some (due 2000) ∧
      (s.win .WFL).H ≤ s.params.heatLimit ∧ 0 < s.params.heatLimit ∧ (s.win .WFL).tallyT = some (due 10000) ∧
      (s.win .WFL).clearT = some (due 500) ∧ timerDue s.now (due 2000) = true ∧
      timerDue s.now (due 10000) = true ∧ timerDue s.now (due 500) = true :=
  ⟨like_rest rfl rfl rfl rfl rfl, by decide⟩

/-- The limit of 600 is reached from 599, and 450 from 451. -/
theorem witness_ThermalHoldSetsAndClears :
    let s := winAs .WFL (fun r => { runningUp r with H := 599, heatT := some (due 100) })
    let c := winAs .WFL (fun r => { r with H := 451, held := true, coolT := some (due 2000) })
    (calm s ∧ calm c) ∧ s.queue = [] ∧ s.slot.isOpen = false ∧ (s.win .WFL).heatT = some (due 100) ∧
      (s.win .WFL).held = false ∧ s.params.heatLimit ≤ min 900 ((s.win .WFL).H + 1) ∧ (s.win .WFL).run = .RUNNING ∧
      (c.win .WFL).coolT = some (due 2000) ∧ (c.win .WFL).held = true ∧
      ((c.win .WFL).H - 1) + 150 ≤ c.params.heatLimit ∧ timerDue c.now (due 2000) = true :=
  ⟨⟨like_rest rfl rfl rfl rfl rfl, like_rest rfl rfl rfl rfl rfl⟩, by decide⟩

theorem witness_WindowLinesStopTheirWindows :
    let s := winAs .WFL runningUp
    let lost : State := { rest with pins := { rest.pins with sensorOk := rest.pins.sensorOk.set .WFL false } }
    (calm s ∧ calm lost) ∧ s.pins.ocWin.get .WFL = false ∧ driven (s.win .WFL).run = true ∧
      driven (rest.win .WFL).run = false ∧ s.pins.sensorOk.get .WFL = true ∧ s.queuedWindow .WFL = none ∧
      lost.pins.sensorOk.get .WFL = false ∧ 9000 ≤ s.pins.supply :=
  ⟨⟨like_rest rfl rfl rfl rfl rfl, like_rest rfl rfl rfl rfl rfl⟩, by decide⟩

/-- A job of 2000 ms of age, and jobs that fail behind a running stroke of their latch, blocking or not. -/
theorem witness_JobTurnsBlocking :
    let j := { lockJob 7 with enqueued := ⟨0#32 - timeOf 2000, false⟩ }
    let s : State := { rest with queue := [j] }
    operating s ∧ s.queuedJob j.id = some j ∧ j.blocking = false ∧
      timerDue s.now ⟨j.enqueued.time, 2000⟩ = true ∧ 2000 ≤ ageAt s.now j.enqueued ∧
      ∀ b, let x := { lockJob 7 with blocking := b }
        let f : State := { strokingOn .LOCKED 1 with queue := [x] }
        f.queuedJob x.id = some x ∧ visit x f = .failed none := by
  refine ⟨rest_operating, rfl, rfl, by decide, by decide, ?_⟩
  rintro (_ | _) <;> exact ⟨rfl, rfl⟩

theorem fobAs_calm (c : Nat) : calm (fobAs c) :=
  ⟨rfl, (fun h => (nomatch (show false = true from h))), Or.inr ⟨rfl, rfl, rfl⟩⟩

/-- An open search of tag 7 and a closed one of tag 6. -/
def searchOpen (purpose : Purpose) (s : State) : State :=
  { s with search := { s.search with
      current := some ⟨7, purpose, [.FL], Reading.zero⟩
      last := some ⟨6, .LOCK, [.FL], Reading.zero, Reading.zero, .EXPIRED, none⟩ } }

/-- Counters at and just past the windows of 64 and of 32768; buttons 3 and 4; tags of the open search, of the last closed
one and of none. -/
theorem witness_PresentRejectionsByCounter :
    let s := fobAs 500
    let h : State := { s with hold := { s.hold with isOpen := true, slot := 0 } }
    let d := s.setFob 0 { s.fob 0 with acceptance := some ⟨⟨0#32 - timeOf 499, false⟩, .E, .LOCK⟩ }
    let o := searchOpen .UNLOCK s
    (listening .M s ∧ calm s ∧ listening .E o ∧ calm o) ∧
    (buttonOf 2#8 = some .LOCK_HELD ∧ activeSlot 77#32 s = some 0 ∧
      activeSlot 78#32 s = none ∧ (500#24).toNat = (s.fob 0).C ∧ h.hold.isOpen = true ∧ h.hold.slot = 0 ∧
      s.hold.isOpen = false ∧ isDuplicate (d.fob 0) .LOCK .M d = true ∧ isDuplicate (s.fob 0) .LOCK .M s = false ∧
      (499#24).toNat < (s.fob 0).C ∧ (s.fob 0).C + 64 < (565#24).toNat ∧
      (33268#24).toNat ≤ (s.fob 0).C + 32768 ∧ confirms (s.fob 0) 565 = false ∧
      (s.fob 0).C + 32768 < (33269#24).toNat) ∧
    ((4#8).toNat = 4 ∧ o.search.current = some ⟨7, .UNLOCK, [.FL], Reading.zero⟩ ∧ (7#8).toNat = 7 ∧
      o.search.current.any (fun y => y.tag = (6#8).toNat) = false ∧
      o.search.last.any (fun y => y.tag = (6#8).toNat) = true ∧
      o.search.last.any (fun y => y.tag = (5#8).toNat) = false ∧ activeSlot 77#32 o = some 0) :=
  ⟨⟨⟨rest_operating, rfl⟩, fobAs_calm _, ⟨rest_operating, rfl⟩, fobAs_calm _⟩, by decide⟩

/-- The last counter of the window, and the last that confirms a candidate of 600; a PASSIVE answer to the open search. -/
theorem witness_PresentAcceptedConsumesCounter :
    let s := fobAs 500
    let k : Candidate := ⟨600, Reading.zero⟩
    let c := s.setFob 0 { s.fob 0 with candidate := some k }
    (listening .M s ∧ listening .M c ∧ listening .E (searchOpen .LOCK s)) ∧
    (buttonOf 1#8 = some .UNLOCK ∧ buttonOf 3#8 = some .PASSIVE ∧ activeSlot 77#32 s = some 0 ∧
      activeSlot 77#32 c = some 0 ∧ (s.fob 0).C < (564#24).toNat ∧ (564#24).toNat ≤ (s.fob 0).C + 64) ∧
    ((c.fob 0).C + 64 < (604#24).toNat ∧ (604#24).toNat ≤ (c.fob 0).C + 32768 ∧ (c.fob 0).candidate = some k ∧
      k.counter < (604#24).toNat ∧ (604#24).toNat ≤ k.counter + 4) ∧
    (searchOpen .LOCK s).search.current = some ⟨7, .LOCK, [.FL], Reading.zero⟩ ∧ (7#8).toNat = 7 :=
  ⟨⟨⟨rest_operating, rfl⟩, ⟨rest_operating, rfl⟩, rest_operating, rfl⟩, by decide⟩

/-- The car LOCKED with a search of FL open, a door OPEN, and the car UNLOCKED with every ajar CLOSED. -/
theorem witness_EntryPressFromRest :
    let s := { searchOpen .UNLOCK (allLocked (fobAs 500)) with
      params := { Params.defaults with selectiveUnlock := 1, passiveUnlockAll := 0 } }
    let o : State := { s with pins := { s.pins with ajarOpen := s.pins.ajarOpen.set .TG true } }
    let f := fobAs 500
    (∀ p, listening p s ∧ listening p o ∧ listening p f) ∧ (calm s ∧ calm o ∧ calm f) ∧
    (restingLocks s ∧ restingLocks o ∧ restingLocks f) ∧
    ((∀ l, (s.act (.latch l)).state = .LOCKED) ∧ (∀ l, (f.act (.latch l)).state = .UNLOCKED) ∧
      ∀ l, f.pins.ajarOpen.get l = false) ∧
    ∀ x ∈ [s, o, f], (x.crash.latch = false ∧ x.entry = none ∧ x.hold.isOpen = false ∧ activeSlot 77#32 x = some 0 ∧
      (x.fob 0).C < (501#24).toNat ∧ (501#24).toNat ≤ (x.fob 0).C + 64 ∧ x.units = 0 ∧
      10 ≤ x.params.driveBudget ∧ x.pins.ocDoor = false ∧ x.pins.ocTail = false) ∧
      s.params.selectiveUnlock = 1 ∧ s.params.relockTime ≠ 0 ∧ s.params.passiveUnlockAll = 0 ∧
      1 ≤ s.nextId ∧ s.nextId ≤ 255 ∧
      s.search.current = some ⟨(7#8).toNat, .UNLOCK, [.FL], Reading.zero⟩ ∧ o.pins.ajarOpen.get .TG = true := by
  refine ⟨?_, ⟨fobAs_calm _, fobAs_calm _, fobAs_calm _⟩, ⟨allLocked_rests rfl rfl rfl rfl, allLocked_rests rfl rfl rfl rfl,
    rest_locks⟩, ⟨forall_latch (by decide), forall_latch (by decide), forall_latch (by decide)⟩, by decide⟩
  rintro (_ | _) <;> exact ⟨⟨rest_operating, rfl⟩, ⟨rest_operating, rfl⟩, rest_operating, rfl⟩

theorem witness_CandidateAndHoldTimers :
    let k : Candidate := ⟨900, ⟨0#32 - timeOf 10000, false⟩⟩
    let c := rest.setFob 0 { rest.fob 0 with candidate := some k }
    let h : State := { rest with hold := { rest.hold with isOpen := true, gapT := some (due 300), startT := some (due 1000) } }
    let w := h.setWin .WFL { h.win .WFL with normalized := true, P := 40, profile := ⟨some 400, Vector.replicate 32 900⟩ }
    let j := { windowJob 9 with targets := .window ⟨.WRL, .COMFORT, .UP, none, ⟨.PORT_M, 2⟩⟩ }
    let g : State := { comforting with hold := { h.hold with started := true } }
    let q : State := { g.setWin .WRL { g.win .WRL with run := .QUEUED, job := some 9 } with queue := [j], admitted := [] }
    (calm g ∧ calm q ∧ g.hold.gapT = some (due 300) ∧ g.hold.isOpen = true ∧ g.hold.started = true ∧ g.queue = [] ∧
      g.slot.isOpen = false ∧ (g.win .WRL).run = .RUNNING ∧ (g.win .WRL).mode = .COMFORT ∧
      q.hold = g.hold ∧ q.queue = [j] ∧ (q.win .WRL).run = .QUEUED) ∧
    (calm h ∧ calm w) ∧ ((∀ v, comfortFits v h = false) ∧ ∀ v, v ≠ .WFL → comfortFits v w = false) ∧
      (c.fob 0).candidate = some k ∧ timerDue c.now ⟨k.time.time, 10000⟩ = true ∧
      h.hold.gapT = some (due 300) ∧ h.hold.isOpen = true ∧ h.hold.started = false ∧ timerDue h.now (due 300) = true ∧
      h.hold.startT = some (due 1000) ∧ timerDue h.now (due 1000) = true ∧
      comfortFits .WFL w = true ∧ (w.win .WFL).run = .IDLE :=
  ⟨⟨like_rest rfl rfl rfl rfl rfl, like_rest rfl rfl rfl rfl rfl, rfl, rfl, rfl, rfl, rfl, rfl, rfl, rfl, rfl, rfl⟩,
    ⟨like_rest rfl rfl rfl rfl rfl, like_rest rfl rfl rfl rfl rfl⟩,
    ⟨forall_win (by decide), forall_win (by decide)⟩, by decide⟩

def searching : State :=
  { rest with search := { rest.search with
    current := some ⟨7, .UNLOCK, [.FL, .RL], ⟨0#32 - timeOf 400, false⟩⟩
    nextTag := 8 } }

theorem witness_TouchOpensOrJoinsSearch :
    let off : State := { rest with search := { rest.search with holdFL := some ⟨0#32, 1500⟩ } }
    let on : State := { rest with pins := { rest.pins with touch := setTouch .FL_UNLOCK true rest.pins.touch } }
    (operating rest ∧ calm rest ∧ operating on ∧ calm on) ∧
      touchLevel .FL_UNLOCK rest.pins.touch = false ∧ touchLevel .FL_UNLOCK on.pins.touch = true ∧
      (touchPurpose .FR_LOCK = .LOCK ∧ crashed.crash.latch = true) ∧
      ¬(touchPurpose .FL_UNLOCK = .LOCK) ∧ rest.search.current = none ∧
      rest.search.holdOff (touchLatch .FL_UNLOCK) = none ∧
      (off.search.holdOff (touchLatch .FL_UNLOCK)).isSome = true ∧
      searching.search.current.map (·.purpose) = some (touchPurpose .TG_OPEN) ∧
      touchPurpose .FL_LOCK ≠ .UNLOCK :=
  ⟨⟨rest_operating, rest_calm, rest_operating, like_rest rfl rfl rfl rfl rfl⟩, by decide⟩

def closedSearch : State :=
  { rest with search := { rest.search with
    last := some ⟨7, .UNLOCK, [.FL], Reading.zero, Reading.zero, .EXPIRED, none⟩
    holdFL := some (due 1500) } }

theorem witness_SearchesCloseAndHoldOff :
    operating searching ∧ calm searching ∧ listening .E searching ∧
      (∃ x, searching.search.current = some x ∧ x.tag = (7#8).toNat ∧
        timerDue searching.now ⟨x.opened.time, searching.params.searchTimeout⟩ = true) ∧
      rest.phase = .ACTIVE ∧ calm closedSearch ∧ closedSearch.search.current.any (fun y => y.tag = (7#8).toNat) = false ∧
      closedSearch.search.last.any (fun y => y.tag = (7#8).toNat) = true ∧
      closedSearch.search.last.any (fun y => y.tag = (6#8).toNat) = false ∧
      closedSearch.search.holdOff .FL = some (due 1500) ∧ timerDue closedSearch.now (due 1500) = true :=
  ⟨rest_operating, like_rest rfl rfl rfl rfl rfl, ⟨rest_operating, rfl⟩, ⟨_, rfl, by decide, by decide⟩,
    rfl, like_rest rfl rfl rfl rfl rfl, by decide, by decide, by decide, rfl, by decide⟩

theorem witness_CrashLineAndClear :
    let line := fun (b : Bool) (l : CrashLine) => ({ rest with
      pins := { rest.pins with crashIn := b }
      crash := { rest.crash with line := l, quietT := some (due 10000) } } : State)
    let set := fun (q : Bool) => ({ rest with crash := { rest.crash with latch := true, quiet := q } } : State)
    let serving : State := { set true with slot := ⟨true, [.FL], [], []⟩ }
    let again : State := { serving with crash := { serving.crash with line := .QUALIFYING, qualT := some (due 4) } }
    (operating again ∧ calm again ∧ again.crash.qualT = some (due 4) ∧ timerDue 0#32 (due 4) = true ∧
      again.crash.latch = true ∧ again.slot.isOpen = true) ∧
    (operating (line false .INACTIVE) ∧ calm (line false .INACTIVE) ∧
      (line false .INACTIVE).crash.line = .INACTIVE) ∧
    (calm (line true .ACTIVE) ∧ (line true .ACTIVE).crash.line ≠ .INACTIVE) ∧
    ((line false .INACTIVE).crash.quietT = some (due 10000) ∧ timerDue 0#32 (due 10000) = true) ∧
    (listening .M rest ∧ rest.crash.latch = false) ∧
    (calm (set false) ∧ (set false).crash.latch = true ∧ (set false).crash.quiet = false) ∧
    (calm serving ∧ serving.crash.quiet = true ∧ serving.slot.isOpen = true) ∧
    (calm (set true) ∧ (set true).slot.isOpen = false) :=
  ⟨⟨Or.inl rfl, ⟨rfl, fun _ => by decide, Or.inr ⟨rfl, by decide, by decide⟩⟩, by decide⟩,
    ⟨rest_operating, like_rest rfl rfl rfl rfl rfl, rfl⟩, ⟨like_rest rfl rfl rfl rfl rfl, by decide⟩, ⟨rfl, by decide⟩,
    ⟨rest_listens _, rfl⟩, ⟨like_rest rfl rfl rfl rfl rfl, rfl, rfl⟩,
    ⟨⟨rfl, fun _ => by decide, Or.inr ⟨rfl, by decide, by decide⟩⟩, rfl, rfl⟩, like_rest rfl rfl rfl rfl rfl, rfl⟩

/-- CRL strokes to ENGAGED under job 5, beside the car LOCKED. -/
def engaging : State :=
  { allLocked (actAs (.child .CRL) (fun r => { r with activity := .STROKING, attempts := 1 })) with
    strokes := [⟨some 5, .TAIL, .PLUS, [⟨.child .CRL, .ENGAGED, 150⟩], 150, Reading.zero, 2, 1⟩]
    admitted := [{ lockJob 5 with targets := .lock .ENGAGE [.child .CRL] }]
    units := 1 }

theorem engaging_strokes : strokesLaw engaging := by
  refine ⟨?_, List.pairwise_singleton _ _, forall_act (by decide)⟩
  intro st h
  obtain rfl := List.mem_singleton.mp h
  exact ⟨.ENGAGE, rfl, by decide⟩

/-- The line qualified with a window running beside the car LOCKED, and in standby; a crash in a car of the crash
latch SET; and one that cuts a stroke of CRL. -/
theorem witness_CrashFromRestUnlocksAllFive :
    ((calm engaging ∧ listening .M engaging ∧ strokesLaw engaging) ∧ (∀ l, (engaging.act (.latch l)).state = .LOCKED) ∧
      (∀ l, (engaging.act (.latch l)).activity = .IDLE ∧ (engaging.act (.latch l)).wait = none) ∧
      engaging.crash.latch = false ∧ engaging.queue = [] ∧ engaging.slot = CrashSlot.closed ∧
      engaging.strokes.map (fun st => (st.group, st.polarity, st.job, st.members.map (·.act))) =
        [(.TAIL, .PLUS, some 5, [Child.CRL].map Act.child)] ∧
      engaging.admitted.map (fun j => (j.id, j.goal?)) = [(5, some .ENGAGE)] ∧
      engaging.units - 1 + 10 ≤ engaging.params.driveBudget) ∧
    (calm (allLocked crashed) ∧ listening .M (allLocked crashed) ∧ restingLocks (allLocked crashed) ∧
      (allLocked crashed).crash.latch = true ∧ (allLocked crashed).crash.qualT = none ∧
      (allLocked crashed).units + 10 ≤ (allLocked crashed).params.driveBudget) ∧
    let s := allLocked { winAs .WFL runningUp with
      crash := { rest.crash with line := .QUALIFYING, qualT := some (due 4) }
      units := 4
      params := { rest.params with driveBudget := 16 } }
    let n := allLocked { rest with
      crash := { rest.crash with line := .QUALIFYING, qualT := some (due 4) }
      phase := .STANDBY }
    (calm s ∧ calm n ∧ restingLocks s ∧ restingLocks n ∧ listening .M s ∧ listening .M n) ∧
    ((∀ l, (s.act (.latch l)).state = .LOCKED) ∧ ∀ l, (n.act (.latch l)).state = .LOCKED) ∧
    s.phase = .ACTIVE ∧ n.phase = .STANDBY ∧ driven (s.win .WFL).run = true ∧
    ∀ x ∈ [s, n], x.crash.latch = false ∧ x.units + 10 ≤ x.params.driveBudget ∧ x.pins.ocDoor = false ∧
      x.pins.ocTail = false ∧ x.crash.qualT = some (due 4) ∧ timerDue x.now (due 4) = true :=
  ⟨⟨⟨⟨rfl, nofun, Or.inr ⟨rfl, rfl, rfl⟩⟩, ⟨rest_operating, rfl⟩, engaging_strokes⟩, forall_latch (by decide), forall_latch (by decide),
      by decide⟩,
    ⟨like_rest rfl rfl rfl rfl rfl, ⟨rest_operating, rfl⟩, allLocked_rests rfl rfl rfl rfl, by decide⟩,
    ⟨like_rest rfl rfl rfl rfl rfl, like_rest rfl rfl rfl rfl rfl, allLocked_rests rfl rfl rfl rfl,
    allLocked_rests rfl rfl rfl rfl, ⟨rest_operating, rfl⟩, Or.inr ⟨rfl, rfl⟩, rfl⟩,
    ⟨forall_latch (by decide), forall_latch (by decide)⟩, by decide⟩

/-- R153: the pinch tally of a run that a crash stops stands. -/
theorem test_crash_keeps_the_tally :
    let s := winAs .WFL (fun r => { runningUp r with mode := .MANUAL, tally := 2, tallyT := some ⟨0#32, 10000⟩ })
    let r := (after (.crashNotify .M) s).win .WFL
    r.run = .BRAKING ∧ r.tally = 2 ∧ r.tallyT = some ⟨0#32, 10000⟩ := by decide

/-- R62: the stop that ends a FORCED run clears the tally, whatever its cause. -/
theorem test_crash_ends_a_forced_run :
    let s := winAs .WFL (fun r => { runningUp r with mode := .FORCED, tally := 3, tallyT := some ⟨0#32, 10000⟩ })
    let r := (after (.crashNotify .M) s).win .WFL
    r.run = .BRAKING ∧ r.tally = 0 ∧ r.tallyT = none := by decide

def shortFrame : List Byte := [0x00#8]
def badCheck : List Byte := List.replicate 12 0#8
def unknownCode : List Byte := 0x72#8 :: (List.replicate 10 0#8 ++ [0x8D#8])
def crashNotifyFrame : List Byte := 0x60#8 :: (List.replicate 10 0#8 ++ [0x9F#8])

theorem witness_TransfersAndTheirTests :
    let flown := rest.setPort .M { rest.port .M with transfer := some ⟨true, true, Response.blank⟩ }
    let dark := rest.setPort .M { rest.port .M with transfer := some ⟨false, false, Response.blank⟩ }
    (operating rest ∧ calm rest ∧ listening .E rest ∧ calm flown ∧ calm dark) ∧
    (rest.port .E).transfer = none ∧ rest.phase = .ACTIVE ∧
      (flown.port .M).transfer = some ⟨true, true, Response.blank⟩ ∧
      (dark.port .M).transfer = some ⟨false, false, Response.blank⟩ ∧ shortFrame.length ≠ 12 ∧
      (badCheck.length = 12 ∧ goodCheck badCheck = false) ∧
      (unknownCode.length = 12 ∧ goodCheck unknownCode = true ∧ decodeFrame .M unknownCode = none) ∧
      ((decodeFrame .E crashNotifyFrame).isSome = true ∧ permittedOn .E (crashNotifyFrame.headD 0#8) = false) :=
  ⟨⟨rest_operating, rest_calm, rest_listens _, like_rest rfl rfl rfl rfl rfl, like_rest rfl rfl rfl rfl rfl⟩, by decide⟩

/-- R160, R164: the response ACCEPTED to LATCH_REQUEST with job 5, byte by byte; and its first bits, the most significant
of each byte first. -/
theorem test_response_frame : (Response.mk 0x11#8 .ACCEPTED (packData [(8, 5)])).frame =
    [0x11#8, 2#8, 5#8, 0#8, 0#8, 0#8, 0#8, 0#8, 0#8, 0#8, 0#8, 0xE7#8] := by decide

theorem test_bits_out :
    let s := rest.setPort .E { rest.port .E with transfer := some ⟨true, false, ⟨0x11#8, .ACCEPTED, 0#72⟩⟩ }
    [s.bitOut .E 2, s.bitOut .E 3, s.bitOut .E 7, s.bitOut .E 14, s.bitOut .E 96, s.bitOut .M 3] =
      [some false, some true, some true, some true, some true, none] := by decide

theorem witness_TransferEndRunsItsCommand : decodeFrame .M crashNotifyFrame = some (.crashNotify .M) := by decide

theorem witness_FramesCarryTheirCommands :
    encodeFrame (.crashNotify .M) = some (.M, crashNotifyFrame) := by decide

theorem witness_ReadsChangeOnlyTheSlot :
    listening .M rest ∧ listening .E rest ∧ 4 ≤ (4#8).toNat ∧ 14 ≤ (14#8).toNat :=
  ⟨rest_listens _, rest_listens _, by decide, by decide⟩

/-- A queue of a latch job, a child job and a window job, read by a cursor on each table. -/
theorem witness_ReadLayouts :
    let c : Job := { lockJob 8 with targets := .lock .RELEASE [.child .CRR] }
    let s : State := { rest with queue := [lockJob 7, c, windowJob 9] }
    let on := fun (t : CursorTable) (k : Nat) => s.setPort .E { s.port .E with cursor := ⟨t, .WRR, k, .FORWARD⟩ }
    (∀ t k, listening .E (on t k)) ∧ winOf 3#8 = some .WRR ∧ s.search.current = none ∧ s.search.last = none ∧
      closedSearch.search.current = none ∧ closedSearch.search.last.isSome = true ∧
      searching.search.current.isSome = true ∧ ((on .FOB 7).port .E).cursor.index = (7 : Fin 8).val ∧
      ((on .PROFILE 31).port .E).cursor.index = (31 : Fin 32).val ∧ ((on .PROFILE 31).port .E).cursor.window = .WRR ∧
      (s.queue[0]?, s.queue[1]?, s.queue[2]?, s.queue[3]?) = (some (lockJob 7), some c, some (windowJob 9), none) ∧
      ((on .QUEUE 3).port .E).cursor.table = .QUEUE :=
  ⟨fun _ _ => ⟨rest_operating, rfl⟩, by decide⟩

/-- R172: the entry of the child job 8 carries class 1 at bit 12, side CRR at bit 18 and RELEASE at bit 19. -/
theorem test_queue_entry :
    let s : State := { rest with queue := [{ lockJob 8 with targets := .lock .RELEASE [.child .CRR] }] }
    (packData (queueEntry s 0)).toNat % 2 ^ 38 = 8 + 2 ^ 12 + 2 ^ 18 + 2 ^ 19 := by decide

theorem witness_CursorSelectsAndMoves :
    listening .E rest ∧ tableOf 1#8 = some .PROFILE ∧ stepOf 0xFF#8 = some .BACKWARD ∧ winOf 3#8 = some .WRR ∧
      (31#8).toNat < 32 ∧ tableOf 2#8 = some .QUEUE ∧ (15#8).toNat < 16 ∧ tableOf 3#8 = none ∧
      stepOf 2#8 = none ∧ 32 ≤ (32#8).toNat ∧ 16 ≤ (16#8).toNat ∧ winOf 4#8 = none :=
  ⟨rest_listens _, by decide⟩

theorem witness_SetParamClampsIntoRange :
    listening .M rest ∧ calm rest ∧ paramOfCode (13#8).toNat = some .DRIVER_SIDE ∧ 14 ≤ (14#8).toNat ∧
      rest.writer.paramsFailed = false := ⟨rest_listens _, rest_calm, by decide, by decide, rfl⟩

theorem witness_StoreCommandsTakePortMInFlight :
    let marked := winAs .WRL (fun r => { r with mon := { r.mon with marked := true } })
    let two := marked.setWin .WFL { marked.win .WFL with mon := (marked.win .WRL).mon }
    (listening .M rest ∧ calm rest ∧ listening .M two ∧ calm two ∧
      [Win.WFL, .WFR, .WRL, .WRR].filter (fun v => (two.win v).mon.marked) = [.WFL, .WRL] ∧ 4 ≤ (4#8).toNat) ∧
      ((∀ v, (rest.win v).mon.marked = false) ∧ ∀ v, (marked.win v).mon.marked = decide (v = .WRL)) ∧
      rest.writer.running = none ∧ slotOf 7#8 = some 7 ∧ slotOf 8#8 = none ∧ winOf 3#8 = some .WRR ∧
      (∀ k : Fin 8, k ≠ 7 → ¬((rest.fob k).status = .ACTIVE ∧ (rest.fob k).identity = 9#32)) ∧
      ∃ k ∈ List.finRange 8, k ≠ 7 ∧ ((fobAs 5).fob k).status = .ACTIVE ∧ ((fobAs 5).fob k).identity = 77#32 :=
  ⟨⟨rest_listens _, rest_calm, ⟨rest_operating, rfl⟩, like_rest rfl rfl rfl rfl rfl, by decide⟩,
    ⟨forall_win (by decide), forall_win (by decide)⟩, by decide⟩

def writing (p : Payload) (byPort : Bool) : State :=
  { rest.setPort .M { rest.port .M with inFlight := if byPort then some 0x34#8 else none } with
    writer := { rest.writer with running := some ⟨p, byPort, false, due 6⟩ } }

/-- Each payload; a profile write of a port with another profile behind it. -/
theorem witness_CompletedWritesReachTheStore :
    let r : SlotRecord := ⟨true, 9#32, 5⟩
    let q := Payload.profile .WFL Profile.unknown
    let more : State := { writing q true with
      writer := { (writing q true).writer with portQueue := [.profile .WRL] } }
    (∀ p b, operating (writing p b) ∧ timerDue (writing p b).now (due 6) = true ∧
      (writing p b).attemptDue = false ∧ slotSteady (writing p b) ∧ (writing p b).writer.portQueue = [] ∧
      (writing p b).writer.running = some ⟨p, b, false, due 6⟩) ∧
    (∀ x ∈ [Payload.commit 3 r, q, .enroll 3 r, .revoke 3, .params Params.defaults],
      ((writing x true).port .M).inFlight = some 0x34#8) ∧ 0x34#8 ≠ 0x71#8 ∧
    more.writer.portQueue = .profile .WRL :: [] :=
  ⟨fun _ _ => ⟨rest_operating, (by decide : timerDue 0#32 (due 6) = true), rfl, nofun, rfl, rfl⟩, by decide⟩

theorem witness_RestartClearsTheRecords :
    listening .M rest ∧ listening .M (strokingOn .LOCKED 1) ∧ (rest.win .WFL).run = .IDLE ∧ (rest.win .WFL).cont = none :=
  ⟨rest_listens _, ⟨rest_operating, rfl⟩, rfl, rfl⟩

/-- At rest; with the relock timer running; with a marked profile; and at the end of STANDBY's last write. -/
theorem witness_StandbyEnteredWhenFree :
    let marked := winAs .WRL (fun r => { r with mon := { r.mon with marked := true } })
    let last : State := { rest.setPort .M { rest.port .M with inFlight := some 0x71#8 } with
      writer := { rest.writer with running := some ⟨.profile .WRL Profile.unknown, true, false, due 10⟩ } }
    (listening .M rest ∧ calm rest ∧ listening .M marked ∧ calm marked ∧ listening .M relocking ∧ calm relocking ∧
      operating last ∧ calm last) ∧
    ((∀ w, (rest.win w).mon.marked = false) ∧ ∀ w, busy (last.win w).run = false) ∧
      standbyFree rest = true ∧ standbyFree relocking = false ∧ standbyFree marked = true ∧
      standbyFree last = true ∧ last.writer.running = some ⟨.profile .WRL Profile.unknown, true, false, due 10⟩ ∧
      timerDue last.now (due 10) = true ∧ last.writer.portQueue = [] ∧ (last.port .M).inFlight = some 0x71#8 :=
  ⟨⟨rest_listens _, rest_calm, ⟨rest_operating, rfl⟩, like_rest rfl rfl rfl rfl rfl, ⟨rest_operating, rfl⟩,
    like_rest rfl rfl rfl rfl rfl, rest_operating, rfl, nofun, Or.inl rfl⟩,
    ⟨forall_win (by decide), forall_win (by decide)⟩, by decide, by decide, by decide, by decide, rfl, rfl, rfl, rfl⟩

theorem witness_ReadingIsMarkedExpired :
    let x : Reading := ⟨0#32 - timeOf 120000, false⟩
    let s : State := { rest with keyLock := some x }
    operating s ∧ calm s ∧ readingOf .keyLock s = some x ∧ x.expired = false ∧
      timerDue s.now ⟨x.time, 120000⟩ = true :=
  ⟨rest_operating, like_rest rfl rfl rfl rfl rfl, rfl, rfl, by decide⟩

/-- A queued latch job and a window QUEUED under its job, and a retry wait beside them, meet the law of the names with
its premises. -/
theorem witness_QueueNamesLaw :
    let q := (waitingState .LOCKED).setWin .WFL { rest.win .WFL with run := .QUEUED, job := some 9 }
    let s : State := { q with queue := [{ lockJob 7 with targets := .lock .LOCK [.latch .FR] }, windowJob 9] }
    idsLaw s ∧ (∀ w, (s.win w).brakeT.isSome = true → (s.win w).run = .BRAKING) ∧ queueNamesLaw s := by
  refine ⟨⟨by decide, by decide, by decide, by decide, by decide, fun j h => absurd h List.not_mem_nil⟩,
    forall_win (by decide), List.pairwise_pair.mpr ⟨forall_act (by decide), forall_win (by decide)⟩, ?_,
    forall_win (by decide)⟩
  intro a x h
  have e : ∀ b, b = .latch .FL ∨ ((waitingState .LOCKED).act b).wait = none := forall_act (by decide)
  rcases e a with rfl | e
  · obtain rfl := Option.some.inj (h.symm.trans (show _ = some (waitingFor .LOCKED) from rfl))
    exact ⟨by decide, fun j hj => ⟨.LOCK, by cases hj; rfl⟩⟩
  · exact absurd (h.symm.trans e) nofun

/-- A running stroke of job 5 beside a waiting window job 9, with the last id next, meet the law of job ids. -/
theorem witness_IdsLaw : idsLaw { strokingOn .LOCKED 1 with queue := [windowJob 9], nextId := 255 } := by
  refine ⟨by decide, by decide, by decide, by decide, by decide, ?_⟩
  intro j hj
  obtain rfl := List.mem_singleton.mp hj
  exact Or.inl ⟨_, List.mem_singleton_self _, rfl⟩

/-- A fob in use, and the enrolment of another that is being written, meet the law of the fob table. -/
theorem witness_EnrolLaw : enrolLaw { fobAs 5 with
    writer := { rest.writer with running := some ⟨.enroll 3 ⟨true, 9#32, 5⟩, true, false, due 6⟩ }
    ports := ⟨{ rest.ports.m with inFlight := some 0x34#8 }, rest.ports.e⟩ } :=
  ⟨show ∀ i, _ from by decide, by decide,
    fun x h => List.eq_of_mem_singleton (show x ∈ [(3, 9#32)] from h) ▸ ⟨by decide, rfl, show ∀ k, _ from by decide⟩, nofun⟩

/-- One state that meets every law, and a step from it. -/
theorem witness_LawsKeptByEveryStep :
    calm rest ∧ queueBound rest ∧ paramsLaw rest ∧ tagLaw rest ∧ slotLaw rest ∧ unitsLaw rest ∧
      (∀ w, (rest.win w).brakeT.isSome = true → (rest.win w).run = .BRAKING) ∧ rest.units ≤ 16 ∧ positionLaw rest ∧
      (∀ w, (rest.win w).H ≤ 900 ∧ (rest.win w).tally ≤ 3) ∧ counterLaw rest ∧
      (∀ x i r, rest.writer.running = some x → x.payload = .commit i r → r.counter ≤ (rest.fob i).C) ∧
      (rest.phase ≠ .LOADING ∧ rest.pending = [] ∧ rest.writer.running = none) ∧
      step rest = .next { rest with now := 1#32 } :=
  ⟨rest_calm, by unfold queueBound; decide, fun p => by cases p <;> decide, by unfold tagLaw; decide,
    fun _ => rfl, by unfold unitsLaw; decide, forall_win (by decide), by decide,
    forall_win (by refine ⟨⟨?_, ?_⟩, ⟨?_, ?_⟩, ⟨?_, ?_⟩, ⟨?_, ?_⟩⟩ <;> intros <;> simp_all [rest, State.win, State.reset,
      PerWin.get, Window.fresh]),
    forall_win (by decide), by unfold counterLaw; decide,
    (fun x _ _ h => (nomatch (show none = some x from h))), ⟨nofun, rfl, rfl⟩, rfl⟩

theorem witness_PowerOnFromAFactoryStore : rest.store = Store.factory ∧ rest.pending = [] ∧ rest.schedule = [] ∧
    ∀ p, (rest.port p).transfer = none := ⟨rfl, rfl, rfl, by rintro (_ | _) <;> rfl⟩

end Sys2Proof.Tests
end

/-! ## The queue's names are not kept where every job id is taken (O56)

With all of the 255 ids live, `freeId` runs out of fuel and hands out an id that a live job holds. A COMFORT window job
that takes the id of an admitted COMFORT job of the same window then makes that window count twice among the COMFORT runs,
so that one shed stops it twice and queues it twice. The law of the names does not ask for the bound on the strokes that
keeps an id free. -/

namespace Sys2Proof.Machine

open Sys2Proof

/-- The window that is shed twice: at rest, with its travel and references known. -/
def crowdedWindow : Window :=
  { Window.fresh ⟨some 400, Vector.replicate 32 5⟩ with normalized := true, P := 100 }

/-- An admitted COMFORT job of the window WFL. -/
def crowdedJob (id : Nat) : Job :=
  ⟨id, .PORT_M, .window ⟨.WFL, .COMFORT, .UP, none, ⟨.PORT_M, 2⟩⟩, .COMFORT, Reading.zero, false, false, 0⟩

/-- The stroke that the law of job ids asks for an admitted job. -/
def crowdedStroke (id : Nat) : Stroke :=
  ⟨some id, .DOOR, .PLUS, [⟨.latch .RR, .LOCKED, 150⟩], 150, Reading.zero, 2, 2⟩

/-- The queued lock job for which COMFORT runs are shed. -/
def crowdedLock : Job :=
  ⟨1, .PORT_M, .lock .LOCK [.latch .FL, .latch .FR, .latch .RL], .USER, Reading.zero, false, false, 0⟩

/-- The queued child job whose stroke is cut at its start, which calls for the second attempt. -/
def crowdedChild : Job :=
  ⟨2, .PORT_M, .lock .ENGAGE [.child .CRL], .USER, Reading.zero, false, false, 0⟩

/-- A state at the start of comfort in which jobs hold all ids from 1 to 255. -/
def crowded : State :=
  { State.reset.setAct (.child .CRL) { ActRec.fresh .RELEASED with attempts := 1 } with
    pending := [.startTimerExpiry]
    windows := { State.reset.windows with wfl := crowdedWindow }
    pins := { Config.restPins with ocTail := true }
    queue := [crowdedLock, crowdedChild]
    units := 8
    admitted := (List.range' 3 253).map crowdedJob
    strokes := (List.range' 3 253).map crowdedStroke
    nextId := 3
    hold := { Hold.closed with isOpen := true, startT := some ⟨0#32, 0⟩ } }

/-- The state that a step of `crowded` leaves. -/
def crowdedNext : State := finish (startComfort { crowded with pending := [] })

theorem step_crowded : step crowded = .next crowdedNext :=
  congrArg Host.Outcome.next (expiry_due (t := ⟨0#32, 0⟩) (Or.inl rfl) rfl (by decide) startComfort)

theorem crowded_liveIds : crowded.liveIds = List.range' 1 255 := by
  have reserved : crowded.reserved = [] := rfl
  simp only [State.liveIds, State.liveJobs, reserved, List.append_nil, List.map_append]
  rw [show crowded.admitted = (List.range' 3 253).map crowdedJob from rfl, List.map_map,
    show (fun j : Job => j.id) ∘ crowdedJob = id from rfl, List.map_id]
  rfl

theorem crowded_idsLaw : idsLaw crowded := by
  refine ⟨by decide, by decide, ?_, ?_, ?_, ?_⟩
  · rw [crowded_liveIds]
    exact List.nodup_range'
  · intro id h
    rw [crowded_liveIds, List.mem_range'_1] at h
    omega
  · intro st h
    obtain ⟨id, -, rfl⟩ := List.mem_map.mp h
    exact List.cons_ne_nil _ _
  · intro j h
    obtain ⟨id, hid, rfl⟩ := List.mem_map.mp h
    exact Or.inl ⟨crowdedStroke id, List.mem_map_of_mem hid, rfl⟩

theorem crowded_no_wait (a : Act) : (crowded.act a).wait = none := by
  rcases a with (_ | _ | _ | _ | _) | (_ | _) <;> rfl

theorem crowded_queueNamesLaw : queueNamesLaw crowded := by
  refine ⟨List.pairwise_pair.mpr ⟨?_, ?_⟩, ?_, ?_⟩
  · rintro ((_ | _ | _ | _ | _) | (_ | _)) <;> decide
  · rintro (_ | _ | _ | _) <;> decide
  · intro a x h
    rw [crowded_no_wait] at h
    cases h
  · rintro (_ | _ | _ | _) h <;> cases h

theorem crowded_brakes (w : Win) : (crowded.win w).brakeT = none := by
  rcases w with _ | _ | _ | _ <;> rfl

/-- After the step two queued jobs name the window WFL. -/
theorem crowdedNext_names_twice : crowdedNext.queue.map (·.namesWindow .WFL) = [false, true, true] := by
  decide +kernel

theorem crowdedNext_not_queueLaw : ¬ queueLaw crowdedNext := by
  intro h
  have twice : (crowdedNext.queue.map (·.namesWindow .WFL)).Pairwise (fun x y => ¬(x = true ∧ y = true)) :=
    List.pairwise_map.mpr (h.imp (fun hij => hij.2 .WFL))
  rw [crowdedNext_names_twice] at twice
  exact absurd twice (by decide)

/-- Refutes O56: the law of the queue's names is lost in a step from a state in which every job id is taken. -/
theorem not_smallLawsKeptByEveryStep : ¬ Obligations.SmallLawsKeptByEveryStep := by
  intro h
  obtain ⟨-, names, -⟩ := h crowded crowdedNext step_crowded
  have law := names crowded_queueNamesLaw crowded_idsLaw (fun w hw => by simp [crowded_brakes w] at hw)
  exact crowdedNext_not_queueLaw law.1

end Sys2Proof.Machine

/-! ## What an operation leaves of the locks

`LocksFrame s t`: on the way from `s` to `t` the records keep state, activity and wait, the strokes and the crash slot stay,
and nothing is added of what the laws of the locks restrict. The window, port, fob, search and store operations are all of
this kind; one lemma for each, in the order of the model. -/

namespace Sys2Proof.Machine

open Sys2Proof

/-- Every lock or child job of the second queue has its goal, and its actuators among others, from one of the first. -/
def QueueLe (p q : List Job) : Prop :=
  ∀ j ∈ q, ∀ g, j.goal? = some g → ∃ i ∈ p, i.goal? = some g ∧ ∀ a ∈ j.acts, a ∈ i.acts

theorem QueueLe.refl (q : List Job) : QueueLe q q := fun j hj _ hg => ⟨j, hj, hg, fun _ h => h⟩

theorem QueueLe.trans {p q r : List Job} (h : QueueLe p q) (k : QueueLe q r) : QueueLe p r := by
  intro j hj g hg
  obtain ⟨i, hi, gi, ai⟩ := k j hj g hg
  obtain ⟨e, he, ge, ae⟩ := h i hi g gi
  exact ⟨e, he, ge, fun a ha => ae a (ai a ha)⟩

theorem QueueLe.of_subset {p q : List Job} (h : ∀ j ∈ q, j ∈ p) : QueueLe p q :=
  fun j hj _ hg => ⟨j, h j hj, hg, fun _ ha => ha⟩

theorem QueueLe.map {f : Job → Job} (q : List Job)
    (h : ∀ j g, (f j).goal? = some g → j.goal? = some g ∧ ∀ a ∈ (f j).acts, a ∈ j.acts) : QueueLe q (q.map f) := by
  intro j hj g hg
  obtain ⟨i, hi, rfl⟩ := List.mem_map.mp hj
  exact ⟨i, hi, h i g hg⟩

theorem goal_of_names {j : Job} {a : Act} (h : a ∈ j.acts) : ∃ g, j.goal? = some g := by
  cases e : j.targets with
  | lock g as => exact ⟨g, by simp [Job.goal?, e]⟩
  | window k => simp [Job.acts, e] at h

theorem names_iff {j : Job} {a : Act} : j.names a = true ↔ a ∈ j.acts := List.contains_iff_mem

/-- No queued job names the actuator. -/
theorem queuedFor_eq_none {s : State} {a : Act} : s.queuedFor a = none ↔ ∀ j ∈ s.queue, a ∉ j.acts := by
  simp [State.queuedFor, names_iff]

theorem queuedFor_none_of_le {s t : State} {a : Act} (h : QueueLe s.queue t.queue) (hs : s.queuedFor a = none) :
    t.queuedFor a = none := by
  rw [queuedFor_eq_none] at hs ⊢
  intro j hj ha
  obtain ⟨g, hg⟩ := goal_of_names ha
  obtain ⟨i, hi, -, sub⟩ := h j hj g hg
  exact hs i hi (sub a ha)

/-- The part of a state that the laws of the locks speak of, all else as after reset. -/
def lockView (s : State) : State :=
  { State.reset with
    table := s.table
    strokes := s.strokes
    slot := s.slot
    queue := s.queue
    crash := { State.reset.crash with latch := s.crash.latch }
    pins := { Config.restPins with lock := s.pins.lock, dead := s.pins.dead, engaged := s.pins.engaged }
    phase := s.phase
    relock := s.relock
    hold := { Hold.closed with isOpen := s.hold.isOpen }
    search := { SearchUnit.fresh with current := s.search.current } }

structure LocksFrame (s t : State) : Prop where
  state : ∀ a, (t.act a).state = (s.act a).state
  activity : ∀ a, (t.act a).activity = (s.act a).activity
  wait : ∀ a, (t.act a).wait = (s.act a).wait
  strokes : t.strokes = s.strokes
  slot : t.slot = s.slot
  queue : QueueLe s.queue t.queue
  latch : t.crash.latch = s.crash.latch
  sensed : ∀ a, t.sensed a = s.sensed a
  loading : t.phase = .LOADING ↔ s.phase = .LOADING
  relock : t.relock = none ∨ t.relock = s.relock
  hold : t.hold.isOpen = true → s.hold.isOpen = true
  search : ∀ x, t.search.current = some x → ∃ y, s.search.current = some y ∧ y.purpose = x.purpose

/-- The sensed positions depend on the contacts alone (R3). -/
theorem sensed_congr {s t : State} (hl : t.pins.lock = s.pins.lock) (hd : t.pins.dead = s.pins.dead)
    (he : t.pins.engaged = s.pins.engaged) (a : Act) : t.sensed a = s.sensed a := by
  cases a <;> simp [State.sensed, decodeContacts, hl, hd, he]

theorem act_congr {s t : State} (h : t.table = s.table) (a : Act) : t.act a = s.act a := by
  cases a <;> simp [State.act, h]

namespace LocksFrame

variable {s t u : State}

theorem refl (s : State) : LocksFrame s s where
  state _ := rfl
  activity _ := rfl
  wait _ := rfl
  strokes := rfl
  slot := rfl
  queue := .refl _
  latch := rfl
  sensed _ := rfl
  loading := Iff.rfl
  relock := Or.inr rfl
  hold := id
  search x h := ⟨x, h, rfl⟩

theorem trans (h : LocksFrame s t) (k : LocksFrame t u) : LocksFrame s u where
  state a := (k.state a).trans (h.state a)
  activity a := (k.activity a).trans (h.activity a)
  wait a := (k.wait a).trans (h.wait a)
  strokes := k.strokes.trans h.strokes
  slot := k.slot.trans h.slot
  queue := h.queue.trans k.queue
  latch := k.latch.trans h.latch
  sensed a := (k.sensed a).trans (h.sensed a)
  loading := k.loading.trans h.loading
  relock := k.relock.elim .inl (fun e => e ▸ h.relock)
  hold x := h.hold (k.hold x)
  search x e := by
    obtain ⟨y, ey, hy⟩ := k.search x e
    obtain ⟨z, ez, hz⟩ := h.search y ey
    exact ⟨z, ez, hz.trans hy⟩

/-- Changes outside what the laws of the locks speak of. -/
theorem view (h : LocksFrame s t) (e : lockView u = lockView t) : LocksFrame s u := by
  have table : u.table = t.table := (congrArg State.table e :)
  have current : u.search.current = t.search.current := (congrArg (fun x => x.search.current) e :)
  have loading : u.phase = t.phase := (congrArg State.phase e :)
  have isOpen : u.hold.isOpen = t.hold.isOpen := (congrArg (fun x => x.hold.isOpen) e :)
  have queue : u.queue = t.queue := (congrArg State.queue e :)
  exact h.trans
    { state := fun a => by rw [act_congr table]
      activity := fun a => by rw [act_congr table]
      wait := fun a => by rw [act_congr table]
      strokes := (congrArg State.strokes e :)
      slot := (congrArg State.slot e :)
      queue := queue ▸ .refl _
      latch := (congrArg (fun x => x.crash.latch) e :)
      sensed := sensed_congr (congrArg (fun x => x.pins.lock) e :) (congrArg (fun x => x.pins.dead) e :)
        (congrArg (fun x => x.pins.engaged) e :)
      loading := by rw [loading]
      relock := Or.inr (congrArg State.relock e :)
      hold := fun x => isOpen ▸ x
      search := fun x hx => ⟨x, current ▸ hx, rfl⟩ }

theorem ofView (e : lockView t = lockView s) : LocksFrame s t := (refl s).view e

/-- A record changes in fields that the laws of the locks do not speak of. -/
theorem setAct {a : Act} {r : ActRec} (h : LocksFrame s t) (hs : r.state = (t.act a).state)
    (ha : r.activity = (t.act a).activity) (hw : r.wait = (t.act a).wait) : LocksFrame s (t.setAct a r) := by
  have same : ∀ b, ((t.setAct a r).act b).state = (t.act b).state ∧
      ((t.setAct a r).act b).activity = (t.act b).activity ∧ ((t.setAct a r).act b).wait = (t.act b).wait := by
    intro b
    rcases eq_or_ne b a with rfl | hb
    · simp [hs, ha, hw]
    · simp [act_setAct_ne _ _ hb]
  exact h.trans
    { state := fun b => (same b).1
      activity := fun b => (same b).2.1
      wait := fun b => (same b).2.2
      strokes := by simp
      slot := by simp
      queue := by simpa using .refl _
      latch := by simp
      sensed := sensed_congr (by simp) (by simp) (by simp)
      loading := by simp
      relock := by simp
      hold := by simp
      search := fun x hx => ⟨x, by simpa using hx, rfl⟩ }

end LocksFrame

/-! ### Records and the queue -/

section
variable {s t : State}

theorem frame_foldl {α : Type} {f : State → α → State} (h : ∀ {u : State} (a : α), LocksFrame s u → LocksFrame s (f u a))
    (l : List α) (k : LocksFrame s t) : LocksFrame s (l.foldl f t) := by
  induction l generalizing t with
  | nil => exact k
  | cons a l ih => exact ih (h a k)

theorem frame_raise {k : Notice} (h : LocksFrame s t) : LocksFrame s (raise k t) := h.view rfl
theorem frame_trigger (h : LocksFrame s t) : LocksFrame s (trigger t) := h.view rfl
theorem frame_setWin {w : Win} {r : Window} (h : LocksFrame s t) : LocksFrame s (t.setWin w r) := h.view rfl
theorem frame_setPort {p : Port} {r : PortRec} (h : LocksFrame s t) : LocksFrame s (t.setPort p r) := h.view rfl
theorem frame_setFob {i : Fin 8} {r : FobSlot} (h : LocksFrame s t) : LocksFrame s (t.setFob i r) := h.view rfl
theorem frame_dropAdmitted {id : Nat} (h : LocksFrame s t) : LocksFrame s (dropAdmitted id t) := h.view rfl
theorem frame_tookId (h : LocksFrame s t) : LocksFrame s t.tookId := h.view rfl

theorem setQueue_view (q : List Job) (s : State) : lockView (s.setQueue q) = lockView { s with queue := q } := by
  unfold State.setQueue
  split
  · rfl
  · split <;> rfl

theorem frame_queue {q : List Job} (h : LocksFrame s t) (hq : QueueLe t.queue q) : LocksFrame s { t with queue := q } :=
  h.trans { LocksFrame.refl t with queue := hq }

theorem frame_setQueue {q : List Job} (h : LocksFrame s t) (hq : QueueLe t.queue q) : LocksFrame s (t.setQueue q) :=
  (frame_queue h hq).view (setQueue_view q t)

theorem mem_insertByAge {now : Time} {j x : Job} {q : List Job} : x ∈ insertByAge now j q ↔ x = j ∨ x ∈ q := by
  induction q with
  | nil => simp [insertByAge]
  | cons y q ih =>
    unfold insertByAge
    split
    · simp
    · simp [ih, or_left_comm]

/-- A window job enters the queue. -/
theorem frame_enterQueue {j : Job} (hj : j.goal? = none) (h : LocksFrame s t) : LocksFrame s (enterQueue j t) := by
  refine frame_trigger (frame_setQueue h ?_)
  intro x hx g hg
  rcases mem_insertByAge.mp hx with rfl | hx
  · exact absurd (show j.goal? = some g from hg) (by simp [hj])
  · exact ⟨x, hx, hg, fun _ ha => ha⟩

theorem frame_takeFromQueue {id : Nat} (h : LocksFrame s t) : LocksFrame s (takeFromQueue id t) :=
  frame_setQueue h (.of_subset (fun _ hj => List.mem_of_mem_filter hj))

theorem frame_removeFromQueue {id : Nat} (h : LocksFrame s t) : LocksFrame s (removeFromQueue id t) :=
  frame_trigger (frame_takeFromQueue h)

/-- Queued jobs are changed in place, with no new lock or child target. -/
theorem frame_changeQueued {kind : Job → Bool} {f : Job → Job} (h : LocksFrame s t)
    (hf : ∀ j g, kind j = true → (f j).goal? = some g → j.goal? = some g ∧ ∀ a ∈ (f j).acts, a ∈ j.acts) :
    LocksFrame s (changeQueued kind f t) := by
  refine frame_setQueue h (.map _ ?_)
  intro j g hg
  split at hg
  · rw [if_pos ‹_›]
    exact hf j g ‹_› hg
  · rw [if_neg ‹_›]
    exact ⟨hg, fun _ ha => ha⟩

/-! ### Windows -/

theorem frame_stopWindow {w : Win} {c : Option Continuation} (h : LocksFrame s t) : LocksFrame s (stopWindow w c t) :=
  frame_setWin h
theorem frame_dropContinuation {w : Win} (h : LocksFrame s t) : LocksFrame s (dropContinuation w t) := frame_setWin h
theorem frame_setWindowFault {w : Win} {f : WindowFault} (h : LocksFrame s t) : LocksFrame s (setWindowFault w f t) :=
  frame_raise (frame_setWin h)

theorem frame_idleWindow {w : Win} (h : LocksFrame s t) : LocksFrame s (idleWindow w t) := by
  simp only [idleWindow]
  split
  · exact frame_setWin h
  · exact frame_raise (frame_setWin h)

theorem frame_removeWindowJob {w : Win} (h : LocksFrame s t) : LocksFrame s (removeWindowJob w t) := by
  simp only [removeWindowJob]
  split
  · exact h
  · split
    · exact frame_idleWindow (frame_removeFromQueue h)
    · exact frame_removeFromQueue h

theorem frame_overcurrentWindow {w : Win} (h : LocksFrame s t) : LocksFrame s (overcurrentWindow w t) :=
  frame_setWindowFault (frame_stopWindow h)

theorem frame_startDrive {w : Win} {run : RunState} {mode : RunMode} {dir : Dir} {target : Option Nat}
    {cmd : Option Commander} (h : LocksFrame s t) : LocksFrame s (startDrive w run mode dir target cmd t) := by
  simp only [startDrive]
  split
  · exact frame_overcurrentWindow (frame_setWin h)
  · exact frame_setWin h

theorem frame_endBraking {w : Win} (h : LocksFrame s t) : LocksFrame s (endBraking w t) := by
  simp only [endBraking]
  cases (t.win w).job
  all_goals
    simp only
    split
    · split
      · exact frame_setWin (frame_trigger (h.view rfl))
      · exact frame_idleWindow (frame_trigger (h.view rfl))
    · exact frame_idleWindow (frame_trigger (h.view rfl))

theorem frame_brakingOver {w : Win} (h : LocksFrame s t) : LocksFrame s (brakingOver w t) := by
  unfold brakingOver
  split
  · split
    · exact frame_startDrive (frame_setWin h)
    · split
      · exact frame_startDrive h
      · exact frame_endBraking h
  · exact frame_endBraking h

theorem frame_pinch {w : Win} {x : LastPinch} (h : LocksFrame s t) : LocksFrame s (pinch w x t) :=
  frame_raise (frame_setWin (frame_stopWindow (frame_setWin h)))
theorem frame_stopAtTarget {w : Win} (h : LocksFrame s t) : LocksFrame s (stopAtTarget w t) :=
  frame_setWin (frame_stopWindow h)
theorem frame_tookChoice (h : LocksFrame s t) : LocksFrame s t.tookChoice := h.view rfl

theorem frame_edgeEffects {w : Win} {T : Nat} (h : LocksFrame s t) : LocksFrame s (edgeEffects w T t) := by
  simp only [edgeEffects]
  split
  · split
    · split
      · split
        · exact frame_stopAtTarget (frame_tookChoice h)
        · exact frame_tookChoice (frame_pinch (frame_setWin h))
      · exact frame_pinch (frame_setWin h)
    · split
      · exact frame_stopAtTarget (frame_setWin h)
      · exact frame_setWin h
  · split
    · exact frame_stopAtTarget h
    · split
      · exact frame_stopWindow h
      · exact h

theorem frame_qualifiedEdge {w : Win} {i : HallInput} {since : Nat} (h : LocksFrame s t) :
    LocksFrame s (qualifiedEdge w i since t) := by
  simp only [qualifiedEdge]
  split
  · exact frame_edgeEffects (frame_setWin h)
  · exact frame_setWin h

theorem frame_markProfile {w : Win} (h : LocksFrame s t) : LocksFrame s (markProfile w t) := by
  have marked : LocksFrame s (t.setWin w { t.win w with mon := { (t.win w).mon with marked := true } }) := frame_setWin h
  simp only [markProfile]
  split
  · split
    · split
      · exact marked.view rfl
      · exact marked
    · exact marked
  · exact marked

theorem frame_askBackground {w : Win} (h : LocksFrame s t) : LocksFrame s (askBackground w t) := by
  unfold askBackground
  split
  · exact h
  · exact h.view rfl

theorem frame_topReached {w : Win} (h : LocksFrame s t) : LocksFrame s (topReached w t) := by
  have learned : LocksFrame s (learnAtTop w t) := by
    simp only [learnAtTop]
    split
    · exact frame_markProfile (frame_setWin h)
    · exact frame_setWin h
  exact frame_stopWindow (frame_setWin learned)

theorem frame_stallFault {w : Win} (h : LocksFrame s t) : LocksFrame s (stallFault w t) :=
  frame_setWindowFault (frame_stopWindow h)

theorem frame_stallWindow {w : Win} (h : LocksFrame s t) : LocksFrame s (stallWindow w t) := by
  simp only [stallWindow]
  split
  · split
    · simp only [stallUp]
      split
      · exact frame_topReached h
      · split
        · exact frame_stallFault h
        · exact frame_pinch h
    · simp only [stallDown]
      split
      · exact frame_stopWindow h
      · split
        · split
          · exact frame_stopWindow (frame_askBackground (frame_markProfile (frame_setWin h)))
          · exact frame_stallFault h
        · split
          · exact frame_stopWindow (frame_setWin h)
          · exact frame_stallFault h
  · exact h

theorem frame_testHold {w : Win} (h : LocksFrame s t) : LocksFrame s (testHold w t) := by
  simp only [testHold]
  split
  · have held := frame_setWindowFault (w := w) (f := .THERMAL) (frame_setWin (w := w) (r := { t.win w with held := true }) h)
    refine frame_removeWindowJob ?_
    split
    · exact frame_stopWindow held
    · split
      · exact frame_dropContinuation held
      · exact held
  · split
    · exact frame_trigger (frame_setWin h)
    · exact h

theorem frame_haltWindow {w : Win} (h : LocksFrame s t) : LocksFrame s (haltWindow w t) := by
  simp only [haltWindow]
  split
  · exact frame_stopWindow h
  · split
    · exact frame_dropContinuation h
    · exact h

theorem frame_haltAllWindows (h : LocksFrame s t) : LocksFrame s (haltAllWindows t) :=
  frame_foldl (f := fun t w => haltWindow w t) (fun _ => frame_haltWindow) _ h
theorem frame_removeAllWindowJobs (h : LocksFrame s t) : LocksFrame s (removeAllWindowJobs t) :=
  frame_foldl (f := fun t w => removeWindowJob w t) (fun _ => frame_removeWindowJob) _ h

theorem frame_undervoltageStop {w : Win} (h : LocksFrame s t) : LocksFrame s (undervoltageStop w t) := by
  simp only [undervoltageStop]
  split
  · exact frame_stopWindow h
  · exact h

/-! ### Window jobs -/

theorem frame_rejectWindowJob {j : Job} {w : Win} (h : LocksFrame s t) : LocksFrame s (rejectWindowJob j w t) := by
  simp only [rejectWindowJob]
  split
  · exact frame_idleWindow (frame_takeFromQueue h)
  · exact frame_takeFromQueue h

theorem frame_admitWindow {j : Job} {k : WindowTask} (h : LocksFrame s t) : LocksFrame s (admitWindow j k t) :=
  frame_startDrive (frame_setWin ((frame_takeFromQueue (id := j.id) h).view rfl))

theorem frame_requeueComfort {w : Win} {c : Commander} (h : LocksFrame s t) : LocksFrame s (requeueComfort w c t) := by
  simp only [requeueComfort]
  split
  · exact h
  · exact frame_enterQueue rfl (frame_tookId h)

theorem frame_shedWindow {w : Win} (h : LocksFrame s t) : LocksFrame s (shedWindow w t) := by
  simp only [shedWindow]
  split
  · exact frame_requeueComfort (frame_stopWindow h)
  · exact frame_stopWindow h

theorem frame_shedRuns {ws : List Win} {covered need : Nat} (h : LocksFrame s t) :
    LocksFrame s (shedRuns ws covered need t) := by
  induction ws generalizing covered t with
  | nil => exact h
  | cons w ws ih =>
    unfold shedRuns
    split
    · exact h
    · exact ih (frame_shedWindow h)

theorem frame_shedFor {j : Job} {cost : Nat} (h : LocksFrame s t) : LocksFrame s (shedFor j cost t) := by
  simp only [shedFor]
  split
  · exact h
  · split
    · exact h
    · exact frame_changeQueued (frame_shedRuns h) (fun _ _ _ hg => ⟨hg, fun _ ha => ha⟩)

theorem frame_newWindowJob {k : WindowTask} {p : Priority} (h : LocksFrame s t) :
    LocksFrame s (newWindowJob k p t).2 := by
  simp only [newWindowJob]
  split
  · exact h
  · split
    · exact frame_setWin (frame_enterQueue rfl (frame_tookId h))
    · exact frame_enterQueue rfl (frame_tookId h)

theorem frame_replaceJob {j : Job} {k : WindowTask} {p : Priority} (h : LocksFrame s t) :
    LocksFrame s (replaceJob j k p t).2 := by
  have replaced := frame_trigger (frame_changeQueued (kind := (·.namesWindow k.win))
    (f := fun x => { x with targets := .window k, priority := p }) h (fun _ _ _ hg => nomatch hg))
  simp only [replaceJob]
  split
  · exact frame_setWin replaced
  · exact replaced

theorem frame_takeOver {k : WindowTask} (h : LocksFrame s t) : LocksFrame s (takeOver k t) := frame_setWin h

theorem frame_requestWindow {k : WindowTask} {p : Priority} (h : LocksFrame s t) :
    LocksFrame s (requestWindow k p t).2 := by
  simp only [requestWindow]
  split
  · exact frame_newWindowJob h
  · split
    · exact h
    · split
      · exact frame_replaceJob h
      · exact frame_newWindowJob h
  · split
    · exact h
    · split
      · exact frame_takeOver h
      · exact frame_stopWindow h
  · split
    · exact h
    · split
      · exact h
      · split
        · exact frame_setWin h
        · split
          · exact frame_replaceJob h
          · exact frame_newWindowJob h
  · exact h

/-! ### Events of the lock table, the switches and the windows -/

theorem frame_pump (h : LocksFrame s t) : LocksFrame s (pump t) :=
  h.view (by rw [pump_writer]; rfl)

theorem frame_requestWrites {xs : List PortWrite} (h : LocksFrame s t) : LocksFrame s (requestWrites xs t) := h.view rfl

/-- The end of standby leaves the locks alone: what follows its contacts does so in both phases. -/
theorem frame_wake (h : LocksFrame s t) : LocksFrame s (wake t) := by
  unfold wake
  split
  · rename_i e
    have woken : LocksFrame t { t with phase := .ACTIVE } := { LocksFrame.refl t with loading := by simp [e] }
    dsimp only
    split
    · exact frame_trigger (h.trans woken)
    · exact h.trans woken
  · exact h

theorem frame_relockOff (h : LocksFrame s t) : LocksFrame s { t with relock := none } :=
  h.trans { LocksFrame.refl t with relock := Or.inl rfl }

theorem frame_cancelRelock (h : LocksFrame s t) : LocksFrame s (cancelRelock t) := frame_relockOff h

theorem frame_ajarWork {b : Bool} (h : LocksFrame s t) : LocksFrame s (ajarWork b t) := by
  unfold ajarWork
  dsimp only
  split
  · exact frame_relockOff (frame_raise (frame_wake h))
  · exact frame_raise (frame_wake h)

theorem frame_setFault {a : Act} {f : LockFault} (h : LocksFrame s t) : LocksFrame s (setFault a f t) := by
  unfold setFault
  dsimp only
  split
  · exact h.setAct rfl rfl rfl
  · exact frame_raise (h.setAct rfl rfl rfl)

theorem frame_invalidWork {a : Act} (h : LocksFrame s t) : LocksFrame s (invalidWork a t) :=
  frame_setFault (h.setAct rfl rfl rfl)

theorem frame_decayWork {a : Act} (h : LocksFrame s t) : LocksFrame s (decayWork a t) := by
  unfold decayWork
  dsimp only
  split
  · exact frame_trigger (h.setAct rfl rfl rfl)
  · exact h.setAct rfl rfl rfl

theorem frame_dropStanding {w : Win} (h : LocksFrame s t) : LocksFrame s (dropStanding w t) := by
  unfold dropStanding
  dsimp only
  split
  · exact h
  · exact frame_removeWindowJob h
  · exact frame_stopWindow h
  · split
    · exact frame_dropContinuation h
    · exact frame_removeWindowJob h
  · exact h

theorem frame_deepenStanding {w : Win} {x : Standing} (h : LocksFrame s t) : LocksFrame s (deepenStanding w x t) := by
  unfold deepenStanding
  dsimp only
  split
  · exact frame_takeOver h
  · split
    · exact frame_setWin h
    · split
      · exact frame_replaceJob h
      · exact h
  · split
    · exact frame_replaceJob h
    · exact h
  · exact h

theorem frame_switchRequest {sw : Switch} {m : RunMode} {d : Dir} (h : LocksFrame s t) :
    LocksFrame s (switchRequest sw m d t) := by
  unfold switchRequest
  dsimp only
  split
  · exact frame_requestWindow h
  · exact h

theorem frame_setSpent {sw : Switch} {b : Bool} (h : LocksFrame s t) : LocksFrame s (setSpent sw b t) := h.view rfl

theorem frame_pressSwitch {sw : Switch} {d : Dir} {two : Bool} (h : LocksFrame s t) :
    LocksFrame s (pressSwitch sw d two t) := by
  unfold pressSwitch
  dsimp only
  split
  · split
    · exact frame_setSpent (frame_stopWindow h)
    · exact h
  · split
    · exact frame_setSpent (frame_dropStanding h)
    · exact frame_switchRequest h

theorem frame_deepenSwitch {sw : Switch} {d : Dir} (h : LocksFrame s t) : LocksFrame s (deepenSwitch sw d t) := by
  unfold deepenSwitch
  dsimp only
  split
  · exact h
  · split
    · split
      · exact h
      · split
        · split
          · exact frame_deepenStanding h
          · exact h
        · exact frame_switchRequest h
    · exact frame_switchRequest h

theorem frame_releaseSwitch {sw : Switch} (h : LocksFrame s t) : LocksFrame s (releaseSwitch sw t) := by
  refine frame_foldl (f := releaseAt (switchOrigin sw)) ?_ _ (frame_setSpent h)
  intro u w k
  unfold releaseAt
  split
  · split
    · exact frame_dropStanding k
    · exact k
  · exact k

theorem frame_switchWork {sw : Switch} {old new : Stage} (h : LocksFrame s t) :
    LocksFrame s (switchWork sw old new t) := by
  unfold switchWork
  dsimp only
  split
  · exact frame_wake h
  · exact frame_pressSwitch (frame_wake h)
  · exact frame_releaseSwitch (frame_wake h)
  · split
    · split
      · exact frame_deepenSwitch (frame_wake h)
      · exact frame_wake h
    · exact frame_pressSwitch (frame_releaseSwitch (frame_wake h))

theorem frame_stopRequest {w : Win} (h : LocksFrame s t) : LocksFrame s (stopRequest w t).2 := by
  unfold stopRequest
  dsimp only
  split
  · exact h
  · exact h
  · split
    · split
      · exact h
      · exact frame_dropContinuation h
    · split
      · split
        · exact h
        · exact frame_removeWindowJob h
      · exact h
  · split
    · exact h
    · exact frame_dropStanding h

theorem stopAnswer_snd (x : Option Reason × State) : (stopAnswer x).2 = x.2 := by
  rcases x with ⟨_ | _, _⟩ <;> rfl

theorem frame_portWindowRequest {k : WindowTask} (h : LocksFrame s t) : LocksFrame s (portWindowRequest k t).2 := by
  have taken := frame_requestWindow (k := k) (p := .USER) h
  unfold portWindowRequest
  split
  · exact h
  · split
    all_goals
      rename_i e
      rw [e] at taken
      exact taken

theorem frame_gotoRequest {w : Win} {pos L : Nat} (h : LocksFrame s t) : LocksFrame s (gotoRequest w pos L t).2 := by
  unfold gotoRequest
  dsimp only
  split
  · exact frame_stopRequest h
  · generalize (if min pos L < (t.win w).P then Dir.UP else .DOWN) = d
    split
    · exact h
    · exact frame_portWindowRequest h

theorem frame_takeWindowRequest {w a : Byte} {x : BitVec 16} (h : LocksFrame s t) :
    LocksFrame s (takeWindowRequest w a x t).2 := by
  unfold takeWindowRequest
  split
  · split
    · rw [stopAnswer_snd]
      exact frame_stopRequest h
    · split
      · exact h
      · split
        · exact h
        · split
          · exact h
          · unfold moveRequest
            split
            · split
              · exact frame_portWindowRequest h
              · exact h
            · exact frame_portWindowRequest h
            · split
              · exact frame_gotoRequest h
              · exact h
            · rw [stopAnswer_snd]
              exact frame_stopRequest h
  · exact h

theorem frame_sensorLost {w : Win} (h : LocksFrame s t) : LocksFrame s (sensorLost w t) := by
  have lost : ∀ r, LocksFrame s (setWindowFault w .SENSOR_LOST ((haltWindow w t).setWin w r)) :=
    fun _ => frame_setWindowFault (frame_setWin (frame_haltWindow h))
  unfold sensorLost removeUnfit
  dsimp only
  split
  · split
    · exact lost _
    · exact frame_removeWindowJob (lost _)
  · exact lost _

theorem frame_supplyWork {was : Nat} (h : LocksFrame s t) : LocksFrame s (supplyWork was t) := by
  unfold supplyWork
  split
  · exact frame_foldl (f := fun t w => undervoltageStop w t) (fun _ => frame_undervoltageStop) _ h
  · split
    · exact frame_trigger h
    · exact h

theorem frame_heatWork {w : Win} (h : LocksFrame s t) : LocksFrame s (heatWork w t) := frame_testHold (frame_setWin h)
theorem frame_coolWork {w : Win} (h : LocksFrame s t) : LocksFrame s (coolWork w t) := frame_testHold (frame_setWin h)

theorem frame_blockingWork {id : Nat} (h : LocksFrame s t) : LocksFrame s (blockingWork id t) :=
  frame_trigger (frame_changeQueued h (fun _ _ _ hg => ⟨hg, fun _ ha => ha⟩))

/-! ### Searches, fobs and the hold -/

theorem frame_joinSearch {x : OpenSearch} {l : Latch} (h : LocksFrame s t) (e : t.search.current = some x) :
    LocksFrame s (joinSearch x l t) :=
  h.trans { LocksFrame.refl t with search := fun _ hy => ⟨x, e, by cases hy; rfl⟩ }

/-- A state whose search unit has no open search. -/
theorem frame_searchOff {v : SearchUnit} (h : LocksFrame s t) (e : v.current = none) :
    LocksFrame s { t with search := v } :=
  h.trans { LocksFrame.refl t with search := fun _ hx => nomatch e.symm.trans hx }

theorem setHoldOff_current (v : SearchUnit) (l : Latch) (x : Option Timer) :
    (v.setHoldOff l x).current = v.current := by cases l <;> rfl

theorem holdOffs_current (v : SearchUnit) (ls : List Latch) (x : Option Timer) :
    (ls.foldl (fun u l => u.setHoldOff l x) v).current = v.current := by
  induction ls generalizing v with
  | nil => rfl
  | cons l ls ih => rw [List.foldl_cons, ih, setHoldOff_current]

theorem frame_closeQuietly {o : SearchOutcome} {a : Option SearchAnswer} (h : LocksFrame s t) :
    LocksFrame s (closeQuietly o a t) := by
  unfold closeQuietly
  split
  · exact h
  · refine frame_searchOff h ?_
    split
    · rw [holdOffs_current]
    · rfl

theorem frame_closeSearch {o : SearchOutcome} {a : Option SearchAnswer} (h : LocksFrame s t) :
    LocksFrame s (closeSearch o a t) := by
  unfold closeSearch
  split
  · exact frame_raise (frame_closeQuietly h)
  · exact h

theorem frame_checkSearch (h : LocksFrame s t) : LocksFrame s (checkSearch t) := by
  unfold checkSearch
  split
  · split
    · exact frame_closeSearch h
    · exact h
  · exact h

theorem frame_endHoldOff {l : Latch} (h : LocksFrame s t) : LocksFrame s (endHoldOff l t) :=
  h.trans { LocksFrame.refl t with search := fun x hx => ⟨x, (setHoldOff_current _ _ _).symm.trans hx, rfl⟩ }

theorem frame_takeSearchNone {tag : Byte} (h : LocksFrame s t) : LocksFrame s (takeSearchNone tag t).2 := by
  unfold takeSearchNone
  split
  · exact frame_closeSearch h
  · exact h
  · exact h

theorem frame_stopComfort {w : Win} (h : LocksFrame s t) : LocksFrame s (stopComfort t w) := by
  have removed : ∀ u, LocksFrame s u → LocksFrame s (match (u.queuedWindow w).bind Job.task? with
      | some k => if k.mode = .COMFORT then removeWindowJob w u else u
      | none => u) := by
    intro u k
    split
    · split
      · exact frame_removeWindowJob k
      · exact k
    · exact k
  unfold stopComfort
  refine removed _ ?_
  split
  · exact frame_stopWindow h
  · split
    · exact frame_dropContinuation h
    · exact h

theorem frame_closeHold (h : LocksFrame s t) : LocksFrame s (closeHold t) := by
  have closed : LocksFrame s { t with hold := { t.hold with isOpen := false, startT := none, gapT := none } } :=
    h.trans { LocksFrame.refl t with hold := nofun }
  unfold closeHold
  dsimp only
  split
  · split
    · exact frame_foldl (fun _ => frame_stopComfort) _ closed
    · exact closed
  · exact h

theorem frame_extendHold (h : LocksFrame s t) : LocksFrame s (extendHold t) := h.view rfl

theorem frame_startComfort (h : LocksFrame s t) : LocksFrame s (startComfort t) := by
  have started : LocksFrame s { t with hold := { t.hold with started := true, startT := none } } := h.view rfl
  refine frame_foldl ?_ _ started
  intro u w k
  unfold comfortRequest
  split
  · exact frame_requestWindow k
  · exact k

theorem frame_declineSlot {r : PresentResult} {i : Fin 8} {c : Nat} (h : LocksFrame s t) :
    LocksFrame s (declineSlot r i c t) := by
  unfold declineSlot
  split
  · exact frame_extendHold h
  · exact frame_setFob h
  · exact frame_setFob h
  · exact frame_setFob h
  · exact h

theorem frame_closeByButton {b : Button} (h : LocksFrame s t) : LocksFrame s (closeByButton b t) := by
  unfold closeByButton
  split
  · exact h
  · exact frame_closeHold h

/-! ### The crash line -/

theorem frame_followLine {b : Bool} (h : LocksFrame s t) : LocksFrame s (followLine b t) := by
  unfold followLine
  split
  · unfold lineActive
    dsimp only
    split
    · exact (frame_wake h).view rfl
    · exact frame_wake h
  · unfold lineInactive
    split
    · exact h
    · exact h.view rfl

/-! ### The store and the ports -/

theorem frame_takeInFlight {code : Byte} {xs : List PortWrite} (h : LocksFrame s t) :
    LocksFrame s (takeInFlight code xs t).2 := frame_setPort (frame_requestWrites h)

theorem frame_finalStatus {a : Answer} (h : LocksFrame s t) : LocksFrame s (finalStatus a t) := by
  unfold finalStatus
  dsimp only
  split
  · exact frame_setPort h
  · exact h

theorem frame_changeParams {v : Params} (h : LocksFrame s t) : LocksFrame s (changeParams v t) := by
  have set : LocksFrame s { t with params := v } := h.view rfl
  have triggered : LocksFrame s (if v.driveBudget ≠ t.params.driveBudget then trigger { t with params := v }
      else { t with params := v }) := by
    split
    · exact frame_trigger set
    · exact set
  unfold changeParams
  dsimp only
  have tested : ∀ u, LocksFrame s u → LocksFrame s (if v.heatLimit ≠ t.params.heatLimit then
      Win.all.foldl (fun t w => testHold w t) u else u) := by
    intro u k
    split
    · exact frame_foldl (f := fun t w => testHold w t) (fun _ => frame_testHold) _ k
    · exact k
  split
  · exact frame_checkSearch (tested _ triggered)
  · exact tested _ triggered

theorem frame_standby (h : LocksFrame s t) (e : t.phase ≠ .LOADING) : LocksFrame s { t with phase := .STANDBY } :=
  h.trans { LocksFrame.refl t with loading := by simp [e] }

theorem frame_respond {p : Port} {code : Byte} {a : Answer} (h : LocksFrame s t) : LocksFrame s (respond p code a t) :=
  frame_setPort h

theorem frame_beginTransfer {p : Port} (h : LocksFrame s t) : LocksFrame s (beginTransfer p t) := by
  unfold beginTransfer
  dsimp only
  split
  · exact h
  · exact frame_setPort h

theorem frame_closeHoldOf {i : Fin 8} (h : LocksFrame s t) : LocksFrame s (closeHoldOf i t) := by
  unfold closeHoldOf
  split
  · exact frame_closeHold h
  · exact h

theorem frame_writeDone {x : Writing} (h : LocksFrame s t) : LocksFrame s (writeDone x t) := by
  have idle : LocksFrame s (storeIdle t) := h.view rfl
  have stored : ∀ i r, LocksFrame s (setStoredSlot i r (storeIdle t)) := fun _ _ => idle.view rfl
  unfold writeDone
  dsimp only
  split
  · exact frame_setFob (stored _ _)
  · exact frame_closeHoldOf (frame_setFob (stored _ _))
  · exact frame_closeHoldOf (frame_setFob (stored _ _))
  · exact frame_setWin (idle.view rfl)
  · exact idle.view rfl

theorem frame_portWriteDone {x : Writing} (h : LocksFrame s t) (e : t.phase ≠ .LOADING) :
    LocksFrame s (portWriteDone x t) := by
  unfold portWriteDone
  split
  · split
    · unfold retestStandby
      split
      · exact frame_finalStatus (frame_standby h e)
      · exact frame_finalStatus h
    · exact frame_finalStatus h
  · exact h

end

end Sys2Proof.Machine

/-! ## What an operation on one actuator leaves

`ActFrame a s t`: from `s` to `t` only the record of `a`, its places in the crash slot, the queue's mention of it, job
numbers, triggers and notices change. -/

namespace Sys2Proof.Machine

open Sys2Proof

/-! ### Fields of the operations on one actuator -/

@[simp] theorem isOpen_leaveSlot (a : Act) (s : State) : (leaveSlot a s).slot.isOpen = s.slot.isOpen := by cases a <;> rfl
@[simp] theorem isOpen_joinWaiting (a : Act) (s : State) : (joinWaiting a s).slot.isOpen = s.slot.isOpen := by
  cases a <;> rfl
@[simp] theorem act_leaveSlot (a b : Act) (s : State) : (leaveSlot a s).act b = s.act b := by
  cases a <;> cases b <;> rfl
@[simp] theorem act_joinWaiting (a b : Act) (s : State) : (joinWaiting a s).act b = s.act b := by
  cases a <;> cases b <;> rfl

theorem mem_dropLatch {l k : Latch} {set : List Latch} : l ∈ dropLatch k set ↔ l ∈ set ∧ l ≠ k := by
  simp [dropLatch]

theorem mem_addLatch {l k : Latch} {set : List Latch} : l ∈ addLatch k set ↔ l = k ∨ l ∈ set := by
  have all : l ∈ Latch.all := by cases l <;> decide
  simp [addLatch, all]

/-- A state with another queue: what setQueue leaves beyond the queue, the near-full flag and the notices. -/
theorem setQueue_eq (q : List Job) (s : State) :
    s.setQueue q = { s with queue := q, nearFull := (s.setQueue q).nearFull, ports := (s.setQueue q).ports } := by
  unfold State.setQueue
  dsimp only
  split
  · rfl
  · split <;> rfl

@[simp] theorem setQueue_queue (q : List Job) (s : State) : (s.setQueue q).queue = q := by rw [setQueue_eq]
@[simp] theorem setQueue_table (q : List Job) (s : State) : (s.setQueue q).table = s.table := by rw [setQueue_eq]
@[simp] theorem setQueue_strokes (q : List Job) (s : State) : (s.setQueue q).strokes = s.strokes := by rw [setQueue_eq]
@[simp] theorem setQueue_windows (q : List Job) (s : State) : (s.setQueue q).windows = s.windows := by rw [setQueue_eq]
@[simp] theorem setQueue_units (q : List Job) (s : State) : (s.setQueue q).units = s.units := by rw [setQueue_eq]
@[simp] theorem setQueue_admitted (q : List Job) (s : State) : (s.setQueue q).admitted = s.admitted := by
  rw [setQueue_eq]
@[simp] theorem setQueue_slot (q : List Job) (s : State) : (s.setQueue q).slot = s.slot := by rw [setQueue_eq]
@[simp] theorem setQueue_nextId (q : List Job) (s : State) : (s.setQueue q).nextId = s.nextId := by rw [setQueue_eq]
@[simp] theorem act_setQueue (q : List Job) (s : State) (a : Act) : (s.setQueue q).act a = s.act a :=
  act_congr (by simp) a

/-- dropQueued without its trigger and its notices (R87, R91). -/
theorem dropQueued_eq (a : Act) (s : State) :
    dropQueued a s = { s.setQueue (s.queue.filterMap (Job.without a)) with attemptDue := (dropQueued a s).attemptDue } := by
  unfold dropQueued
  dsimp only
  split <;> rfl

@[simp] theorem dropQueued_queue (a : Act) (s : State) :
    (dropQueued a s).queue = s.queue.filterMap (Job.without a) := by rw [dropQueued_eq]; simp
@[simp] theorem dropQueued_strokes (a : Act) (s : State) : (dropQueued a s).strokes = s.strokes := by
  rw [dropQueued_eq]; simp
@[simp] theorem dropQueued_windows (a : Act) (s : State) : (dropQueued a s).windows = s.windows := by
  rw [dropQueued_eq]; simp
@[simp] theorem dropQueued_units (a : Act) (s : State) : (dropQueued a s).units = s.units := by
  rw [dropQueued_eq]; simp
@[simp] theorem dropQueued_admitted (a : Act) (s : State) : (dropQueued a s).admitted = s.admitted := by
  rw [dropQueued_eq]; simp
@[simp] theorem dropQueued_slot (a : Act) (s : State) : (dropQueued a s).slot = s.slot := by
  rw [dropQueued_eq]; simp
@[simp] theorem act_dropQueued (a b : Act) (s : State) : (dropQueued a s).act b = s.act b :=
  act_congr (by rw [dropQueued_eq]; simp) b

/-- A job less an actuator keeps its goal, and names what it named but the actuator. -/
theorem without_eq_some {a : Act} {i j : Job} (h : i.without a = some j) :
    j.goal? = i.goal? ∧ ∀ b, b ∈ j.acts ↔ b ∈ i.acts ∧ b ≠ a := by
  unfold Job.without at h
  split at h
  · rename_i g as e
    dsimp only at h
    split at h
    · split at h
      · cases h
      · cases h
        simp [Job.goal?, Job.acts, e]
    · rename_i na
      cases h
      simp only [Job.acts, e, true_and]
      intro b
      refine ⟨fun hb => ⟨hb, ?_⟩, And.left⟩
      rintro rfl
      exact na (List.contains_iff_mem.mpr hb)
  · rename_i e
    cases h
    simp [Job.acts, e]

theorem queueLe_filterMap_without (a : Act) (q : List Job) : QueueLe q (q.filterMap (Job.without a)) := by
  intro j hj g hg
  obtain ⟨i, hi, e⟩ := List.mem_filterMap.mp hj
  obtain ⟨goal, acts⟩ := without_eq_some e
  exact ⟨i, hi, goal ▸ hg, fun b hb => ((acts b).mp hb).1⟩

/-- No queued job names an actuator that was taken out of the queue. -/
theorem queuedFor_dropQueued (a : Act) (s : State) : (dropQueued a s).queuedFor a = none := by
  rw [queuedFor_eq_none]
  intro j hj ha
  rw [dropQueued_queue] at hj
  obtain ⟨i, -, e⟩ := List.mem_filterMap.mp hj
  exact (((without_eq_some e).2 a).mp ha).2 rfl

/-- The timer of an INVALID position runs where the contacts decode to none (R5). -/
def invalidTimer (now : Time) (seen : Option Position) : Option Timer :=
  match seen with
  | some _ => none
  | none => some ⟨now, invalidSpan⟩

/-- A record that follows its contacts again (R4, R5). -/
def resumed (s : State) (a : Act) (x : Activity) (r : ActRec) : ActRec :=
  { r with
    state := (s.sensed a).getD r.state
    activity := x
    wait := none
    invalidT := invalidTimer s.now (s.sensed a) }

theorem act_setPosition (a : Act) (p : Position) (s : State) :
    (setPosition a p s).act a = { s.act a with state := p } := by
  unfold setPosition
  split
  · rename_i h
    rw [← h]
  · simp

theorem act_resumeAs (a : Act) (x : Activity) (s : State) :
    (resumeAs a x s).act a = resumed s a x (s.act a) := by
  unfold resumeAs resumed invalidTimer
  dsimp only
  split
  · rename_i e
    simp [act_setPosition, e]
  · rename_i e
    simp [e, State.timer]

/-! ### The frame -/

structure ActsFrame (A : List Act) (s t : State) : Prop where
  outside : outside t = outside s
  strokes : t.strokes = s.strokes
  windows : t.windows = s.windows
  units : t.units = s.units
  admitted : t.admitted = s.admitted
  act : ∀ b, b ∉ A → t.act b = s.act b
  isOpen : t.slot.isOpen = s.slot.isOpen
  fewer : ∀ l, l ∈ t.slot.pending → l ∈ s.slot.pending
  pending : ∀ l, .latch l ∉ A → (l ∈ t.slot.pending ↔ l ∈ s.slot.pending)
  stroking : ∀ l, .latch l ∉ A → (l ∈ t.slot.stroking ↔ l ∈ s.slot.stroking)
  waiting : ∀ l, .latch l ∉ A → (l ∈ t.slot.waiting ↔ l ∈ s.slot.waiting)
  queue : QueueLe s.queue t.queue

/-- The frame of an operation on one actuator. -/
abbrev ActFrame (a : Act) : State → State → Prop := ActsFrame [a]

namespace ActsFrame

variable {A B : List Act} {a : Act} {s t u : State}

theorem refl (A : List Act) (s : State) : ActsFrame A s s :=
  ⟨rfl, rfl, rfl, rfl, rfl, fun _ _ => rfl, rfl, fun _ h => h, fun _ _ => Iff.rfl, fun _ _ => Iff.rfl,
    fun _ _ => Iff.rfl, .refl _⟩

theorem trans (h : ActsFrame A s t) (k : ActsFrame A t u) : ActsFrame A s u where
  outside := k.outside.trans h.outside
  strokes := k.strokes.trans h.strokes
  windows := k.windows.trans h.windows
  units := k.units.trans h.units
  admitted := k.admitted.trans h.admitted
  act b hb := (k.act b hb).trans (h.act b hb)
  isOpen := k.isOpen.trans h.isOpen
  fewer l hl := h.fewer l (k.fewer l hl)
  pending l hl := (k.pending l hl).trans (h.pending l hl)
  stroking l hl := (k.stroking l hl).trans (h.stroking l hl)
  waiting l hl := (k.waiting l hl).trans (h.waiting l hl)
  queue := h.queue.trans k.queue

theorem mono (h : ActsFrame A s t) (sub : ∀ c ∈ A, c ∈ B) : ActsFrame B s t :=
  { h with
    act := fun b hb => h.act b (fun k => hb (sub b k))
    pending := fun l hl => h.pending l (fun k => hl (sub _ k))
    stroking := fun l hl => h.stroking l (fun k => hl (sub _ k))
    waiting := fun l hl => h.waiting l (fun k => hl (sub _ k)) }

/-- The frame of a fold is that of its operations together. -/
theorem foldl {α : Type} {key : α → Act} {op : State → α → State} (h : ∀ s x, ActFrame (key x) s (op s x))
    (xs : List α) (s : State) : ActsFrame (xs.map key) s (xs.foldl op s) := by
  induction xs generalizing s with
  | nil => exact refl _ _
  | cons x xs ih =>
    exact ((h s x).mono (by simp)).trans ((ih (op s x)).mono (fun c hc => List.mem_cons_of_mem _ hc))

/-- Only the record of the actuator has changed, and job numbers, triggers and notices. -/
theorem ofRecord (o : Machine.outside t = Machine.outside s) (k : t.strokes = s.strokes) (w : t.windows = s.windows)
    (n : t.units = s.units) (m : t.admitted = s.admitted) (c : t.slot = s.slot) (q : t.queue = s.queue)
    (h : ∀ b, b ≠ a → t.act b = s.act b) : ActFrame a s t :=
  ⟨o, k, w, n, m, fun b hb => h b (by simpa using hb), by rw [c], fun _ => c ▸ id, fun _ _ => by rw [c],
    fun _ _ => by rw [c], fun _ _ => by rw [c], q ▸ .refl _⟩

end ActsFrame

section
variable {a : Act} {s t : State}

theorem actFrame_setAct {r : ActRec} (h : ActFrame a s t) : ActFrame a s (t.setAct a r) :=
  h.trans (ActsFrame.ofRecord (by simp) (by simp) (by simp) (by simp) (by simp) (by simp) (by simp)
    (fun _ hb => act_setAct_ne _ _ hb))

theorem actFrame_raise {k : Notice} (h : ActFrame a s t) : ActFrame a s (raise k t) :=
  h.trans (ActsFrame.ofRecord rfl rfl rfl rfl rfl rfl rfl (fun _ _ => by simp))

theorem actFrame_tookId (h : ActFrame a s t) : ActFrame a s t.tookId :=
  h.trans (ActsFrame.ofRecord rfl rfl rfl rfl rfl rfl rfl (fun _ _ => act_congr rfl _))

theorem actFrame_setPosition {p : Position} (h : ActFrame a s t) : ActFrame a s (setPosition a p t) := by
  unfold setPosition
  split
  · exact h
  · exact actFrame_raise (actFrame_setAct h)

theorem actFrame_setFault {f : LockFault} (h : ActFrame a s t) : ActFrame a s (setFault a f t) := by
  unfold setFault
  dsimp only
  split
  · exact actFrame_setAct h
  · exact actFrame_raise (actFrame_setAct h)

theorem actFrame_setAttempts {n : Nat} (h : ActFrame a s t) : ActFrame a s (setAttempts a n t) := actFrame_setAct h
theorem actFrame_setActivity {x : Activity} (h : ActFrame a s t) : ActFrame a s (setActivity a x t) := actFrame_setAct h

theorem actFrame_resumeAs {x : Activity} (h : ActFrame a s t) : ActFrame a s (resumeAs a x t) := by
  unfold resumeAs
  dsimp only
  split
  · exact actFrame_setPosition (actFrame_setAct h)
  · exact actFrame_setAct h

theorem actFrame_leaveSlot (h : ActFrame a s t) : ActFrame a s (leaveSlot a t) := by
  refine h.trans ?_
  cases a with
  | latch k =>
    have ne : ∀ l, Act.latch l ∉ [Act.latch k] → ¬ l = k := fun l hl e => hl (by rw [e]; exact List.mem_singleton_self _)
    exact ⟨rfl, rfl, rfl, rfl, rfl, fun b _ => by cases b <;> rfl, rfl, fun _ hl => (mem_dropLatch.mp hl).1,
      fun l hl => by simp [leaveSlot, mem_dropLatch, ne l hl],
      fun l hl => by simp [leaveSlot, mem_dropLatch, ne l hl],
      fun l hl => by simp [leaveSlot, mem_dropLatch, ne l hl], .refl _⟩
  | child c => exact .refl _ _

theorem actFrame_joinWaiting (h : ActFrame a s t) : ActFrame a s (joinWaiting a t) := by
  refine h.trans ?_
  cases a with
  | latch k =>
    have ne : ∀ l, Act.latch l ∉ [Act.latch k] → ¬ l = k := fun l hl e => hl (by rw [e]; exact List.mem_singleton_self _)
    exact ⟨rfl, rfl, rfl, rfl, rfl, fun b _ => by cases b <;> rfl, rfl, fun _ hl => (mem_dropLatch.mp hl).1,
      fun l hl => by simp [joinWaiting, mem_dropLatch, ne l hl],
      fun l hl => by simp [joinWaiting, mem_dropLatch, ne l hl],
      fun l hl => by simp [joinWaiting, mem_addLatch, ne l hl], .refl _⟩
  | child c => exact .refl _ _

theorem actFrame_dropQueued (h : ActFrame a s t) : ActFrame a s (dropQueued a t) :=
  h.trans ⟨by simp, by simp, by simp, by simp, by simp, fun _ _ => by simp, by simp, fun _ => by simp,
    fun _ _ => by simp, fun _ _ => by simp, fun _ _ => by simp, by simpa using queueLe_filterMap_without a t.queue⟩

theorem actFrame_finalFailure {f : LockFault} (h : ActFrame a s t) : ActFrame a s (finalFailure a f t) :=
  actFrame_resumeAs (actFrame_leaveSlot (actFrame_setAttempts (actFrame_setFault h)))

theorem actFrame_abandonRetry {x : Activity} (h : ActFrame a s t) : ActFrame a s (abandonRetry a x t) :=
  actFrame_resumeAs (actFrame_leaveSlot (actFrame_setAttempts h))

theorem actFrame_meetQueued (h : ActFrame a s t) : ActFrame a s (meetQueued a t) := by
  unfold meetQueued
  split
  · split
    · split
      · exact actFrame_dropQueued h
      · exact actFrame_abandonRetry h
    · exact h
  · exact h

theorem actFrame_enterOrdinaryWait {f : LockFault} {g : Goal} {j : Job} (h : ActFrame a s t) :
    ActFrame a s (enterOrdinaryWait a f g j t) := actFrame_meetQueued (actFrame_setAct (actFrame_tookId h))

theorem actFrame_enterCrashWait {f : LockFault} (h : ActFrame a s t) : ActFrame a s (enterCrashWait a f t) :=
  actFrame_meetQueued (actFrame_joinWaiting (actFrame_setAct h))

theorem actFrame_releaseAct {x : Activity} (h : ActFrame a s t) : ActFrame a s (releaseAct a x t) :=
  actFrame_resumeAs (actFrame_setAttempts h)

theorem actFrame_dropAct (h : ActFrame a s t) : ActFrame a s (dropAct a t) :=
  actFrame_setActivity (actFrame_setAttempts h)

theorem actFrame_queueAct (h : ActFrame a s t) : ActFrame a s (queueAct a t) := by
  unfold queueAct
  split
  · exact actFrame_setAttempts h
  · exact actFrame_setActivity (actFrame_setAttempts h)

theorem actFrame_keepOut (h : ActFrame a s t) : ActFrame a s (keepOut a t) := by
  unfold keepOut
  split
  · exact actFrame_dropAct h
  · exact h

end

section
variable {s t : State} {m : Member}

theorem actFrame_failAttempt {st : Stroke} {f : LockFault} (h : ActFrame m.act s t) :
    ActFrame m.act s (failAttempt st m f t) := by
  unfold failAttempt
  split
  · split
    · exact actFrame_enterCrashWait h
    · split
      · split
        · exact actFrame_enterOrdinaryWait h
        · exact actFrame_finalFailure h
      · exact actFrame_finalFailure h
  · exact actFrame_finalFailure h

theorem actFrame_verifyMember {st : Stroke} (h : ActFrame m.act s t) : ActFrame m.act s (verifyMember st t m) := by
  unfold verifyMember
  split
  · exact actFrame_resumeAs (actFrame_leaveSlot (actFrame_setAttempts (actFrame_setFault h)))
  · exact actFrame_failAttempt h

theorem actFrame_overcurrentMember {st : Stroke} (h : ActFrame m.act s t) :
    ActFrame m.act s (overcurrentMember st t m) := actFrame_failAttempt (actFrame_setFault h)

end

end Sys2Proof.Machine

/-! ## The law of the locks with actuators in the middle of a change

`Locks b X s` is what `locksLaw` says of the strokes, the queue, the crash slot and the records, with nothing said of the
records of the actuators in `X`, which no running stroke has. `b` says whether lock jobs are barred (R156). -/

namespace Sys2Proof.Machine

open Sys2Proof

theorem has_iff {st : Stroke} {a : Act} : st.has a = true ↔ ∃ m ∈ st.members, m.act = a := by
  simp [Stroke.has]

theorem strokeOf_eq_none {s : State} {a : Act} : s.strokeOf a = none ↔ ∀ st ∈ s.strokes, st.has a = false := by
  simp [State.strokeOf]

theorem strokeOf_isSome {s : State} {a : Act} : (s.strokeOf a).isSome = true ↔ ∃ st ∈ s.strokes, st.has a = true := by
  simp [State.strokeOf]

theorem strokeOf_congr {s t : State} (h : t.strokes = s.strokes) (a : Act) : t.strokeOf a = s.strokeOf a := by
  simp [State.strokeOf, h]

/-- What a retry wait says of its job and of the crash slot (R22, R110). -/
def waitLaw (b : Bool) (slot : CrashSlot) (a : Act) (x : RetryWait) : Prop :=
  (∀ j, x.job = some j → j.acts = [a] ∧ j.classed ∧ (b = true → lockGoal j.goal? = false)) ∧
    (x.job = none → a ∈ slot.waiting.map Act.latch)

/-- The sets of a slot are empty. -/
def CrashSlot.unused (c : CrashSlot) : Prop := c.pending = [] ∧ c.stroking = [] ∧ c.waiting = []

/-- The law of one record with what the strokes, the queue and the slot say of it. -/
structure ActLaw (b : Bool) (s : State) (a : Act) : Prop where
  stroking : (s.act a).activity = .STROKING ↔ (s.strokeOf a).isSome = true
  waiting : (s.act a).activity = .RETRY_WAIT ↔ (s.act a).wait.isSome = true
  sensed : s.phase ≠ .LOADING → follows (s.act a).activity = true → ∀ p, s.sensed a = some p → (s.act a).state = p
  wait : ∀ x, (s.act a).wait = some x → s.queuedFor a = none ∧ waitLaw b s.slot a x
  pending : ∀ l, a = .latch l → l ∈ s.slot.pending → (s.act a).activity = .QUEUED

structure Locks (b : Bool) (X : List Act) (s : State) : Prop where
  consistent : ∀ st ∈ s.strokes, st.consistent
  disjoint : s.strokes.Pairwise (fun x y => ∀ a, ¬(x.has a = true ∧ y.has a = true))
  classed : ∀ j ∈ s.queue, j.classed
  closed : s.slot.isOpen = false → s.slot.unused
  crash : ∀ st ∈ s.strokes, st.job = none → ∀ m ∈ st.members, m.act ∈ s.slot.stroking.map Act.latch
  barredQueue : b = true → ∀ j ∈ s.queue, lockGoal j.goal? = false
  barredStrokes : b = true → ∀ st ∈ s.strokes, ∀ m ∈ st.members, isLatch m.act = true → m.target = .UNLOCKED
  loose : ∀ a ∈ X, s.strokeOf a = none
  acts : ∀ a, a ∉ X → ActLaw b s a

/-- What `locksLaw` says beyond `Locks` and the matrix law: the slot, the relock timer, the hold and the search at a crash
(R133, R151, R156). -/
structure SideLaw (s : State) : Prop where
  slot : s.crash.latch = false → s.slot.isOpen = false
  relock : s.crash.latch = true → s.relock = none
  hold : s.crash.latch = true → s.hold.isOpen = false
  search : s.crash.latch = true → ∀ x, s.search.current = some x → x.purpose = .UNLOCK

theorem latch_mem_map {l : Latch} {ls : List Latch} : Act.latch l ∈ ls.map Act.latch ↔ l ∈ ls := by simp

theorem mem_actAll (a : Act) : a ∈ Act.all := by
  rcases a with (_ | _ | _ | _ | _) | (_ | _) <;> decide

theorem mem_reserved {s : State} {j : Job} : j ∈ s.reserved ↔ ∃ a x, (s.act a).wait = some x ∧ x.job = some j := by
  simp only [State.reserved, List.mem_filterMap]
  constructor
  · rintro ⟨a, -, h⟩
    split at h
    · exact ⟨a, _, ‹_›, h⟩
    · cases h
  · rintro ⟨a, x, hx, hj⟩
    exact ⟨a, mem_actAll a, by simp [hx, hj]⟩

theorem locksLaw_iff {s : State} : locksLaw s ↔ matrixLaw s ∧ Locks s.crash.latch [] s ∧ SideLaw s := by
  constructor
  · rintro ⟨matrix, ⟨consistent, disjoint, both⟩, slot, crash, table, classed, wait, closed, crashStrokes, crashWaits,
      pending, reserved⟩
    refine ⟨matrix, ?_, ?_⟩
    · exact
        { consistent, disjoint, classed, closed
          crash := crashStrokes
          barredQueue := fun h => (crash h).1
          barredStrokes := fun h => (crash h).2.1
          loose := nofun
          acts := fun a _ =>
            { stroking := (both a).1
              waiting := (both a).2
              sensed := fun h f p => table h a p f
              wait := fun x hx => ⟨(wait a x hx).1, fun j hj => ⟨((wait a x hx).2 j hj).1, ((wait a x hx).2 j hj).2,
                fun h => (reserved h).1 j (mem_reserved.mpr ⟨a, x, hx, hj⟩)⟩, crashWaits a x hx⟩
              pending := fun l e hl => e ▸ pending l hl } }
    · exact ⟨slot, fun h => (crash h).2.2.1, fun h => (crash h).2.2.2, fun h => (reserved h).2⟩
  · rintro ⟨matrix, h, side⟩
    have acts := fun a => h.acts a List.not_mem_nil
    refine ⟨matrix, ⟨h.consistent, h.disjoint, fun a => ⟨(acts a).stroking, (acts a).waiting⟩⟩, side.slot,
      fun l => ⟨h.barredQueue l, h.barredStrokes l, side.relock l, side.hold l⟩,
      fun l a p f => (acts a).sensed l f p, h.classed, ?_, h.closed, h.crash, ?_,
      fun l hl => (acts (.latch l)).pending l rfl hl, fun l => ⟨?_, side.search l⟩⟩
    · intro a x hx
      obtain ⟨free, job, -⟩ := (acts a).wait x hx
      exact ⟨free, fun j hj => ⟨(job j hj).1, (job j hj).2.1⟩⟩
    · intro a x hx hn
      exact ((acts a).wait x hx).2.2 hn
    · intro j hj
      obtain ⟨a, x, hx, e⟩ := mem_reserved.mp hj
      obtain ⟨-, job, -⟩ := (acts a).wait x hx
      exact (job j e).2.2 l

/-! ### Queues that say no more -/

theorem classed_of_le {p q : List Job} (h : QueueLe p q) (k : ∀ j ∈ p, j.classed) : ∀ j ∈ q, j.classed := by
  intro j hj g hg a ha
  obtain ⟨i, hi, gi, sub⟩ := h j hj g hg
  exact k i hi g gi a (sub a ha)

theorem unlocked_of_le {p q : List Job} (h : QueueLe p q) (k : ∀ j ∈ p, lockGoal j.goal? = false) :
    ∀ j ∈ q, lockGoal j.goal? = false := by
  intro j hj
  cases hg : j.goal? with
  | none => rfl
  | some g =>
    obtain ⟨i, hi, gi, -⟩ := h j hj g hg
    exact gi ▸ k i hi

/-! ### Transport -/

namespace ActLaw

variable {b : Bool} {s t : State} {a : Act}

/-- The law of a record moves to a state that agrees in what it speaks of. -/
theorem transport (h : ActLaw b s a) (state : (t.act a).state = (s.act a).state)
    (activity : (t.act a).activity = (s.act a).activity) (wait : (t.act a).wait = (s.act a).wait)
    (strokes : (t.strokeOf a).isSome = (s.strokeOf a).isSome)
    (sensed : t.sensed a = s.sensed a) (loading : t.phase = .LOADING ↔ s.phase = .LOADING)
    (queue : s.queuedFor a = none → t.queuedFor a = none)
    (waiting : a ∈ s.slot.waiting.map Act.latch → a ∈ t.slot.waiting.map Act.latch)
    (pending : ∀ l, a = .latch l → l ∈ t.slot.pending → l ∈ s.slot.pending) : ActLaw b t a where
  stroking := by
    rw [activity, strokes]
    exact h.stroking
  waiting := by
    rw [activity, wait]
    exact h.waiting
  sensed := by
    rw [activity, state, sensed, Ne, loading]
    exact h.sensed
  wait x hx := by
    obtain ⟨free, job, crash⟩ := h.wait x (wait ▸ hx)
    exact ⟨queue free, job, fun hn => waiting (crash hn)⟩
  pending l e hl := activity ▸ h.pending l e (pending l e hl)

end ActLaw

namespace Locks

variable {b : Bool} {X : List Act} {s t : State} {a : Act}

theorem frame (h : Locks b X s) (f : LocksFrame s t) : Locks b X t where
  consistent := f.strokes ▸ h.consistent
  disjoint := f.strokes ▸ h.disjoint
  classed := classed_of_le f.queue h.classed
  closed := f.slot ▸ h.closed
  crash := by
    rw [f.strokes, f.slot]
    exact h.crash
  barredQueue e := unlocked_of_le f.queue (h.barredQueue e)
  barredStrokes := f.strokes ▸ h.barredStrokes
  loose a ha := (strokeOf_congr f.strokes a).trans (h.loose a ha)
  acts a ha := (h.acts a ha).transport (f.state a) (f.activity a) (f.wait a) (by rw [strokeOf_congr f.strokes])
    (f.sensed a) f.loading (queuedFor_none_of_le f.queue) (f.slot ▸ id) (fun l _ => f.slot ▸ id)

/-- An operation on one actuator that leaves its record lawful. -/
theorem ofAct (h : Locks b (a :: X) s) (f : ActFrame a s t) (closed : t.slot.isOpen = false → t.slot.unused)
    (law : ActLaw b t a) : Locks b X t where
  consistent := f.strokes ▸ h.consistent
  disjoint := f.strokes ▸ h.disjoint
  classed := classed_of_le f.queue h.classed
  closed := closed
  crash st hst hj m hm := by
    rw [f.strokes] at hst
    obtain ⟨l, hl, e⟩ := List.mem_map.mp (h.crash st hst hj m hm)
    have ne : Act.latch l ∉ [a] := by
      intro k
      obtain rfl := List.mem_singleton.mp k
      have none := strokeOf_eq_none.mp (h.loose _ List.mem_cons_self) st hst
      exact absurd (has_iff.mpr ⟨m, hm, e.symm⟩) (by simp [none])
    exact List.mem_map.mpr ⟨l, (f.stroking l ne).mpr hl, e⟩
  barredQueue e := unlocked_of_le f.queue (h.barredQueue e)
  barredStrokes := f.strokes ▸ h.barredStrokes
  loose c hc := (strokeOf_congr f.strokes c).trans (h.loose c (List.mem_cons_of_mem _ hc))
  acts c hc := by
    by_cases e : c = a
    · exact e ▸ law
    · have old := h.acts c (by simp [e, hc])
      have other : c ∉ [a] := by simpa using e
      have record := f.act c other
      refine old.transport (by rw [record]) (by rw [record]) (by rw [record]) (by rw [strokeOf_congr f.strokes])
        (sensed_congr (by rw [outside_pins f.outside]) (by rw [outside_pins f.outside]) (by rw [outside_pins f.outside]) c)
        (by rw [outside_phase f.outside]) (queuedFor_none_of_le f.queue) ?_ ?_
      · intro hw
        obtain ⟨l, hl, rfl⟩ := List.mem_map.mp hw
        exact List.mem_map_of_mem ((f.waiting l other).mpr hl)
      · rintro l rfl hl
        exact f.fewer l hl

/-- A record that no stroke has may be left out of the law. -/
theorem loosen (h : Locks b X s) (ha : s.strokeOf a = none) : Locks b (a :: X) s :=
  { h with
    loose := fun c hc => (List.mem_cons.mp hc).elim (fun e => e ▸ ha) (h.loose c)
    acts := fun c hc => h.acts c (fun k => hc (List.mem_cons_of_mem _ k)) }

theorem strokeOf_none_of_activity (h : Locks b X s) (ha : a ∉ X) (e : (s.act a).activity ≠ .STROKING) :
    s.strokeOf a = none := by
  by_contra k
  exact e ((h.acts a ha).stroking.mpr (Option.isSome_iff_ne_none.mpr k))

theorem strokeOf_none_of_wait (h : Locks b X s) (ha : a ∉ X) {x : RetryWait} (e : (s.act a).wait = some x) :
    s.strokeOf a = none := by
  have waiting : (s.act a).activity = .RETRY_WAIT := (h.acts a ha).waiting.mpr (by simp [e])
  exact h.strokeOf_none_of_activity ha (by simp [waiting])

end Locks

/-! ### Records that follow again -/

theorem sensed_setAct (s : State) (a c : Act) (r : ActRec) : (s.setAct a r).sensed c = s.sensed c :=
  sensed_congr (by simp) (by simp) (by simp) c

/-- What the operations on the records leave of the rest of the state. -/
theorem resumeAs_slot (a : Act) (x : Activity) (s : State) : (resumeAs a x s).slot = s.slot := by
  unfold resumeAs setPosition
  dsimp only
  split
  · split <;> simp
  · simp

theorem resumeAs_strokes (a : Act) (x : Activity) (s : State) : (resumeAs a x s).strokes = s.strokes :=
  (actFrame_resumeAs (.refl _ s)).strokes

/-- A record that has just followed its contacts again is lawful (R4, R5). -/
theorem actLaw_resumeAs {b : Bool} {a : Act} {x : Activity} {s : State} (hx : follows x = true)
    (stroke : s.strokeOf a = none) (pending : ∀ l, a = .latch l → l ∈ s.slot.pending → x = .QUEUED) :
    ActLaw b (resumeAs a x s) a where
  stroking := by
    rw [act_resumeAs, strokeOf_congr (resumeAs_strokes a x s), stroke]
    cases x <;> simp_all [resumed, follows]
  waiting := by
    rw [act_resumeAs]
    cases x <;> simp_all [resumed, follows]
  sensed _ _ p hp := by
    have seen : s.sensed a = some p := by
      rw [← hp]
      exact (sensed_congr (by rw [outside_pins (outside_resumeAs a x s)]) (by rw [outside_pins (outside_resumeAs a x s)])
        (by rw [outside_pins (outside_resumeAs a x s)]) a).symm
    simp [act_resumeAs, resumed, seen]
  wait y hy := by simp [act_resumeAs, resumed] at hy
  pending l e hl := by
    rw [act_resumeAs]
    exact pending l e (resumeAs_slot a x s ▸ hl)

theorem not_pending_leaveSlot {a : Act} {s : State} (l : Latch) (e : a = .latch l) :
    l ∉ (leaveSlot a s).slot.pending := by
  subst e
  simp [leaveSlot, mem_dropLatch]

theorem not_pending_joinWaiting (l : Latch) (s : State) : l ∉ (joinWaiting (.latch l) s).slot.pending := by
  simp [joinWaiting, mem_dropLatch]

theorem waiting_joinWaiting (l : Latch) (s : State) : l ∈ (joinWaiting (.latch l) s).slot.waiting := by
  simp [joinWaiting, mem_addLatch]

theorem unused_leaveSlot {a : Act} {s : State} (h : s.slot.unused) : (leaveSlot a s).slot.unused := by
  cases a with
  | child c => exact h
  | latch l =>
    obtain ⟨p, k, w⟩ := h
    simp [CrashSlot.unused, leaveSlot, dropLatch, p, k, w]

theorem follows_restActivity (a : Act) (s : State) : follows (restActivity a s) = true := by
  unfold restActivity
  split <;> rfl

section
variable {b : Bool} {X : List Act} {s : State} {a : Act}

/-- An actuator leaves the slot and follows its contacts again, whatever its record held. -/
theorem Locks.leaveAndResume {x : Activity} {t : State} (h : Locks b (a :: X) s) (f : ActFrame a s t)
    (closed : t.slot.isOpen = false → t.slot.unused) (hx : follows x = true) :
    Locks b X (resumeAs a x (leaveSlot a t)) := by
  have g := actFrame_leaveSlot f
  have stroke : (leaveSlot a t).strokeOf a = none :=
    (strokeOf_congr g.strokes a).trans (h.loose a List.mem_cons_self)
  refine h.ofAct (actFrame_resumeAs g) ?_ (actLaw_resumeAs hx stroke (fun l e hl => absurd hl (not_pending_leaveSlot l e)))
  rw [resumeAs_slot]
  exact fun o => unused_leaveSlot (closed (isOpen_leaveSlot a t ▸ o))

theorem setFault_slot (a : Act) (f : LockFault) (s : State) : (setFault a f s).slot = s.slot := by
  simp only [setFault]
  split <;> simp

theorem setAttempts_slot (a : Act) (n : Nat) (s : State) : (setAttempts a n s).slot = s.slot := by simp [setAttempts]

theorem Locks.finalFailure {f : LockFault} (h : Locks b (a :: X) s) : Locks b X (finalFailure a f s) :=
  h.leaveAndResume (actFrame_setAttempts (actFrame_setFault (.refl _ s)))
    (by rw [setAttempts_slot, setFault_slot]; exact h.closed) (follows_restActivity _ _)

theorem Locks.abandonRetry {x : Activity} (h : Locks b (a :: X) s) (hx : follows x = true) :
    Locks b X (abandonRetry a x s) :=
  h.leaveAndResume (actFrame_setAttempts (.refl _ s)) (by rw [setAttempts_slot]; exact h.closed) hx

/-! ### Retry waits -/

/-- A record that has just entered a retry wait meets the queue (R93). -/
theorem Locks.meetQueued {t : State} {x : RetryWait} (h : Locks b (a :: X) s) (f : ActFrame a s t)
    (closed : t.slot.isOpen = false → t.slot.unused) (wait : (t.act a).wait = some x)
    (activity : (t.act a).activity = .RETRY_WAIT) (law : waitLaw b t.slot a x)
    (pending : ∀ l, a = .latch l → l ∉ t.slot.pending) : Locks b X (meetQueued a t) := by
  have stroke : t.strokeOf a = none := (strokeOf_congr f.strokes a).trans (h.loose a List.mem_cons_self)
  have waits : ∀ u, ActFrame a t u → u.act a = t.act a → u.slot = t.slot → u.queuedFor a = none → ActLaw b u a := by
    intro u g record slot free
    exact
      { stroking := by rw [record, activity, strokeOf_congr g.strokes, stroke]; simp
        waiting := by rw [record, activity, wait]; simp
        sensed := by rw [record, activity]; nofun
        wait := fun y hy => by
          obtain rfl : x = y := Option.some.inj (wait.symm.trans (record ▸ hy))
          exact ⟨free, slot ▸ law⟩
        pending := fun l e hl => absurd (slot ▸ hl) (pending l e) }
  unfold Machine.meetQueued
  split
  · rename_i j y hj hy
    have named : j.names a = true := List.find?_some (p := fun i : Job => i.names a) hj
    obtain ⟨g, hg⟩ := goal_of_names (names_iff.mp named)
    rw [hg]
    dsimp only
    split
    · have d : ActFrame a t (dropQueued a t) := actFrame_dropQueued (.refl _ t)
      exact h.ofAct (f.trans d) (by simpa using closed) (waits _ d (by simp) (by simp) (queuedFor_dropQueued a t))
    · have abandoned := actFrame_setAttempts (n := 0) f
      exact h.leaveAndResume abandoned (by rw [setAttempts_slot]; exact closed) rfl
  · rename_i none
    refine h.ofAct f closed (waits t (.refl _ t) rfl rfl ?_)
    cases hq : t.queuedFor a with
    | none => rfl
    | some j => exact absurd hq (fun e => none j x e wait)

/-- A failed attempt of an ordinary stroke waits for its retry (R22). -/
theorem Locks.enterOrdinaryWait {f : LockFault} {g : Goal} {j : Job} (h : Locks b (a :: X) s)
    (classed : isChildGoal g = !isLatch a) (barred : b = true → lockGoal (some g) = false)
    (pending : ∀ l, a = .latch l → l ∉ s.slot.pending) : Locks b X (enterOrdinaryWait a f g j s) := by
  refine h.meetQueued (actFrame_setAct (actFrame_tookId (.refl _ s)))
    (x := ⟨s.timer retryWaitSpan, f, some (retryJob s.newId a g j)⟩) (by simpa [State.tookId] using h.closed)
    (by simp [State.tookId, State.timer]) (by simp) ?_ (by simpa [State.tookId] using pending)
  refine ⟨?_, nofun⟩
  intro i hi
  cases hi
  refine ⟨rfl, ?_, barred⟩
  intro g' e c hc
  obtain rfl : g = g' := Option.some.inj e
  obtain rfl : c = a := List.mem_singleton.mp hc
  exact classed

/-- A failed attempt of the crash job waits in the open slot (R22, R110). -/
theorem Locks.enterCrashWait {f : LockFault} (h : Locks b (a :: X) s) (latch : isLatch a = true)
    (isOpen : s.slot.isOpen = true) : Locks b X (enterCrashWait a f s) := by
  cases a with
  | child c => cases latch
  | latch l =>
    let x : RetryWait := ⟨s.timer crashWaitSpan, f, none⟩
    let t := s.setAct (.latch l) { s.act (.latch l) with activity := .RETRY_WAIT, invalidT := none, wait := some x }
    have joined : ActFrame (.latch l) s (joinWaiting (.latch l) t) := actFrame_joinWaiting (actFrame_setAct (.refl _ s))
    have waits : waitLaw b (joinWaiting (.latch l) t).slot (.latch l) x :=
      ⟨fun _ hj => absurd (show none = some _ from hj) (Option.some_ne_none _).symm, fun _ => latch_mem_map.mpr (waiting_joinWaiting l t)⟩
    refine h.meetQueued joined (by simp [isOpen]) (by simp [x]) (by simp) waits ?_
    rintro k ⟨⟩
    exact not_pending_joinWaiting l t

end

end Sys2Proof.Machine

/-! ## Strokes that end, are cut and start

What the operations on strokes do to the law of the locks (R20, R21, R28, R31 to R37). -/

namespace Sys2Proof.Machine

open Sys2Proof

/-- What a member of a stroke brings with it once its stroke is gone: a member of the crash job is a latch, and the job's
target keeps to the member's class and to what is barred (R9, R154, R156). -/
structure MemberLaw (b isOpen : Bool) (st : Stroke) (m : Member) : Prop where
  crash : st.job = none → isLatch m.act = true ∧ isOpen = true
  watched : st.watched = true → isLatch m.act = true
  classed : ∀ g, strokeTarget g m.act = m.target → isChildGoal g = !isLatch m.act
  barred : b = true → isLatch m.act = true → m.target = .UNLOCKED

theorem mem_of_has {s : State} {st : Stroke} {m : Member} (hst : st ∈ s.strokes) (hm : m ∈ st.members) :
    (s.strokeOf m.act).isSome = true :=
  strokeOf_isSome.mpr ⟨st, hst, has_iff.mpr ⟨m, hm, rfl⟩⟩

/-- Targets of latches and of child actuators differ (R9). -/
theorem childGoal_of_target {g h : Goal} {a : Act} (e : strokeTarget g a = strokeTarget h a) :
    isChildGoal g = isChildGoal h := by
  cases g <;> cases h <;> first | rfl | (simp only [strokeTarget] at e; split at e <;> cases e) | cases e

theorem lockGoal_of_unlocked {g : Goal} {a : Act} (e : strokeTarget g a = .UNLOCKED) : lockGoal (some g) = false := by
  cases g with
  | DEADLOCK =>
    simp only [strokeTarget] at e
    split at e <;> cases e
  | LOCK => cases e
  | UNLOCK => rfl
  | ENGAGE => cases e
  | RELEASE => cases e

theorem lockGoal_of_child {g : Goal} (h : isChildGoal g = true) : lockGoal (some g) = false := by
  cases g <;> first | rfl | cases h

/-- A latch target that is not barred is UNLOCKED (R9). -/
theorem target_of_not_barred {g : Goal} {a : Act} (h : isChildGoal g = false) (k : lockGoal (some g) = false) :
    strokeTarget g a = .UNLOCKED := by
  cases g with
  | UNLOCK => rfl
  | LOCK => cases k
  | DEADLOCK => cases k
  | ENGAGE => cases h
  | RELEASE => cases h

section
variable {b : Bool} {X Y : List Act} {s t : State} {st : Stroke} {m : Member}

theorem MemberLaw.barredGoal {isOpen : Bool} (h : MemberLaw b isOpen st m) {g : Goal}
    (e : strokeTarget g m.act = m.target) (hb : b = true) : lockGoal (some g) = false := by
  cases l : isLatch m.act with
  | true => exact lockGoal_of_unlocked (e.trans (h.barred hb l))
  | false => exact lockGoal_of_child (by rw [h.classed g e, l]; rfl)

theorem Locks.memberLaw (h : Locks b X s) (hst : st ∈ s.strokes) (hm : m ∈ st.members) :
    MemberLaw b s.slot.isOpen st m := by
  obtain ⟨g, -, member⟩ := h.consistent st hst
  have latch : isLatch m.act = !isChildGoal g := by rw [(member m hm).2, Bool.not_not]
  refine ⟨fun hj => ?_, fun hw => ?_, fun g' e => ?_, fun hb => h.barredStrokes hb st hst m hm⟩
  · obtain ⟨l, hl, e⟩ := List.mem_map.mp (h.crash st hst hj m hm)
    refine ⟨e ▸ rfl, ?_⟩
    by_contra k
    rw [(h.closed (by simpa using k)).2.1] at hl
    cases hl
  · simp only [Stroke.watched, Bool.and_eq_true, List.any_eq_true] at hw
    obtain ⟨-, n, hn, ln, -⟩ := hw
    rw [latch, ← Bool.not_not (isChildGoal g), (member n hn).2, ln]
    rfl
  · rw [childGoal_of_target (e.trans (member m hm).1), (member m hm).2]

theorem Locks.congr (h : Locks b X s) (e : ∀ a, a ∈ Y ↔ a ∈ X) : Locks b Y s :=
  { h with
    loose := fun a ha => h.loose a ((e a).mp ha)
    acts := fun a ha => h.acts a (fun k => ha ((e a).mpr k)) }

/-! ### Failed attempts -/

theorem Locks.failAttempt {f : LockFault} (h : Locks b (m.act :: X) s) (law : MemberLaw b s.slot.isOpen st m)
    (pending : ∀ l, m.act = .latch l → l ∉ s.slot.pending) : Locks b X (failAttempt st m f s) := by
  unfold Machine.failAttempt
  split
  · split
    · rename_i owned
      simp only [crashOwned, Bool.or_eq_true, Bool.and_eq_true, Option.isNone_iff_eq_none] at owned
      rcases owned with hj | ⟨ho, hw⟩
      · exact h.enterCrashWait (law.crash hj).1 (law.crash hj).2
      · exact h.enterCrashWait (law.watched hw) ho
    · split
      · rename_i j hj
        have carries : j.carries m = true := by
          obtain ⟨id, -, found⟩ := Option.bind_eq_some_iff.mp hj
          have both := List.find?_some (p := fun j : Job => decide (j.id = id) && j.carries m) found
          simp only [Bool.and_eq_true] at both
          exact both.2
        split
        · rename_i g hg
          have target : strokeTarget g m.act = m.target := by simpa [Job.carries, hg] using carries
          exact h.enterOrdinaryWait (law.classed g target) (law.barredGoal target) pending
        · exact h.finalFailure
      · exact h.finalFailure
  · exact h.finalFailure

/-- The members of a stroke that is gone are taken up one by one. -/
theorem Locks.foldl_members {op : State → Member → State} (frame : ∀ s m, ActFrame m.act s (op s m))
    (step : ∀ {X s m}, Locks b (m.act :: X) s → MemberLaw b s.slot.isOpen st m →
      (∀ l, m.act = .latch l → l ∉ s.slot.pending) → Locks b X (op s m)) (ms : List Member)
    (h : Locks b (ms.map (·.act) ++ X) s) (law : ∀ m ∈ ms, MemberLaw b s.slot.isOpen st m)
    (pending : ∀ m ∈ ms, ∀ l, m.act = .latch l → l ∉ s.slot.pending) : Locks b X (ms.foldl op s) := by
  induction ms generalizing s with
  | nil => exact h
  | cons m ms ih =>
    have f := frame s m
    refine ih (step h (law m List.mem_cons_self) (pending m List.mem_cons_self)) ?_ ?_
    · intro n hn
      rw [f.isOpen]
      exact law n (List.mem_cons_of_mem _ hn)
    · exact fun n hn l e hl => pending n (List.mem_cons_of_mem _ hn) l e (f.fewer l hl)

theorem Locks.verifyMember (h : Locks b (m.act :: X) s) (law : MemberLaw b s.slot.isOpen st m)
    (pending : ∀ l, m.act = .latch l → l ∉ s.slot.pending) : Locks b X (verifyMember st s m) := by
  unfold Machine.verifyMember
  split
  · exact h.leaveAndResume (actFrame_setAttempts (actFrame_setFault (.refl _ s)))
      (by rw [setAttempts_slot, setFault_slot]; exact h.closed) (follows_restActivity _ _)
  · exact h.failAttempt law pending

theorem Locks.overcurrentMember (h : Locks b (m.act :: X) s) (law : MemberLaw b s.slot.isOpen st m)
    (pending : ∀ l, m.act = .latch l → l ∉ s.slot.pending) : Locks b X (overcurrentMember st s m) := by
  have faulted : Locks b (m.act :: X) (setFault m.act .OVERCURRENT s) := h.frame (frame_setFault (.refl s))
  refine faulted.failAttempt ?_ ?_
  · rw [setFault_slot]
    exact law
  · rw [setFault_slot]
    exact pending

/-! ### Strokes that go -/

/-- A running stroke shares no actuator with the others. -/
theorem Locks.apart (h : Locks b X s) (hst : st ∈ s.strokes) :
    ∀ y ∈ s.strokes.erase st, ∀ a, ¬(st.has a = true ∧ y.has a = true) :=
  (List.pairwise_cons.mp ((List.perm_cons_erase hst).pairwise_iff (fun k a e => k a e.symm) |>.mp h.disjoint)).1

theorem Locks.removeStroke (h : Locks b X s) (hst : st ∈ s.strokes) :
    Locks b (st.members.map (·.act) ++ X) (removeStroke st s) where
  consistent y hy := h.consistent y (List.mem_of_mem_erase hy)
  disjoint := h.disjoint.sublist List.erase_sublist
  classed := h.classed
  closed := h.closed
  crash y hy := h.crash y (List.mem_of_mem_erase hy)
  barredQueue := h.barredQueue
  barredStrokes e y hy := h.barredStrokes e y (List.mem_of_mem_erase hy)
  loose a ha := by
    refine strokeOf_eq_none.mpr (fun y hy => ?_)
    rcases List.mem_append.mp ha with k | k
    · obtain ⟨n, hn, rfl⟩ := List.mem_map.mp k
      have none := h.apart hst y hy n.act
      simpa [has_iff.mpr ⟨n, hn, rfl⟩] using none
    · exact strokeOf_eq_none.mp (h.loose a k) y (List.mem_of_mem_erase hy)
  acts a ha := by
    simp only [List.mem_append, not_or] at ha
    have others : st.has a = false := by
      by_contra k
      obtain ⟨n, hn, e⟩ := has_iff.mp (by simpa using k)
      exact ha.1 (List.mem_map.mpr ⟨n, hn, e⟩)
    have record : (Machine.removeStroke st s).act a = s.act a := act_congr rfl a
    refine (h.acts a ha.2).transport (by rw [record]) (by rw [record]) (by rw [record]) ?_ rfl Iff.rfl id id (fun _ _ => id)
    rw [Bool.eq_iff_iff, strokeOf_isSome, strokeOf_isSome]
    constructor
    · rintro ⟨y, hy, k⟩
      exact ⟨y, List.mem_of_mem_erase hy, k⟩
    · rintro ⟨y, hy, k⟩
      refine ⟨y, (List.mem_erase_of_ne ?_).mpr hy, k⟩
      rintro rfl
      exact absurd k (by simp [others])

/-- A stroke member that the law speaks of is in no pending set: it reads STROKING (R20, R109). -/
theorem Locks.not_pending (h : Locks b X s) (hst : st ∈ s.strokes) (hm : m ∈ st.members) (l : Latch)
    (e : m.act = .latch l) : l ∉ s.slot.pending := by
  have some := mem_of_has hst hm
  have outside : m.act ∉ X := fun k => by simp [h.loose _ k] at some
  intro hl
  have law := h.acts _ outside
  have queued := law.pending l e hl
  exact absurd (law.stroking.mpr some) (by simp [queued])

theorem frame_settleJob {job : Option Nat} (h : LocksFrame s t) : LocksFrame s (settleJob job t) := by
  unfold settleJob
  split
  · exact h
  · split
    · exact h
    · exact frame_dropAdmitted h

theorem Locks.endStroke (h : Locks b [] s) (hst : st ∈ s.strokes) : Locks b [] (endStroke st s) := by
  have members : Locks b [] (st.members.foldl (Machine.verifyMember st) (Machine.removeStroke st s)) :=
    Locks.foldl_members (fun _ _ => actFrame_verifyMember (.refl _ _)) Locks.verifyMember _ (h.removeStroke hst)
      (fun m hm => h.memberLaw hst hm) (fun m hm => h.not_pending hst hm)
  exact members.frame (frame_trigger (frame_settleJob (.refl _)))

/-- Several running strokes go at once. -/
theorem Locks.removeStrokes {cut : List Stroke} (h : Locks b X s) (sub : cut.Subperm s.strokes) :
    Locks b (cut.flatMap (fun st => st.members.map (·.act)) ++ X) (cut.foldl (fun t st => Machine.removeStroke st t) s) := by
  induction cut generalizing X s with
  | nil => exact h
  | cons st cut ih =>
    have hst : st ∈ s.strokes := sub.subset List.mem_cons_self
    have rest : cut.Subperm (Machine.removeStroke st s).strokes := by
      have erased := sub.erase st
      rwa [List.erase_cons_head] at erased
    refine (ih (h.removeStroke hst) rest).congr ?_
    intro a
    simp only [List.flatMap_cons, List.mem_append]
    tauto

theorem removeStrokes_slot (cut : List Stroke) (s : State) :
    (cut.foldl (fun t st => Machine.removeStroke st t) s).slot = s.slot := by
  induction cut generalizing s with
  | nil => rfl
  | cons st cut ih => exact ih _

/-- The members of several strokes that are gone are taken up stroke by stroke. -/
theorem Locks.overcurrentStrokes {cut : List Stroke}
    (h : Locks b (cut.flatMap (fun st => st.members.map (·.act)) ++ X) s)
    (law : ∀ st ∈ cut, ∀ m ∈ st.members, MemberLaw b s.slot.isOpen st m)
    (pending : ∀ st ∈ cut, ∀ m ∈ st.members, ∀ l, m.act = .latch l → l ∉ s.slot.pending) :
    Locks b X (cut.foldl (fun t st => st.members.foldl (Machine.overcurrentMember st) t) s) := by
  induction cut generalizing s with
  | nil => exact h
  | cons st cut ih =>
    have f := ActsFrame.foldl (op := Machine.overcurrentMember st) (fun _ _ => actFrame_overcurrentMember (.refl _ _))
      st.members s
    have first : Locks b (cut.flatMap (fun st => st.members.map (·.act)) ++ X)
        (st.members.foldl (Machine.overcurrentMember st) s) :=
      Locks.foldl_members (fun _ _ => actFrame_overcurrentMember (.refl _ _)) Locks.overcurrentMember _
        (by simpa using h) (law st List.mem_cons_self) (pending st List.mem_cons_self)
    refine ih first ?_ ?_
    · rw [f.isOpen]
      exact fun y hy => law y (List.mem_cons_of_mem _ hy)
    · exact fun y hy m hm l e hl => pending y (List.mem_cons_of_mem _ hy) m hm l e (f.fewer l hl)

theorem Locks.cutGroup (h : Locks b [] s) (g : Group) : Locks b [] (cutGroup g s) := by
  unfold Machine.cutGroup
  dsimp only
  split
  · exact h
  · have running : ∀ st ∈ s.strokes.filter (fun st => st.group = g), st ∈ s.strokes :=
      fun _ hst => List.mem_of_mem_filter hst
    have removed := h.removeStrokes (List.filter_sublist (p := fun st : Stroke => decide (st.group = g))).subperm
    have taken := removed.overcurrentStrokes
      (by rw [removeStrokes_slot]; exact fun st hst m hm => h.memberLaw (running st hst) hm)
      (by rw [removeStrokes_slot]; exact fun st hst m hm => h.not_pending (running st hst) hm)
    exact taken.frame (frame_trigger (frame_foldl (f := fun t (st : Stroke) => settleJob st.job t)
      (fun _ => frame_settleJob) _ (.refl _)))

theorem Locks.checkOverload (h : Locks b [] s) (g : Group) : Locks b [] (checkOverload g s) := by
  unfold Machine.checkOverload
  split
  · exact h.cutGroup g
  · exact h

end

end Sys2Proof.Machine

/-! ## Admission, the crash slot's service and the forming of jobs

What the Drive Scheduler does to the law of the locks (R9, R23, R28, R90 to R93, R96 to R104, R109, R110). -/

namespace Sys2Proof.Machine

open Sys2Proof

/-- A property that each operation gives its own record stands for every record that a fold has met. -/
theorem foldl_record {P : ActRec → Prop} {op : State → Act → State} (frame : ∀ s x, ActFrame x s (op s x))
    (own : ∀ s x, P ((op s x).act x)) {a : Act} (xs : List Act) (s : State) (ha : a ∈ xs) :
    P ((xs.foldl op s).act a) := by
  induction xs generalizing s with
  | nil => cases ha
  | cons x xs ih =>
    by_cases later : a ∈ xs
    · exact ih _ later
    · obtain rfl : a = x := (List.mem_cons.mp ha).resolve_right later
      have rest := ActsFrame.foldl (key := id) frame xs (op s a)
      rw [List.map_id] at rest
      rw [List.foldl_cons, rest.act a later]
      exact own s a

section
variable {b : Bool} {X : List Act} {s t : State} {a : Act}

/-! ### Records that go on following -/

theorem Locks.following (h : Locks b X s) (ha : a ∉ X) (stroke : s.strokeOf a = none) (wait : (s.act a).wait = none) :
    follows (s.act a).activity = true := by
  have law := h.acts a ha
  cases e : (s.act a).activity with
  | IDLE => rfl
  | QUEUED => rfl
  | STROKING =>
    have some := law.stroking.mp e
    simp [stroke] at some
  | RETRY_WAIT =>
    have some := law.waiting.mp e
    simp [wait] at some

/-- A record that follows its contacts becomes IDLE or QUEUED, with other attempts. -/
theorem Locks.setFollowing (h : Locks b [] s) (stroke : s.strokeOf a = none) (wait : (s.act a).wait = none)
    (r : ActRec) (state : r.state = (s.act a).state) (activity : follows r.activity = true) (none : r.wait = none)
    (pending : ∀ l, a = .latch l → l ∈ s.slot.pending → r.activity = .QUEUED) : Locks b [] (s.setAct a r) := by
  refine (h.loosen stroke).ofAct (actFrame_setAct (.refl _ s)) (by simpa using h.closed) ?_
  have old := h.following List.not_mem_nil stroke wait
  exact
    { stroking := by
        rw [act_setAct_same, strokeOf_congr (s := s) (by simp), stroke]
        cases e : r.activity <;> simp_all [Machine.follows]
      waiting := by
        rw [act_setAct_same, none]
        cases e : r.activity <;> simp_all [Machine.follows]
      sensed := fun hp _ p seen => by
        rw [act_setAct_same, state]
        exact (h.acts a List.not_mem_nil).sensed (by simpa using hp) old p (sensed_setAct s a a r ▸ seen)
      wait := fun x hx => by simp [none] at hx
      pending := fun l e hl => by
        rw [act_setAct_same]
        exact pending l e (by simpa using hl) }

theorem dropAct_eq (a : Act) (s : State) :
    dropAct a s = s.setAct a { s.act a with attempts := 0, activity := .IDLE } := by
  simp [dropAct, setActivity, setAttempts]

theorem queueAct_eq (a : Act) (s : State) : queueAct a s = s.setAct a { s.act a with
    attempts := 0
    activity := if (s.act a).activity = .STROKING then .STROKING else .QUEUED } := by
  unfold queueAct
  split
  · rename_i e
    simp [setAttempts, e]
  · rename_i e
    simp [setActivity, setAttempts]

theorem Locks.dropAct (h : Locks b [] s) (stroke : s.strokeOf a = none) (wait : (s.act a).wait = none)
    (pending : ∀ l, a = .latch l → l ∉ s.slot.pending) : Locks b [] (dropAct a s) := by
  rw [dropAct_eq]
  exact h.setFollowing stroke wait _ rfl rfl wait (fun l e hl => absurd hl (pending l e))

theorem Locks.queueAct (h : Locks b [] s) (wait : (s.act a).wait = none) : Locks b [] (queueAct a s) := by
  rw [queueAct_eq]
  by_cases e : (s.act a).activity = .STROKING
  · exact h.frame ((LocksFrame.refl s).setAct rfl (by simp [e]) rfl)
  · exact h.setFollowing (h.strokeOf_none_of_activity List.not_mem_nil e) wait _ rfl (by simp [e, Machine.follows]) wait
      (fun _ _ _ => by simp [e])

theorem Locks.foldl_dropAct (h : Locks b [] s) (as : List Act) (stroke : ∀ a ∈ as, s.strokeOf a = none)
    (wait : ∀ a ∈ as, (s.act a).wait = none) (pending : ∀ a ∈ as, ∀ l, a = .latch l → l ∉ s.slot.pending) :
    Locks b [] (as.foldl (fun t a => Machine.dropAct a t) s) := by
  induction as generalizing s with
  | nil => exact h
  | cons c as ih =>
    have f : ActFrame c s (Machine.dropAct c s) := actFrame_dropAct (.refl _ s)
    refine ih (h.dropAct (stroke c List.mem_cons_self) (wait c List.mem_cons_self) (pending c List.mem_cons_self)) ?_ ?_ ?_
    · exact fun a ha => (strokeOf_congr f.strokes a).trans (stroke a (List.mem_cons_of_mem _ ha))
    · intro a ha
      have old := wait a (List.mem_cons_of_mem _ ha)
      by_cases e : a = c
      · subst e
        simpa [dropAct_eq] using old
      · rw [f.act a (by simpa using e)]
        exact old
    · exact fun a ha l e hl => pending a (List.mem_cons_of_mem _ ha) l e (f.fewer l hl)

/-! ### The start of a stroke -/

theorem actFrame_beginMember (h : ActFrame a s t) : ActFrame a s (beginMember a t) := actFrame_setAct h

/-- The state in which the members of a new stroke begin. -/
def withStroke (st : Stroke) (s : State) : State := { s with strokes := s.strokes ++ [st], units := s.units + st.units }

theorem startStroke_nil (job : Option Nat) (grp : Group) (g : Goal) (n : Nat) (s : State) :
    startStroke job grp g n [] s = s := rfl

theorem startStroke_cons {job : Option Nat} {grp : Group} {g : Goal} {n : Nat} {as : List Act} (s : State) (h : as ≠ []) :
    startStroke job grp g n as s =
      as.foldl (fun t a => beginMember a t) (withStroke (strokeRecord job grp g n as s) s) := by
  cases as with
  | nil => exact absurd rfl h
  | cons a as => rfl

theorem startStroke_frame {job : Option Nat} {grp : Group} {g : Goal} {n : Nat} {as : List Act} (s : State)
    (h : as ≠ []) : ActsFrame as (withStroke (strokeRecord job grp g n as s) s) (startStroke job grp g n as s) := by
  rw [startStroke_cons s h]
  simpa using ActsFrame.foldl (key := id) (op := fun t a => beginMember a t)
    (fun _ _ => actFrame_beginMember (.refl _ _)) as (withStroke (strokeRecord job grp g n as s) s)

theorem beginMembers_keep (as : List Act) (s : State) :
    (as.foldl (fun t a => beginMember a t) s).slot = s.slot ∧
      (as.foldl (fun t a => beginMember a t) s).queue = s.queue := by
  induction as generalizing s with
  | nil => exact ⟨rfl, rfl⟩
  | cons a as ih => simpa [beginMember] using ih (beginMember a s)

theorem has_strokeRecord {job : Option Nat} {grp : Group} {g : Goal} {n : Nat} {as : List Act} {s : State} :
    (strokeRecord job grp g n as s).has a = true ↔ a ∈ as := by
  simp [has_iff, strokeRecord, memberOf]

theorem startStroke_slot (job : Option Nat) (grp : Group) (g : Goal) (n : Nat) (as : List Act) (s : State) :
    (startStroke job grp g n as s).slot = s.slot := by
  rcases eq_or_ne as [] with rfl | some
  · rfl
  · rw [startStroke_cons s some]
    exact (beginMembers_keep as _).1

theorem startStroke_queue (job : Option Nat) (grp : Group) (g : Goal) (n : Nat) (as : List Act) (s : State) :
    (startStroke job grp g n as s).queue = s.queue := by
  rcases eq_or_ne as [] with rfl | some
  · rfl
  · rw [startStroke_cons s some]
    exact (beginMembers_keep as _).2

theorem startStroke_strokes {job : Option Nat} {grp : Group} {g : Goal} {n : Nat} {as : List Act} (s : State)
    (h : as ≠ []) : (startStroke job grp g n as s).strokes = s.strokes ++ [strokeRecord job grp g n as s] :=
  (startStroke_frame s h).strokes

/-- An actuator that a new stroke does not take has no stroke after it either. -/
theorem strokeOf_startStroke_none {job : Option Nat} {grp : Group} {g : Goal} {n : Nat} {as : List Act}
    (h : s.strokeOf a = none) (ha : a ∉ as) : (startStroke job grp g n as s).strokeOf a = none := by
  rcases eq_or_ne as [] with rfl | some
  · exact h
  · rw [strokeOf_eq_none, startStroke_strokes s some]
    intro st hst
    rcases List.mem_append.mp hst with k | k
    · exact strokeOf_eq_none.mp h st k
    · obtain rfl := List.mem_singleton.mp k
      exact Bool.eq_false_iff.mpr (fun e => ha (has_strokeRecord.mp e))

theorem Locks.startStroke {job : Option Nat} {grp : Group} {g : Goal} {n : Nat} {as : List Act} (h : Locks b [] s)
    (free : ∀ a ∈ as, s.strokeOf a = none) (pending : ∀ l, .latch l ∈ as → l ∉ s.slot.pending)
    (classed : ∀ a ∈ as, isChildGoal g = !isLatch a) (barred : b = true → lockGoal (some g) = false)
    (crash : job = none → ∀ a ∈ as, a ∈ s.slot.stroking.map Act.latch) : Locks b [] (startStroke job grp g n as s) := by
  rcases eq_or_ne as [] with rfl | some
  · exact h
  have f := startStroke_frame (job := job) (grp := grp) (g := g) (n := n) s some
  have strokes := startStroke_strokes (job := job) (grp := grp) (g := g) (n := n) s some
  have slot := startStroke_slot job grp g n as s
  have queue := startStroke_queue job grp g n as s
  have begun : ∀ a ∈ as, ((Machine.startStroke job grp g n as s).act a).activity = .STROKING ∧
      ((Machine.startStroke job grp g n as s).act a).wait = none := by
    intro a ha
    rw [startStroke_cons s some]
    exact foldl_record (P := fun r => r.activity = .STROKING ∧ r.wait = none) (op := fun t a => beginMember a t)
      (fun _ _ => actFrame_beginMember (.refl _ _)) (fun _ _ => by simp [beginMember]) as _ ha
  have member : ∀ m ∈ (strokeRecord job grp g n as s).members, m.act ∈ as ∧ m.target = strokeTarget g m.act := by
    intro m hm
    obtain ⟨a, ha, rfl⟩ := List.mem_map.mp hm
    exact ⟨ha, rfl⟩
  exact
    { consistent := by
        rw [strokes]
        intro st hst
        rcases List.mem_append.mp hst with k | k
        · exact h.consistent st k
        · obtain rfl := List.mem_singleton.mp k
          exact ⟨g, rfl, fun m hm => ⟨(member m hm).2, classed m.act (member m hm).1⟩⟩
      disjoint := by
        rw [strokes]
        refine List.pairwise_append.mpr ⟨h.disjoint, List.pairwise_singleton _ _, ?_⟩
        intro x hx y hy a both
        obtain rfl := List.mem_singleton.mp hy
        have none := strokeOf_eq_none.mp (free a (has_strokeRecord.mp both.2)) x hx
        simp [both.1] at none
      classed := queue ▸ h.classed
      closed := slot ▸ h.closed
      crash := by
        rw [strokes, slot]
        intro st hst hj m hm
        rcases List.mem_append.mp hst with k | k
        · exact h.crash st k hj m hm
        · obtain rfl := List.mem_singleton.mp k
          exact crash hj m.act (member m hm).1
      barredQueue := queue ▸ h.barredQueue
      barredStrokes := by
        rw [strokes]
        intro hb st hst m hm latch
        rcases List.mem_append.mp hst with k | k
        · exact h.barredStrokes hb st k m hm latch
        · obtain rfl := List.mem_singleton.mp k
          rw [(member m hm).2]
          exact target_of_not_barred (by rw [classed _ (member m hm).1, latch]; rfl) (barred hb)
      loose := nofun
      acts := fun a _ => by
        by_cases ha : a ∈ as
        · have new := begun a ha
          have stroke : ((Machine.startStroke job grp g n as s).strokeOf a).isSome = true :=
            strokeOf_isSome.mpr ⟨strokeRecord job grp g n as s, by simp [strokes], has_strokeRecord.mpr ha⟩
          exact
            { stroking := by simp [new.1, stroke]
              waiting := by simp [new.1, new.2]
              sensed := by rw [new.1]; nofun
              wait := fun x hx => by simp [new.2] at hx
              pending := fun l e hl => absurd (slot ▸ hl) (pending l (e ▸ ha)) }
        · have record : (Machine.startStroke job grp g n as s).act a = s.act a :=
            (f.act a ha).trans (act_congr rfl a)
          have pins : (Machine.startStroke job grp g n as s).pins = s.pins := outside_pins f.outside
          refine (h.acts a List.not_mem_nil).transport (by rw [record]) (by rw [record]) (by rw [record]) ?_
            (sensed_congr (by rw [pins]) (by rw [pins]) (by rw [pins]) a) (by rw [outside_phase f.outside]; rfl)
            (queuedFor_none_of_le (queue ▸ .refl _)) (slot ▸ id) (fun _ _ => slot ▸ id)
          rw [Bool.eq_iff_iff, strokeOf_isSome, strokeOf_isSome, strokes]
          constructor
          · rintro ⟨y, hy, k⟩
            rcases List.mem_append.mp hy with m | m
            · exact ⟨y, m, k⟩
            · obtain rfl := List.mem_singleton.mp m
              exact absurd (has_strokeRecord.mp k) ha
          · rintro ⟨y, hy, k⟩
            exact ⟨y, List.mem_append_left _ hy, k⟩ }

end

end Sys2Proof.Machine

namespace Sys2Proof.Machine

open Sys2Proof

section
variable {b : Bool} {X : List Act} {s t : State} {a : Act}

/-! ### Admission -/

theorem mem_remaining {g : Goal} {as : List Act} {s : State} {a : Act} :
    a ∈ remaining g as s ↔ a ∈ as ∧ (atTarget g a (s.act a).state = false ∨ (s.strokeOf a).isSome = true) := by
  simp [remaining]

theorem mem_ofGroup {grp : Group} {as : List Act} : a ∈ ofGroup grp as ↔ a ∈ as ∧ groupOf a = grp := by
  simp [ofGroup]

/-- The state at an admission when the queue and the dropped actuators have been settled. -/
def admitBase (j : Job) (as rem : List Act) (s : State) : State :=
  (as.filter (fun a => !rem.contains a)).foldl (fun t a => dropAct a t) (takeFromQueue j.id s)

/-- The state at an admission with its admitted job. -/
def withAdmitted (j : Job) (rem : List Act) (s : State) : State :=
  { s with admitted := s.admitted ++ [{ j with cost := unitsOf rem }] }

theorem admitLock_eq (j : Job) (g : Goal) (as rem : List Act) (s : State) :
    admitLock j g as rem s = if rem.isEmpty then admitBase j as rem s else
      checkOverload .TAIL (checkOverload .DOOR (startStroke (some j.id) .TAIL g 2 (ofGroup .TAIL rem)
        (startStroke (some j.id) .DOOR g 2 (ofGroup .DOOR rem) (withAdmitted j rem (admitBase j as rem s))))) := rfl

/-- A queued job's actuators wait for no retry (R93). -/
theorem Locks.no_wait_of_queued (h : Locks b X s) {j : Job} (hj : j ∈ s.queue) (ha : a ∈ j.acts) (out : a ∉ X) :
    (s.act a).wait = none := by
  by_contra k
  obtain ⟨x, hx⟩ := Option.ne_none_iff_exists'.mp k
  exact queuedFor_eq_none.mp ((h.acts a out).wait x hx).1 j hj ha

theorem admitBase_frame (j : Job) (as rem : List Act) (s : State) :
    ActsFrame (as.filter (fun a => !rem.contains a)) (takeFromQueue j.id s) (admitBase j as rem s) := by
  have f := ActsFrame.foldl (key := id) (op := fun t a => Machine.dropAct a t)
    (fun u a => actFrame_dropAct (.refl _ u)) (as.filter (fun a => !rem.contains a)) (takeFromQueue j.id s)
  rwa [List.map_id] at f

theorem takeFromQueue_strokes (id : Nat) (s : State) : (takeFromQueue id s).strokes = s.strokes := by
  simp [takeFromQueue]

theorem takeFromQueue_slot (id : Nat) (s : State) : (takeFromQueue id s).slot = s.slot := by simp [takeFromQueue]

theorem act_takeFromQueue (id : Nat) (s : State) (a : Act) : (takeFromQueue id s).act a = s.act a := by
  simp [takeFromQueue]

theorem Locks.admitBase {j : Job} {g : Goal} {as : List Act} (h : Locks b [] s) (closed : s.slot.isOpen = false)
    (hj : j ∈ s.queue) (acts : j.acts = as) : Locks b [] (admitBase j as (remaining g as s) s) := by
  refine (h.frame (frame_takeFromQueue (id := j.id) (.refl s))).foldl_dropAct _ ?_ ?_ ?_
  · intro a ha
    simp only [List.mem_filter, List.contains_iff_mem, Bool.not_eq_true', ← Bool.not_eq_true, mem_remaining] at ha
    rw [strokeOf_congr (takeFromQueue_strokes j.id s)]
    by_contra k
    exact ha.2 ⟨ha.1, Or.inr (Option.isSome_iff_ne_none.mpr k)⟩
  · intro a ha
    rw [act_takeFromQueue]
    exact h.no_wait_of_queued hj (acts ▸ (List.mem_filter.mp ha).1) List.not_mem_nil
  · intro a _ l _ hl
    rw [takeFromQueue_slot, (h.closed closed).1] at hl
    cases hl

theorem Locks.admitLock {j : Job} {g : Goal} {as : List Act} (h : Locks b [] s) (closed : s.slot.isOpen = false)
    (hj : j ∈ s.queue) (goal : j.goal? = some g) (acts : j.acts = as)
    (free : membersFree (remaining g as s) s = true) : Locks b [] (admitLock j g as (remaining g as s) s) := by
  have base := h.admitBase (g := g) closed hj acts
  have kept := admitBase_frame j as (remaining g as s) s
  have strokes : (Machine.admitBase j as (remaining g as s) s).strokes = s.strokes :=
    kept.strokes.trans (takeFromQueue_strokes j.id s)
  rw [admitLock_eq]
  split
  · exact base
  · have admitted : Locks b [] (withAdmitted j (remaining g as s) (Machine.admitBase j as (remaining g as s) s)) :=
      base.frame (.ofView rfl)
    have named : ∀ grp, ∀ a ∈ ofGroup grp (remaining g as s), a ∈ j.acts := by
      intro grp a ha
      rw [acts]
      exact (mem_remaining.mp (mem_ofGroup.mp ha).1).1
    have unstroked : ∀ grp, ∀ a ∈ ofGroup grp (remaining g as s), s.strokeOf a = none := by
      intro grp a ha
      simpa using List.all_eq_true.mp free a (mem_ofGroup.mp ha).1
    have none_pending : ∀ l, l ∉ (Machine.admitBase j as (remaining g as s) s).slot.pending := by
      intro l hl
      have old := kept.fewer l hl
      rw [takeFromQueue_slot, (h.closed closed).1] at old
      cases old
    have barred : b = true → lockGoal (some g) = false := fun hb => goal ▸ h.barredQueue hb j hj
    have classed := fun grp a ha => h.classed j hj g goal a (named grp a ha)
    have door := admitted.startStroke (job := some j.id) (grp := .DOOR) (n := 2)
      (fun a ha => (strokeOf_congr strokes a).trans (unstroked .DOOR a ha)) (fun l _ => none_pending l)
      (classed .DOOR) barred (fun e => absurd e (Option.some_ne_none _))
    have slot : (Machine.startStroke (some j.id) .DOOR g 2 (ofGroup .DOOR (remaining g as s))
        (withAdmitted j (remaining g as s) (Machine.admitBase j as (remaining g as s) s))).slot =
        (Machine.admitBase j as (remaining g as s) s).slot := startStroke_slot ..
    refine ((door.startStroke ?_ ?_ (classed .TAIL) barred (fun e => absurd e (Option.some_ne_none _))).checkOverload .DOOR).checkOverload .TAIL
    · intro a ha
      refine strokeOf_startStroke_none ((strokeOf_congr strokes a).trans (unstroked .TAIL a ha)) (fun k => ?_)
      exact absurd ((mem_ofGroup.mp ha).2.symm.trans (mem_ofGroup.mp k).2) nofun
    · intro l _
      rw [slot]
      exact none_pending l

/-! ### The open flag of the crash slot -/

theorem isOpen_settleJobs (cut : List Stroke) (s : State) :
    (cut.foldl (fun t st => settleJob st.job t) s).slot = s.slot :=
  (frame_foldl (f := fun t (st : Stroke) => settleJob st.job t) (fun _ => frame_settleJob) cut (.refl s)).slot

theorem isOpen_overcurrentStrokes (cut : List Stroke) (s : State) :
    (cut.foldl (fun t st => st.members.foldl (overcurrentMember st) t) s).slot.isOpen = s.slot.isOpen := by
  induction cut generalizing s with
  | nil => rfl
  | cons st cut ih =>
    rw [List.foldl_cons, ih]
    exact (ActsFrame.foldl (op := overcurrentMember st) (fun _ _ => actFrame_overcurrentMember (.refl _ _))
      st.members s).isOpen

theorem isOpen_cutGroup (g : Group) (s : State) : (cutGroup g s).slot.isOpen = s.slot.isOpen := by
  unfold cutGroup
  dsimp only
  split
  · rfl
  · rw [trigger_slot, isOpen_settleJobs, isOpen_overcurrentStrokes, removeStrokes_slot]

theorem isOpen_checkOverload (g : Group) (s : State) : (checkOverload g s).slot.isOpen = s.slot.isOpen := by
  unfold checkOverload
  split
  · exact isOpen_cutGroup g s
  · rfl

theorem isOpen_admitLock (j : Job) (g : Goal) (as rem : List Act) (s : State) :
    (admitLock j g as rem s).slot.isOpen = s.slot.isOpen := by
  have base : (admitBase j as rem s).slot.isOpen = s.slot.isOpen := by
    rw [(admitBase_frame j as rem s).isOpen, takeFromQueue_slot]
  rw [admitLock_eq]
  split
  · exact base
  · rw [isOpen_checkOverload, isOpen_checkOverload, startStroke_slot, startStroke_slot]
    exact base

/-! ### The scan and the attempts -/

/-- A visit that passes a job has admitted it, or rejected it where it asks for a window (R97 to R99). -/
theorem visit_passed {j : Job} (h : visit j s = .passed t) :
    (∃ g as, j.targets = .lock g as ∧ matrixFree g as (remaining g as s) s = true ∧
      t = admitLock j g as (remaining g as s) s) ∨
    ∃ k, j.targets = .window k ∧ (t = rejectWindowJob j k.win s ∨ t = admitWindow j k s) := by
  unfold visit at h
  split at h
  · rename_i g as e
    simp only [visitLock] at h
    split at h
    · split at h
      · cases h
        exact .inl ⟨g, as, e, ‹_›, rfl⟩
      · cases h
    · cases h
  · rename_i k e
    unfold visitWindow at h
    refine .inr ⟨k, e, ?_⟩
    split at h
    · cases h
      exact .inl rfl
    · cases h
    · split at h
      · cases h
      · split at h
        · cases h
          exact .inl rfl
        · split at h
          · cases h
            exact .inr rfl
          · cases h

/-- What the admissions, the rejections and the sheds of a scan keep, the scan keeps (R97, R102). -/
theorem scanQueue_keeps {P : State → Prop}
    (lock : ∀ {j g as s}, P s → j ∈ s.queue → j.targets = .lock g as → matrixFree g as (remaining g as s) s = true →
      P (admitLock j g as (remaining g as s) s))
    (frame : ∀ {s t}, P s → LocksFrame s t → P t) (h : P s) : P (scanQueue s) := by
  have scan : ∀ (ids : List Nat) (b : Bool) (s : State), P s → P (scanJobs ids b s) := by
    intro ids
    induction ids with
    | nil => exact fun _ _ h => h
    | cons id ids ih =>
      intro b s h
      simp only [scanJobs]
      split
      · exact ih _ _ h
      · rename_i j found
        split
        · rename_i t passed
          refine ih _ _ ?_
          rcases visit_passed passed with ⟨g, as, e, free, rfl⟩ | ⟨k, -, rfl | rfl⟩
          · exact lock h (List.mem_of_find?_eq_some found) e free
          · exact frame h (frame_rejectWindowJob (.refl s))
          · exact frame h (frame_admitWindow (.refl s))
        · have shed : ∀ o : Option Nat, P (match b, o with | false, some cost => shedFor j cost s | _, _ => s) := by
            intro o
            split
            · exact frame h (frame_shedFor (.refl s))
            · exact h
          split
          · exact shed _
          · exact ih _ _ (shed _)
  exact scan _ _ _ h

/-- What the service of the slot, its close and the scans keep, the attempts after an event keep (R96, R110). -/
theorem settle_keeps {P : State → Prop} (scan : ∀ {s}, P s → s.slot.isOpen = false → P (scanQueue s))
    (serve : ∀ {s}, P s → s.slot.isOpen = true → P (serveSlot s)) (close : ∀ {s}, P s → s.slotDone = true → P (closeSlot s))
    (frame : ∀ {s t}, P s → LocksFrame s t → P t) (h : P s) : P (settle s) := by
  have attempts : ∀ {s}, P s → P (attempt s) := by
    intro s h
    unfold attempt
    dsimp only
    split
    · split
      · exact scan (close (serve h ‹_›) ‹_›) rfl
      · exact serve h ‹_›
    · exact scan h (by simpa using ‹¬ s.slot.isOpen = true›)
  have settled : ∀ (n : Nat) {s : State}, P s → P (settleFuel n s) := by
    intro n
    induction n with
    | zero => exact fun h => frame h (.ofView rfl)
    | succ n ih =>
      intro s h
      unfold settleFuel
      split
      · exact ih (attempts (frame h (.ofView rfl)))
      · exact h
  unfold settle closeDue
  refine settled _ ?_
  split
  · exact frame h (frame_trigger (.refl s))
  · exact h

/-- The law of the locks with the crash slot closed. -/
def LocksClosed (b : Bool) (s : State) : Prop := Locks b [] s ∧ s.slot.isOpen = false

theorem Locks.scanQueue (h : Locks b [] s) (closed : s.slot.isOpen = false) : Locks b [] (scanQueue s) := by
  refine (scanQueue_keeps (P := LocksClosed b) ?_ ?_ ⟨h, closed⟩).1
  · rintro j g as s ⟨h, closed⟩ hj e free
    have members : membersFree (remaining g as s) s = true := by
      simp only [matrixFree, Bool.and_eq_true] at free
      exact free.1.2
    exact ⟨h.admitLock closed hj (by simp [Job.goal?, e]) (by simp [Job.acts, e]) members,
      (isOpen_admitLock ..).trans closed⟩
  · rintro s t ⟨h, closed⟩ f
    exact ⟨h.frame f, f.slot ▸ closed⟩

/-! ### The service of the crash slot (R109, R110) -/

/-- The slot changes while it stays open, to sets that hold what runs and waits and no new pending latch. -/
theorem Locks.setSlot (h : Locks b [] s) (c : CrashSlot) (closed : c.isOpen = false → c.unused)
    (pending : ∀ l ∈ c.pending, l ∈ s.slot.pending) (stroking : ∀ l ∈ s.slot.stroking, l ∈ c.stroking)
    (waiting : ∀ l ∈ s.slot.waiting, l ∈ c.waiting) : Locks b [] { s with slot := c } where
  consistent := h.consistent
  disjoint := h.disjoint
  classed := h.classed
  closed := closed
  crash st hst hj m hm := by
    obtain ⟨l, hl, e⟩ := List.mem_map.mp (h.crash st hst hj m hm)
    exact List.mem_map.mpr ⟨l, stroking l hl, e⟩
  barredQueue := h.barredQueue
  barredStrokes := h.barredStrokes
  loose := nofun
  acts a ha := by
    have record : ({ s with slot := c } : State).act a = s.act a := act_congr rfl a
    refine (h.acts a ha).transport (by rw [record]) (by rw [record]) (by rw [record]) rfl rfl Iff.rfl id ?_
      (fun l _ hl => pending l hl)
    intro hw
    obtain ⟨l, hl, e⟩ := List.mem_map.mp hw
    exact List.mem_map.mpr ⟨l, waiting l hl, e⟩

theorem Locks.dropPending (h : Locks b [] s) (l : Latch) : Locks b [] (dropPending l s) := by
  unfold Machine.dropPending
  split
  · rename_i hl
    let t : State := { s with slot := { s.slot with pending := dropLatch l s.slot.pending } }
    have law := h.acts (.latch l) List.not_mem_nil
    have queued := law.pending l rfl hl.1
    have record : t.act (.latch l) = s.act (.latch l) := act_congr rfl _
    have fewer : Locks b [] t := by
      refine h.setSlot _ (fun o => ?_) (fun k hk => (mem_dropLatch.mp hk).1) (fun _ => id) (fun _ => id)
      obtain ⟨p, k, w⟩ := h.closed o
      exact ⟨by simp [p, dropLatch], k, w⟩
    refine fewer.dropAct (h.strokeOf_none_of_activity (a := .latch l) List.not_mem_nil (by simp [queued])) ?_ ?_
    · rw [record]
      by_contra k
      exact absurd (law.waiting.mpr (Option.isSome_iff_ne_none.mpr k)) (by simp [queued])
    · rintro k ⟨⟩ hk
      exact (mem_dropLatch.mp hk).2 rfl
  · exact h

theorem isOpen_dropPending (l : Latch) (s : State) : (dropPending l s).slot.isOpen = s.slot.isOpen := by
  unfold dropPending
  split
  · simp [dropAct_eq]
  · rfl

theorem startStroke_withSlot (job : Option Nat) (grp : Group) (g : Goal) (n : Nat) (as : List Act) (c : CrashSlot)
    (s : State) : startStroke job grp g n as { s with slot := c } = { startStroke job grp g n as s with slot := c } := by
  rcases eq_or_ne as [] with rfl | some
  · rfl
  · rw [startStroke_cons _ some, startStroke_cons _ some]
    have begins : ∀ (xs : List Act) (u : State), xs.foldl (fun t a => beginMember a t) { u with slot := c } =
        { xs.foldl (fun t a => beginMember a t) u with slot := c } := by
      intro xs
      induction xs with
      | nil => exact fun _ => rfl
      | cons x xs ih =>
        intro u
        rw [List.foldl_cons, List.foldl_cons, ← ih]
        congr 1
        cases x <;> rfl
    have record : strokeRecord job grp g n as { s with slot := c } = strokeRecord job grp g n as s := by
      simp only [strokeRecord]
      have members : memberOf g { s with slot := c } = memberOf g s := by
        funext a
        simp only [memberOf, act_congr (s := s) (t := { s with slot := c }) rfl a]
      rw [members]
      rfl
    rw [record]
    exact begins as (withStroke (strokeRecord job grp g n as s) s)

theorem Locks.serveGroup (h : Locks b [] s) (isOpen : s.slot.isOpen = true) (grp : Group) :
    Locks b [] (serveGroup grp s) := by
  unfold Machine.serveGroup
  dsimp only
  split
  · exact h
  · rename_i free
    simp only [Bool.or_eq_true, not_or, Bool.not_eq_true, Bool.not_eq_false'] at free
    obtain ⟨-, members⟩ := free
    rw [startStroke_slot, ← startStroke_withSlot]
    refine Locks.checkOverload (Locks.startStroke ?_ ?_ ?_ ?_ (fun _ => rfl) ?_) grp
    · refine h.setSlot _ (fun o => absurd (o.symm.trans isOpen) nofun) (fun l hl => (List.mem_filter.mp hl).1) ?_
        (fun _ => id)
      intro l hl
      have all : l ∈ Latch.all := by cases l <;> decide
      simp [all, hl]
    · exact fun a ha => by simpa [membersFree, State.strokeOf] using List.all_eq_true.mp members a ha
    · intro l hl
      simp only [latch_mem_map] at hl
      simp [List.mem_filter.mp hl]
    · intro a ha
      obtain ⟨l, -, rfl⟩ := List.mem_map.mp ha
      rfl
    · intro _ a ha
      obtain ⟨l, hl, rfl⟩ := List.mem_map.mp ha
      have all : l ∈ Latch.all := by cases l <;> decide
      refine latch_mem_map.mpr ?_
      simp only [List.mem_filter, Bool.or_eq_true, List.contains_iff_mem]
      exact ⟨all, .inr (List.mem_filter.mp hl)⟩

theorem isOpen_serveGroup (grp : Group) (s : State) : (Machine.serveGroup grp s).slot.isOpen = s.slot.isOpen := by
  unfold Machine.serveGroup
  dsimp only
  split
  · rfl
  · rw [isOpen_checkOverload, startStroke_slot]

theorem Locks.serveSlot (h : Locks b [] s) (isOpen : s.slot.isOpen = true) : Locks b [] (serveSlot s) := by
  have dropped : ∀ (ls : List Latch) (s : State), Locks b [] s → s.slot.isOpen = true →
      Locks b [] (ls.foldl (fun t l => Machine.dropPending l t) s) ∧
        (ls.foldl (fun t l => Machine.dropPending l t) s).slot.isOpen = true := by
    intro ls
    induction ls with
    | nil => exact fun _ h o => ⟨h, o⟩
    | cons l ls ih => exact fun s h o => ih _ (h.dropPending l) ((isOpen_dropPending l s).trans o)
  obtain ⟨law, o⟩ := dropped Latch.all s h isOpen
  exact (law.serveGroup o .DOOR).serveGroup ((isOpen_serveGroup .DOOR _).trans o) .TAIL

theorem Locks.closeSlot (h : Locks b [] s) (done : s.slotDone = true) : Locks b [] (closeSlot s) := by
  simp only [State.slotDone, Bool.and_eq_true, List.isEmpty_iff] at done
  obtain ⟨⟨⟨pending, stroking⟩, waiting⟩, -⟩ := done
  exact h.setSlot _ (fun _ => ⟨pending, stroking, waiting⟩) (fun _ => id) (fun _ => id) (fun _ => id)

/-- The admission attempts after an event keep the law of the locks. -/
theorem Locks.settle (h : Locks b [] s) : Locks b [] (settle s) :=
  settle_keeps (P := fun s => Locks b [] s) Locks.scanQueue Locks.serveSlot Locks.closeSlot Locks.frame h

end

end Sys2Proof.Machine

namespace Sys2Proof.Machine

open Sys2Proof

section
variable {b : Bool} {X : List Act} {s t : State} {a : Act}

/-! ### Requests (R9, R23, R90 to R92) -/

theorem frame_dropQueued (h : LocksFrame s t) : LocksFrame s (dropQueued a t) := by
  unfold dropQueued
  dsimp only
  split
  · exact frame_trigger (frame_setQueue h (queueLe_filterMap_without a t.queue))
  · exact frame_setQueue h (queueLe_filterMap_without a t.queue)

/-- A request keeps to the class of its actuators, and is no lock request while those are barred (R12, R87, R156). -/
def Askable (b : Bool) (g : Goal) (as : List Act) : Prop :=
  (∀ a ∈ as, isChildGoal g = !isLatch a) ∧ (b = true → lockGoal (some g) = false)

/-- What stands while a request meets the retry waits: its remaining actuators wait for none. -/
structure Met (b : Bool) (as : List Act) (f : Forming) : Prop where
  law : Locks b [] f.state
  rest : ∀ a ∈ f.rest, a ∈ as ∧ (f.state.act a).wait = none

theorem met_meetWait {as : List Act} {f : Forming} {g : Goal} (h : Met b as f) (ha : a ∈ as) : Met b as (meetWait g f a) := by
  unfold meetWait
  split
  · rename_i x hx
    split
    · split <;> exact ⟨h.law, h.rest⟩
    · have stroke := h.law.strokeOf_none_of_wait List.not_mem_nil hx
      have frame : ActFrame a f.state (abandonRetry a .IDLE f.state) := actFrame_abandonRetry (.refl _ _)
      refine ⟨(h.law.loosen stroke).abandonRetry rfl, ?_⟩
      intro c hc
      by_cases e : c = a
      · subst e
        exact ⟨ha, by simp [abandonRetry, act_resumeAs, resumed]⟩
      · have old := h.rest c ((List.mem_append.mp hc).resolve_right (by simpa using e))
        exact ⟨old.1, (frame.act c (by simpa using e)).symm ▸ old.2⟩
  · rename_i none
    refine ⟨h.law, ?_⟩
    intro c hc
    rcases List.mem_append.mp hc with k | k
    · exact h.rest c k
    · obtain rfl := List.mem_singleton.mp k
      exact ⟨ha, none⟩

theorem met_meetWaits {as xs : List Act} {f : Forming} {g : Goal} (h : Met b as f) (sub : ∀ a ∈ xs, a ∈ as) :
    Met b as (xs.foldl (meetWait g) f) := by
  induction xs generalizing f with
  | nil => exact h
  | cons x xs ih =>
    exact ih (met_meetWait h (sub x List.mem_cons_self)) (fun a ha => sub a (List.mem_cons_of_mem _ ha))

/-- What stands while a request meets the queued jobs: its remaining actuators are named by none. -/
structure Free (b : Bool) (as : List Act) (f : Forming) : Prop extends Met b as f where
  free : ∀ a ∈ f.rest, f.state.queuedFor a = none

/-- A queued job that names the actuator absorbs the request or loses the actuator (R91). -/
theorem meetJob_cases {f : Forming} {j : Job} (g : Goal) (queued : f.state.queuedFor a = some j) :
    (∃ x, meetJob g f a = { f with absorbed := x }) ∨
      meetJob g f a = { f with state := dropQueued a f.state, rest := f.rest ++ [a] } := by
  unfold meetJob
  rw [queued]
  exact (Classical.em _).elim (fun same => .inl ⟨_, if_pos same⟩) (fun other => .inr (if_neg other))

theorem meetJob_free {f : Forming} (g : Goal) (free : f.state.queuedFor a = none) :
    meetJob g f a = { f with rest := f.rest ++ [a] } := by
  simp [meetJob, free]

theorem free_meetJob {as : List Act} {f : Forming} {g : Goal} (h : Free b as f) (ha : a ∈ as)
    (wait : (f.state.act a).wait = none) : Free b as (meetJob g f a) := by
  have rest : ∀ c ∈ f.rest ++ [a], c ∈ as ∧ (f.state.act c).wait = none := by
    intro c hc
    rcases List.mem_append.mp hc with k | k
    · exact h.rest c k
    · obtain rfl := List.mem_singleton.mp k
      exact ⟨ha, wait⟩
  cases queued : f.state.queuedFor a with
  | some j =>
    rcases meetJob_cases g queued with ⟨x, e⟩ | e <;> rw [e]
    · exact ⟨⟨h.law, h.rest⟩, h.free⟩
    · refine ⟨⟨h.law.frame (frame_dropQueued (.refl _)), ?_⟩, ?_⟩
      · intro c hc
        rw [act_dropQueued]
        exact rest c hc
      · intro c hc
        rcases List.mem_append.mp hc with k | k
        · exact queuedFor_none_of_le (frame_dropQueued (.refl _)).queue (h.free c k)
        · obtain rfl := List.mem_singleton.mp k
          exact queuedFor_dropQueued c f.state
  | none =>
    rw [meetJob_free g queued]
    refine ⟨⟨h.law, rest⟩, ?_⟩
    intro c hc
    rcases List.mem_append.mp hc with k | k
    · exact h.free c k
    · obtain rfl := List.mem_singleton.mp k
      exact queued

theorem act_meetJob (g : Goal) (f : Forming) (a c : Act) : (meetJob g f a).state.act c = f.state.act c := by
  cases queued : f.state.queuedFor a with
  | some j =>
    rcases meetJob_cases g queued with ⟨x, e⟩ | e <;> rw [e]
    exact act_dropQueued a c f.state
  | none => rw [meetJob_free g queued]

theorem free_meetJobs {as xs : List Act} {f : Forming} {g : Goal} (h : Free b as f)
    (sub : ∀ a ∈ xs, a ∈ as ∧ (f.state.act a).wait = none) : Free b as (xs.foldl (meetJob g) f) := by
  induction xs generalizing f with
  | nil => exact h
  | cons x xs ih =>
    obtain ⟨hx, wait⟩ := sub x List.mem_cons_self
    refine ih (free_meetJob h hx wait) ?_
    intro c hc
    rw [act_meetJob]
    exact sub c (List.mem_cons_of_mem _ hc)

theorem free_mergeRequest {as : List Act} {g : Goal} (h : Locks b [] s) : Free b as (mergeRequest g as s) := by
  have met : Met b as (as.foldl (meetWait g) ⟨s, [], []⟩) := met_meetWaits ⟨h, nofun⟩ (fun _ => id)
  exact free_meetJobs ⟨⟨met.law, nofun⟩, nofun⟩ met.rest

/-- A lock or child job enters the queue, for actuators that wait for no retry. -/
theorem Locks.enterQueue {j : Job} (h : Locks b [] s) (classed : j.classed) (barred : b = true → lockGoal j.goal? = false)
    (wait : ∀ a ∈ j.acts, (s.act a).wait = none) : Locks b [] (enterQueue j s) := by
  let i : Job := { j with blocking := j.blocking || decide (blockingAge ≤ ageAt s.now j.enqueued) }
  have entered : Locks b [] { s with queue := insertByAge s.now i s.queue } := by
    have mem : ∀ x ∈ insertByAge s.now i s.queue, x = i ∨ x ∈ s.queue := fun x => mem_insertByAge.mp
    exact
      { h with
        classed := fun x hx => (mem x hx).elim (fun e => e ▸ classed) (h.classed x)
        barredQueue := fun hb x hx => (mem x hx).elim (fun e => e ▸ barred hb) (h.barredQueue hb x)
        acts := fun a ha => by
          have record : ({ s with queue := insertByAge s.now i s.queue } : State).act a = s.act a := act_congr rfl a
          have old := h.acts a ha
          exact
            { stroking := record ▸ old.stroking
              waiting := record ▸ old.waiting
              sensed := record ▸ old.sensed
              wait := fun x hx => by
                rw [record] at hx
                obtain ⟨free, law⟩ := old.wait x hx
                refine ⟨queuedFor_eq_none.mpr (fun k hk named => ?_), law⟩
                rcases mem k hk with rfl | hk
                · exact absurd (wait a named) (by simp [hx])
                · exact queuedFor_eq_none.mp free k hk named
              pending := fun l e hl => record ▸ old.pending l e hl } }
  exact entered.frame (LocksFrame.ofView (by
    show lockView (trigger (s.setQueue (insertByAge s.now i s.queue))) = _
    exact setQueue_view _ s))

theorem Locks.keepOut (h : Locks b [] s) : Locks b [] (keepOut a s) := by
  unfold Machine.keepOut
  split
  · rename_i e
    obtain ⟨queued, out⟩ := e
    have law := h.acts a List.not_mem_nil
    refine h.dropAct (h.strokeOf_none_of_activity List.not_mem_nil (by simp [queued])) ?_ ?_
    · by_contra k
      exact absurd (law.waiting.mpr (Option.isSome_iff_ne_none.mpr k)) (by simp [queued])
    · rintro l rfl hl
      simp [CrashSlot.has, hl] at out
  · exact h

theorem Locks.foldl_keepOut (h : Locks b [] s) (as : List Act) :
    Locks b [] (as.foldl (fun t a => Machine.keepOut a t) s) := by
  induction as generalizing s with
  | nil => exact h
  | cons a as ih => exact ih h.keepOut

theorem wait_queueAct (a c : Act) (s : State) : ((queueAct a s).act c).wait = (s.act c).wait := by
  rw [queueAct_eq]
  by_cases e : c = a
  · subst e
    simp
  · rw [act_setAct_ne _ _ e]

theorem Locks.foldl_queueAct (h : Locks b [] s) (as : List Act) (wait : ∀ a ∈ as, (s.act a).wait = none) :
    Locks b [] (as.foldl (fun t a => Machine.queueAct a t) s) := by
  induction as generalizing s with
  | nil => exact h
  | cons a as ih =>
    refine ih (h.queueAct (wait a List.mem_cons_self)) ?_
    intro c hc
    rw [wait_queueAct]
    exact wait c (List.mem_cons_of_mem _ hc)

theorem enterQueue_table (j : Job) (s : State) : (enterQueue j s).table = s.table := by
  simp [Machine.enterQueue]

/-- A request keeps the law of the locks (R9, R23, R90 to R92). -/
theorem Locks.formJob {o : Origin} {g : Goal} {as : List Act} (h : Locks b [] s) (ask : Askable b g as) :
    Locks b [] (formJob o g as s).2 := by
  have free : Free b as (mergeRequest g as s) := free_mergeRequest h
  unfold Machine.formJob
  dsimp only
  split
  · exact free.law
  · split
    · exact free.law.foldl_keepOut _
    · refine Locks.foldl_queueAct (Locks.enterQueue (free.law.frame (frame_tookId (.refl _))) ?_ ?_ ?_) _ ?_
      · intro g' e a ha
        cases e
        exact ask.1 a (free.rest a ha).1
      · exact ask.2
      · exact fun a ha => (act_congr rfl a).symm ▸ (free.rest a ha).2
      · intro a ha
        rw [act_congr (enterQueue_table _ _) a]
        exact (act_congr rfl a).symm ▸ (free.rest a ha).2

/-! ### The end of a retry wait (R22, R110) -/

theorem Locks.toPending {l : Latch} (h : Locks b [] s) (isOpen : s.slot.isOpen = true)
    (queued : (s.act (.latch l)).activity = .QUEUED) : Locks b [] (toPending (.latch l) s) := by
  have law := h.acts (.latch l) List.not_mem_nil
  have none : (s.act (.latch l)).wait = none := by
    by_contra k
    exact absurd (law.waiting.mpr (Option.isSome_iff_ne_none.mpr k)) (by simp [queued])
  let c : CrashSlot := { s.slot with waiting := dropLatch l s.slot.waiting, pending := addLatch l s.slot.pending }
  have moved : Locks b [] { s with slot := c } :=
    { h with
      closed := fun o => absurd (o.symm.trans isOpen) nofun
      acts := fun a ha => by
        have record : ({ s with slot := c } : State).act a = s.act a := act_congr rfl a
        have old := h.acts a ha
        exact
          { stroking := record ▸ old.stroking
            waiting := record ▸ old.waiting
            sensed := record ▸ old.sensed
            wait := fun x hx => by
              rw [record] at hx
              obtain ⟨free, job, crash⟩ := old.wait x hx
              refine ⟨free, job, fun e => ?_⟩
              obtain ⟨k, hk, rfl⟩ := List.mem_map.mp (crash e)
              refine latch_mem_map.mpr (mem_dropLatch.mpr ⟨hk, ?_⟩)
              rintro rfl
              exact absurd none (by simp [hx])
            pending := fun k e hk => by
              rw [record]
              rcases mem_addLatch.mp hk with rfl | hk
              · exact e ▸ queued
              · exact old.pending k e hk } }
  exact moved.frame (frame_trigger (.refl _))

theorem Locks.retryWork (h : Locks b [] s) : Locks b [] (retryWork a s) := by
  unfold Machine.retryWork
  split
  · exact h
  · rename_i x hx
    have law := (h.acts a List.not_mem_nil).wait x hx
    have stroke := h.strokeOf_none_of_wait List.not_mem_nil hx
    have resumed : Locks b [] (resumeAs a .QUEUED s) :=
      (h.loosen stroke).ofAct (actFrame_resumeAs (.refl _ s)) (by rw [resumeAs_slot]; exact h.closed)
        (actLaw_resumeAs rfl stroke (fun _ _ _ => rfl))
    split
    · rename_i none
      obtain ⟨l, hl, rfl⟩ := List.mem_map.mp (law.2.2 none)
      refine resumed.toPending ?_ (by simp [act_resumeAs, Machine.resumed])
      rw [resumeAs_slot]
      by_contra k
      rw [(h.closed (by simpa using k)).2.2] at hl
      cases hl
    · rename_i j hj
      obtain ⟨acts, classed, barred⟩ := law.2.1 j hj
      split
      · exact (h.loosen stroke).finalFailure
      · refine resumed.enterQueue classed barred ?_
        intro c hc
        obtain rfl : c = a := by simpa [acts] using hc
        simp [act_resumeAs, Machine.resumed]

/-! ### Contacts (R3 to R5, R22) -/

theorem sensed_setContact (c : Contact) (closed : Bool) (p : Pins) (a : Act) (h : a ≠ contactAct c) :
    decodeContacts (setContact c closed p) a = decodeContacts p a := by
  rcases c with l | d | k
  · rcases a with m | n
    · have ne : m ≠ l := fun e => h (by rw [e]; rfl)
      simp [decodeContacts, setContact, perlatch_get_set_ne _ _ ne]
    · rfl
  · rcases a with m | n
    · cases d <;> cases m <;> first | rfl | exact absurd rfl h
    · rfl
  · rcases a with m | n
    · rfl
    · have ne : n ≠ k := fun e => h (by rw [e]; rfl)
      simp [decodeContacts, setContact, perchild_get_set_ne _ _ ne]

/-- A contact changes: the law goes on but for the record that has to follow it. -/
theorem Locks.setContact {c : Contact} {closed : Bool} (h : Locks b [] s) :
    Locks b [contactAct c] { s with pins := setContact c closed s.pins } ∧
        follows (s.act (contactAct c)).activity = true ∨
      Locks b [] { s with pins := setContact c closed s.pins } ∧ follows (s.act (contactAct c)).activity = false := by
  have record : ∀ a, ({ s with pins := Machine.setContact c closed s.pins } : State).act a = s.act a :=
    fun a => act_congr rfl a
  have others : ∀ a, a ≠ contactAct c → ActLaw b { s with pins := Machine.setContact c closed s.pins } a :=
    fun a ha => (h.acts a List.not_mem_nil).transport (by rw [record]) (by rw [record]) (by rw [record]) rfl
      (sensed_setContact c closed s.pins a ha) Iff.rfl id id (fun _ _ => id)
  have own := h.acts (contactAct c) List.not_mem_nil
  cases f : follows (s.act (contactAct c)).activity with
  | true =>
    refine .inl ⟨?_, rfl⟩
    have stroke : s.strokeOf (contactAct c) = none :=
      h.strokeOf_none_of_activity List.not_mem_nil (fun e => by simp [e, Machine.follows] at f)
    exact
      { h with
        loose := fun a ha => (List.mem_singleton.mp ha).symm ▸ stroke
        acts := fun a ha => others a (by simpa using ha) }
  | false =>
    refine .inr ⟨?_, rfl⟩
    exact
      { h with
        acts := fun a _ => by
          by_cases e : a = contactAct c
          · subst e
            exact
              { stroking := by rw [record]; exact own.stroking
                waiting := by rw [record]; exact own.waiting
                sensed := fun _ k => by rw [record, f] at k; cases k
                wait := by rw [record]; exact own.wait
                pending := by rw [record]; exact own.pending }
          · exact others a e }

/-- The record of a contact takes the position that is seen, IDLE or QUEUED. -/
theorem actLaw_settled {r : ActRec} {p : Position} {u : State} (stroke : u.strokeOf a = none) (none : r.wait = none)
    (follow : follows r.activity = true) (seen : u.sensed a = some p)
    (pending : ∀ l, a = .latch l → l ∈ u.slot.pending → r.activity = .QUEUED) :
    ActLaw b (setPosition a p (u.setAct a r)) a := by
  have frame : ActFrame a u (setPosition a p (u.setAct a r)) := actFrame_setPosition (actFrame_setAct (.refl _ u))
  have record : (setPosition a p (u.setAct a r)).act a = { r with state := p } := by
    rw [act_setPosition, act_setAct_same]
  have slot : (setPosition a p (u.setAct a r)).slot = u.slot := by
    unfold setPosition
    split <;> simp
  have pins : (setPosition a p (u.setAct a r)).pins = u.pins := outside_pins frame.outside
  exact
    { stroking := by
        rw [record, strokeOf_congr frame.strokes, stroke]
        cases e : r.activity <;> simp_all [Machine.follows]
      waiting := by
        rw [record]
        cases e : r.activity <;> simp_all [Machine.follows]
      sensed := fun _ _ q hq => by
        rw [sensed_congr (s := u) (by rw [pins]) (by rw [pins]) (by rw [pins]) a, seen] at hq
        rw [record]
        exact Option.some.inj hq
      wait := fun x hx => by simp [record, none] at hx
      pending := fun l e hl => by
        rw [record]
        exact pending l e (slot ▸ hl) }

theorem slot_setPosition (p : Position) (r : ActRec) : (setPosition a p (s.setAct a r)).slot = s.slot := by
  unfold setPosition
  split <;> simp

theorem slot_leaveSlot_setPosition {r : ActRec} {p : Position} {u : State} (h : u.slot.isOpen = false → u.slot.unused) :
    (setPosition a p ((leaveSlot a u).setAct a r)).slot.isOpen = false →
      (setPosition a p ((leaveSlot a u).setAct a r)).slot.unused := by
  rw [slot_setPosition]
  exact fun o => unused_leaveSlot (h (isOpen_leaveSlot a u ▸ o))

/-- A record that follows takes up a change of its contacts (R4, R5). -/
theorem Locks.sensedChanged_following (h : Locks b [a] s) (follow : follows (s.act a).activity = true)
    (unwaited : (s.act a).wait = none) (pending : ∀ l, a = .latch l → l ∈ s.slot.pending → (s.act a).activity = .QUEUED) :
    Locks b [] (sensedChanged a s) := by
  have stroke := h.loose a (List.mem_singleton_self a)
  have followed : Locks b [] (match s.sensed a with
      | some p => followContact a p s
      | none => s.setAct a { s.act a with invalidT := some (s.timer invalidSpan) }) := by
    split
    · rename_i p seen
      exact h.ofAct (actFrame_setPosition (actFrame_setAct (.refl _ s)))
        (by unfold followContact; dsimp only; rw [slot_setPosition]; exact h.closed) (actLaw_settled stroke unwaited follow seen pending)
    · rename_i seen
      refine h.ofAct (actFrame_setAct (.refl _ s)) (by simpa using h.closed) ?_
      exact
        { stroking := by
            rw [act_setAct_same, strokeOf_congr (s := s) (by simp), stroke]
            cases e : (s.act a).activity <;> simp_all [Machine.follows]
          waiting := by
            rw [act_setAct_same]
            cases e : (s.act a).activity <;> simp_all [Machine.follows]
          sensed := fun _ _ p hp => by rw [sensed_setAct, seen] at hp; cases hp
          wait := fun x hx => by simp [unwaited] at hx
          pending := fun l e hl => by
            rw [act_setAct_same]
            exact pending l e (by simpa using hl) }
  unfold sensedChanged
  dsimp only
  cases e : (s.act a).activity with
  | STROKING => simp [e, Machine.follows] at follow
  | RETRY_WAIT => simp [e, Machine.follows] at follow
  | IDLE => cases k : s.sensed a <;> simpa [e, k] using followed
  | QUEUED => cases k : s.sensed a <;> simpa [e, k] using followed

/-- A record that strokes or waits takes up a change of its contacts (R4, R22). -/
theorem Locks.sensedChanged_busy (h : Locks b [] s) (busy : follows (s.act a).activity = false) :
    Locks b [] (sensedChanged a s) := by
  unfold sensedChanged
  dsimp only
  split
  · exact h
  · exact h
  · rename_i p _ seen
    split
    · rename_i x hx
      split
      · have stroke := h.strokeOf_none_of_wait List.not_mem_nil hx
        have left : ActFrame a s (leaveSlot a s) := actFrame_leaveSlot (.refl _ s)
        refine (h.loosen stroke).ofAct (actFrame_setPosition (actFrame_setAct left))
          (slot_leaveSlot_setPosition h.closed) ?_
        refine actLaw_settled ((strokeOf_congr left.strokes a).trans stroke) rfl rfl ?_
          (fun l e hl => absurd hl (not_pending_leaveSlot l e))
        rw [sensed_congr (s := s)] <;> first | exact seen | rw [outside_pins left.outside]
      · exact h
    · exact h
  · rename_i hs hr _ _
    cases e : (s.act a).activity <;> simp_all [Machine.follows]
  · rename_i hs hr _ _
    cases e : (s.act a).activity <;> simp_all [Machine.follows]

/-- A debounced contact of a latch or a child lock changes. -/
theorem Locks.contactWork {c : Contact} {closed : Bool} (h : Locks b [] s) :
    Locks b [] (contactWork c { s with pins := Machine.setContact c closed s.pins }) := by
  have frame : LocksFrame { s with pins := Machine.setContact c closed s.pins }
      (raise .LATCH_CHANGED (wake { s with pins := Machine.setContact c closed s.pins })) :=
    frame_raise (frame_wake (.refl _))
  have record : ∀ a, ({ s with pins := Machine.setContact c closed s.pins } : State).act a = s.act a :=
    fun a => act_congr rfl a
  unfold Machine.contactWork
  rcases h.setContact (c := c) (closed := closed) with ⟨law, follow⟩ | ⟨law, busy⟩
  · have own := h.acts (contactAct c) List.not_mem_nil
    have stroke : s.strokeOf (contactAct c) = none := law.loose _ (List.mem_singleton_self _)
    refine (law.frame frame).sensedChanged_following ?_ ?_ ?_
    · rw [frame.activity, record]
      exact follow
    · rw [frame.wait, record]
      by_contra k
      have waits := own.waiting.mpr (Option.isSome_iff_ne_none.mpr k)
      simp [waits, Machine.follows] at follow
    · rw [frame.activity, record, frame.slot]
      exact own.pending
  · refine (law.frame frame).sensedChanged_busy ?_
    rw [frame.activity, record]
    exact busy

end

end Sys2Proof.Machine

namespace Sys2Proof.Machine

open Sys2Proof

/-! ### The crash cut (R36, R37) -/

/-- Erasing from a list all that passes a test leaves what fails it. -/
theorem diff_filter {α : Type} [BEq α] [LawfulBEq α] (p : α → Bool) (l : List α) : l.diff (l.filter p) = l.filter (fun x => !p x) := by
  have kept : ∀ (x : α) (xs ys : List α), x ∉ ys → (x :: xs).diff ys = x :: xs.diff ys := by
    intro x xs ys
    induction ys generalizing xs with
    | nil => exact fun _ => rfl
    | cons y ys ih =>
      intro h
      have ne : x ≠ y := fun e => h (e ▸ List.mem_cons_self)
      rw [List.diff_cons, List.erase_cons_tail (by simpa using ne), ih _ (fun k => h (List.mem_cons_of_mem _ k)), List.diff_cons]
  induction l with
  | nil => rfl
  | cons x l ih =>
    cases e : p x with
    | true => simpa [e, List.diff_cons] using ih
    | false =>
      rw [List.filter_cons_of_neg (by simp [e]), kept _ _ _ (by simp [e]), List.filter_cons_of_pos (by simp [e]), ih]

section
variable {b : Bool} {X : List Act} {s t : State} {a : Act}

/-- What is crash, relock timer, hold and search is not spoken of by the law of the locks. -/
theorem Locks.besides (h : Locks b X s) (c : CrashUnit) (r : Option Timer) (o : Hold) (u : SearchUnit) :
    Locks b X { s with crash := c, relock := r, hold := o, search := u } :=
  ⟨h.consistent, h.disjoint, h.classed, h.closed, h.crash, h.barredQueue, h.barredStrokes, h.loose,
    fun a ha => (h.acts a ha).transport rfl rfl rfl rfl rfl Iff.rfl id id (fun _ _ => id)⟩

theorem Locks.releaseAct {x : Activity} (h : Locks b (a :: X) s) (hx : follows x = true)
    (pending : ∀ l, a = .latch l → l ∉ s.slot.pending) : Locks b X (releaseAct a x s) := by
  have f : ActFrame a s (setAttempts a 0 s) := actFrame_setAttempts (.refl _ s)
  refine h.ofAct (actFrame_resumeAs f) (by unfold Machine.releaseAct; rw [resumeAs_slot, setAttempts_slot]; exact h.closed)
    (actLaw_resumeAs hx ((strokeOf_congr f.strokes a).trans (h.loose a List.mem_cons_self)) ?_)
  exact fun l e hl => absurd (f.fewer l hl) (pending l e)

/-- The activity that the crash cut gives a member (R37). -/
def cutActivity (a : Act) (s : State) : Activity := if isLatch a then .IDLE else restActivity a s

theorem follows_cutActivity (a : Act) (s : State) : follows (cutActivity a s) = true := by
  unfold cutActivity
  split
  · rfl
  · exact follows_restActivity a s

theorem wait_releaseAct (a : Act) (x : Activity) (s : State) : ((releaseAct a x s).act a).wait = none := by
  unfold Machine.releaseAct
  rw [act_resumeAs]
  rfl

theorem act_enterQueue (j : Job) (s : State) (a : Act) : (enterQueue j s).act a = s.act a :=
  act_congr (enterQueue_table j s) a

theorem enterQueue_strokes (j : Job) (s : State) : (enterQueue j s).strokes = s.strokes := by
  simp [Machine.enterQueue]

theorem enterQueue_slot (j : Job) (s : State) : (enterQueue j s).slot = s.slot := by
  simp [Machine.enterQueue]

theorem foldl_setQueued_frame (as : List Act) (s : State) :
    ActsFrame as s (as.foldl (fun t a => setActivity a .QUEUED t) s) := by
  have f := ActsFrame.foldl (key := id) (op := fun t a => setActivity a .QUEUED t)
    (fun _ _ => actFrame_setActivity (.refl _ _)) as s
  rwa [List.map_id] at f

/-- Actuators that neither stroke nor wait become QUEUED. -/
theorem Locks.foldl_setQueued (h : Locks b [] s) (as : List Act) (stroke : ∀ a ∈ as, s.strokeOf a = none)
    (wait : ∀ a ∈ as, (s.act a).wait = none) :
    Locks b [] (as.foldl (fun t a => setActivity a .QUEUED t) s) := by
  induction as generalizing s with
  | nil => exact h
  | cons c as ih =>
    have first := h.setFollowing (stroke c List.mem_cons_self) (wait c List.mem_cons_self)
      { s.act c with activity := .QUEUED } rfl rfl (wait c List.mem_cons_self) (fun _ _ _ => rfl)
    have f : ActFrame c s (setActivity c .QUEUED s) := actFrame_setActivity (.refl _ s)
    refine ih first ?_ ?_
    · exact fun a ha => (strokeOf_congr f.strokes a).trans (stroke a (List.mem_cons_of_mem _ ha))
    · intro a ha
      have old := wait a (List.mem_cons_of_mem _ ha)
      by_cases e : a = c
      · subst e
        simpa [setActivity] using old
      · rw [f.act a (by simpa using e)]
        exact old

theorem returnChildren_strokes (st : Stroke) (job : Option Job) (s : State) :
    (returnChildren st job s).strokes = s.strokes := by
  unfold returnChildren
  split
  · rfl
  · dsimp only
    split
    · rfl
    · rw [(foldl_setQueued_frame _ _).strokes, enterQueue_strokes]
      rfl

theorem isOpen_returnChildren (st : Stroke) (job : Option Job) (s : State) :
    (returnChildren st job s).slot.isOpen = s.slot.isOpen := by
  unfold returnChildren
  split
  · rfl
  · dsimp only
    split
    · rfl
    · rw [(foldl_setQueued_frame _ _).isOpen, enterQueue_slot]
      rfl

/-- The child members of a cut stroke return to the queue (R37). -/
theorem Locks.returnChildren {st : Stroke} {job : Option Job} (h : Locks b [] s)
    (stroke : ∀ m ∈ st.members, s.strokeOf m.act = none) (wait : ∀ m ∈ st.members, (s.act m.act).wait = none) :
    Locks b [] (returnChildren st job s) := by
  unfold Machine.returnChildren
  split
  · exact h
  · dsimp only
    split
    · exact h
    · have member : ∀ a ∈ (st.members.map (·.act)).filter (fun a => !isLatch a && !s.queue.any (·.names a)),
          isLatch a = false ∧ ∃ m ∈ st.members, m.act = a := by
        intro a ha
        simp only [List.mem_filter, List.mem_map, Bool.and_eq_true, Bool.not_eq_true'] at ha
        exact ⟨ha.2.1, ha.1⟩
      have free : ∀ a ∈ (st.members.map (·.act)).filter (fun a => !isLatch a && !s.queue.any (·.names a)),
          s.strokeOf a = none ∧ (s.act a).wait = none := by
        intro a ha
        obtain ⟨m, hm, rfl⟩ := (member a ha).2
        exact ⟨stroke m hm, wait m hm⟩
      refine Locks.foldl_setQueued (Locks.enterQueue (h.frame (frame_tookId (.refl s))) ?_ (fun _ => rfl) ?_) _ ?_ ?_
      · intro g e a ha
        cases e
        rw [(member a ha).1]
        rfl
      · exact fun a ha => (act_congr (s := s) rfl a).symm ▸ (free a ha).2
      · exact fun a ha => (strokeOf_congr (enterQueue_strokes ..) a).trans (free a ha).1
      · intro a ha
        rw [act_enterQueue]
        exact (act_congr (s := s) rfl a).symm ▸ (free a ha).2

theorem crashMembers_frame (ms : List Member) (s : State) : ActsFrame (ms.map (·.act)) s (ms.foldl crashMember s) :=
  ActsFrame.foldl (op := crashMember) (fun _ _ => actFrame_releaseAct (.refl _ _)) ms s

theorem crashCutStroke_strokes (st : Stroke) (s : State) : (crashCutStroke s st).strokes = s.strokes.erase st := by
  unfold crashCutStroke
  dsimp only
  rw [trigger_strokes, (frame_settleJob (.refl _)).strokes, returnChildren_strokes, (crashMembers_frame _ _).strokes]
  rfl

theorem isOpen_crashCutStroke (st : Stroke) (s : State) : (crashCutStroke s st).slot.isOpen = s.slot.isOpen := by
  unfold crashCutStroke
  dsimp only
  rw [trigger_slot, (frame_settleJob (.refl _)).slot, isOpen_returnChildren, (crashMembers_frame _ _).isOpen]
  rfl

theorem Locks.crashCutStroke {st : Stroke} (h : Locks b [] s) (hst : st ∈ s.strokes) : Locks b [] (crashCutStroke s st) := by
  have removed := h.removeStroke hst
  have members : Locks b [] (st.members.foldl crashMember (Machine.removeStroke st s)) :=
    Locks.foldl_members (op := crashMember) (fun _ _ => actFrame_releaseAct (.refl _ _))
      (fun h _ pending => h.releaseAct (follows_cutActivity _ _) pending) _ removed
      (fun m hm => h.memberLaw hst hm) (fun m hm => h.not_pending hst hm)
  have returned := members.returnChildren (st := st) (job := st.job.bind (fun id => s.admitted.find? (fun j => j.id = id))) ?_ ?_
  · exact returned.frame (frame_trigger (frame_settleJob (.refl _)))
  · intro m hm
    rw [strokeOf_congr (crashMembers_frame _ _).strokes]
    exact removed.loose m.act (List.mem_append_left _ (List.mem_map_of_mem hm))
  · intro m hm
    have folded : st.members.foldl crashMember (Machine.removeStroke st s) =
        (st.members.map (·.act)).foldl (fun t a => Machine.releaseAct a (cutActivity a t) t) (Machine.removeStroke st s) := by
      rw [List.foldl_map]
      rfl
    rw [folded]
    exact foldl_record (P := fun r => r.wait = none) (fun _ _ => actFrame_releaseAct (.refl _ _))
      (fun s x => wait_releaseAct x _ s) _ _ (List.mem_map_of_mem hm)

/-- Strokes that run are cut one by one. -/
theorem Locks.crashCutStrokes {cut : List Stroke} (h : Locks b [] s) (sub : cut.Subperm s.strokes) :
    Locks b [] (cut.foldl Machine.crashCutStroke s) ∧
      (cut.foldl Machine.crashCutStroke s).strokes = s.strokes.diff cut ∧
      (cut.foldl Machine.crashCutStroke s).slot.isOpen = s.slot.isOpen := by
  induction cut generalizing s with
  | nil => exact ⟨h, rfl, rfl⟩
  | cons st cut ih =>
    have rest : cut.Subperm (Machine.crashCutStroke s st).strokes := by
      have erased := sub.erase st
      rwa [List.erase_cons_head, ← crashCutStroke_strokes] at erased
    obtain ⟨law, strokes, isOpen⟩ := ih (h.crashCutStroke (sub.subset List.mem_cons_self)) rest
    refine ⟨law, ?_, isOpen.trans (isOpen_crashCutStroke st s)⟩
    rw [List.foldl_cons, strokes, crashCutStroke_strokes, List.diff_cons]

/-- The crash cut leaves the strokes that are not PLUS (R36). -/
theorem Locks.crashCut (h : Locks b [] s) :
    Locks b [] (crashCut s) ∧ (∀ st ∈ (Machine.crashCut s).strokes, st ∈ s.strokes ∧ st.polarity ≠ .PLUS) ∧
      (Machine.crashCut s).slot.isOpen = s.slot.isOpen := by
  obtain ⟨law, strokes, isOpen⟩ := h.crashCutStrokes (List.filter_sublist (p := fun st : Stroke => decide (st.polarity = .PLUS))).subperm
  refine ⟨law, ?_, isOpen⟩
  unfold Machine.crashCut
  rw [strokes, diff_filter]
  intro st hst
  obtain ⟨hs, hp⟩ := List.mem_filter.mp hst
  exact ⟨hs, by simpa using hp⟩

/-! ### The lock table and the queue at an indication (R152) -/

theorem Locks.endRetryWait (h : Locks b [] s) : Locks b [] (endRetryWait s a) ∧ ((Machine.endRetryWait s a).act a).wait = none := by
  have law := h.acts a List.not_mem_nil
  unfold Machine.endRetryWait
  split
  · rename_i e
    refine ⟨(h.loosen (h.strokeOf_none_of_activity List.not_mem_nil (by simp [e]))).abandonRetry rfl, ?_⟩
    simp [Machine.abandonRetry, act_resumeAs, Machine.resumed]
  · rename_i e
    refine ⟨h, ?_⟩
    by_contra k
    exact e (law.waiting.mpr (Option.isSome_iff_ne_none.mpr k))

theorem actFrame_endRetryWait (h : ActFrame a s t) : ActFrame a s (endRetryWait t a) := by
  unfold Machine.endRetryWait
  split
  · exact actFrame_abandonRetry h
  · exact h

/-- No latch waits for a retry after an indication (R152). -/
theorem Locks.endLatchWaits (h : Locks b [] s) :
    Locks b [] (endLatchWaits s) ∧ (∀ l, ((Machine.endLatchWaits s).act (.latch l)).wait = none) := by
  have waits : ∀ (as : List Act) (s : State), Locks b [] s →
      Locks b [] (as.foldl Machine.endRetryWait s) ∧
        ∀ a, a ∈ as ∨ (s.act a).wait = none → ((as.foldl Machine.endRetryWait s).act a).wait = none := by
    intro as
    induction as with
    | nil => exact fun s h => ⟨h, fun a ha => ha.resolve_left List.not_mem_nil⟩
    | cons c as ih =>
      intro s h
      obtain ⟨law, own⟩ := h.endRetryWait (a := c)
      obtain ⟨all, none⟩ := ih _ law
      refine ⟨all, fun a ha => none a ?_⟩
      by_cases e : a = c
      · subst e
        exact .inr own
      · have f : ActFrame c s (Machine.endRetryWait s c) := actFrame_endRetryWait (.refl _ s)
        rw [f.act a (by simpa using e)]
        exact ha.imp_left (fun k => (List.mem_cons.mp k).resolve_left e)
  obtain ⟨law, none⟩ := waits Act.latches s h
  exact ⟨law, fun l => none _ (.inl (by cases l <;> decide))⟩

theorem endLatchWaits_frame (s : State) : ActsFrame Act.latches s (endLatchWaits s) := by
  have f := ActsFrame.foldl (key := id) (op := Machine.endRetryWait) (fun _ _ => actFrame_endRetryWait (.refl _ _)) Act.latches s
  rwa [List.map_id] at f

theorem Locks.idleQueued (h : Locks b [] s) (closed : s.slot.isOpen = false) : Locks b [] (idleQueued s a) := by
  unfold Machine.idleQueued
  split
  · rename_i e
    have law := h.acts a List.not_mem_nil
    refine Locks.dropAct h (h.strokeOf_none_of_activity List.not_mem_nil (by simp [e])) ?_ ?_
    · by_contra k
      exact absurd (law.waiting.mpr (Option.isSome_iff_ne_none.mpr k)) (by simp [e])
    · intro l _ hl
      rw [(h.closed closed).1] at hl
      cases hl
  · exact h

/-- What taking jobs out of the queue changes of a record: its activity and attempts. -/
theorem idleQueued_keep (s : State) (a : Act) :
    (Machine.idleQueued s a).slot = s.slot ∧ (Machine.idleQueued s a).strokes = s.strokes ∧
      (Machine.idleQueued s a).queue = s.queue ∧ outside (Machine.idleQueued s a) = outside s ∧
      ∀ c, ((Machine.idleQueued s a).act c).wait = (s.act c).wait := by
  unfold Machine.idleQueued
  split
  · rw [show setActivity a .IDLE (setAttempts a 0 s) = Machine.dropAct a s from rfl, dropAct_eq]
    refine ⟨by simp, by simp, by simp, by simp, fun c => ?_⟩
    by_cases e : c = a
    · subst e
      simp
    · rw [act_setAct_ne _ _ e]
  · exact ⟨rfl, rfl, rfl, rfl, fun _ => rfl⟩

theorem Locks.foldl_idleQueued (h : Locks b [] s) (closed : s.slot.isOpen = false) (as : List Act) :
    Locks b [] (as.foldl Machine.idleQueued s) := by
  induction as generalizing s with
  | nil => exact h
  | cons a as ih => exact ih (h.idleQueued closed) ((idleQueued_keep s a).1 ▸ closed)

theorem foldl_idleQueued_keep (as : List Act) (s : State) :
    (as.foldl Machine.idleQueued s).slot = s.slot ∧ (as.foldl Machine.idleQueued s).strokes = s.strokes ∧
      (as.foldl Machine.idleQueued s).queue = s.queue ∧ outside (as.foldl Machine.idleQueued s) = outside s ∧
      ∀ c, ((as.foldl Machine.idleQueued s).act c).wait = (s.act c).wait := by
  induction as generalizing s with
  | nil => exact ⟨rfl, rfl, rfl, rfl, fun _ => rfl⟩
  | cons a as ih =>
    obtain ⟨slot, strokes, queue, out, wait⟩ := idleQueued_keep s a
    obtain ⟨slot', strokes', queue', out', wait'⟩ := ih (Machine.idleQueued s a)
    exact ⟨slot'.trans slot, strokes'.trans strokes, queue'.trans queue, out'.trans out, fun c => (wait' c).trans (wait c)⟩

/-- The queue without its LOCK and DEADLOCK jobs, and their actuators given up (R152). -/
def withoutLockJobs (s : State) : State :=
  ((s.queue.filter (fun j => lockGoal j.goal?)).flatMap (·.acts)).foldl Machine.idleQueued
    (s.setQueue (s.queue.filter (fun j => !lockGoal j.goal?)))

theorem removeLockJobs_eq (s : State) : removeLockJobs s = s ∧ (∀ j ∈ s.queue, lockGoal j.goal? = false) ∨
    removeLockJobs s = trigger (withoutLockJobs s) := by
  unfold removeLockJobs withoutLockJobs
  dsimp only
  split
  · rename_i e
    refine .inl ⟨rfl, fun j hj => ?_⟩
    have none := List.filter_eq_nil_iff.mp (List.isEmpty_iff.mp e) j hj
    simpa using none
  · exact .inr (by rw [List.foldl_flatMap])

/-- What the removal of the lock jobs keeps, with the queue that it leaves (R152). -/
theorem removeLockJobs_keep (s : State) :
    (removeLockJobs s).slot = s.slot ∧ (removeLockJobs s).strokes = s.strokes ∧
      (∀ j ∈ (removeLockJobs s).queue, lockGoal j.goal? = false) ∧ outside (removeLockJobs s) = outside s ∧
      ∀ c, ((removeLockJobs s).act c).wait = (s.act c).wait := by
  rcases removeLockJobs_eq s with ⟨e, none⟩ | e
  · rw [e]
    exact ⟨rfl, rfl, none, rfl, fun _ => rfl⟩
  · rw [e]
    obtain ⟨slot, strokes, queue, out, wait⟩ := foldl_idleQueued_keep
      ((s.queue.filter (fun j => lockGoal j.goal?)).flatMap (·.acts)) (s.setQueue (s.queue.filter (fun j => !lockGoal j.goal?)))
    refine ⟨slot.trans (by simp), strokes.trans (by simp), ?_, out.trans (by simp), fun c => (wait c).trans (by simp)⟩
    intro j hj
    rw [trigger_queue, withoutLockJobs, queue, setQueue_queue] at hj
    simpa using (List.mem_filter.mp hj).2

theorem Locks.removeLockJobs (h : Locks b [] s) (closed : s.slot.isOpen = false) : Locks b [] (removeLockJobs s) := by
  rcases removeLockJobs_eq s with ⟨e, -⟩ | e
  · rw [e]
    exact h
  · rw [e]
    have fewer : Locks b [] (s.setQueue (s.queue.filter (fun j => !lockGoal j.goal?))) :=
      h.frame (frame_setQueue (.refl s) (QueueLe.of_subset (fun j hj => List.mem_of_mem_filter hj)))
    exact (fewer.foldl_idleQueued (by simpa using closed) _).frame (frame_trigger (.refl _))

/-- With no lock job queued, running or waiting, the law bars lock jobs (R156). -/
theorem Locks.bar (h : Locks false [] s) (queue : ∀ j ∈ s.queue, lockGoal j.goal? = false)
    (strokes : ∀ st ∈ s.strokes, st.polarity ≠ .PLUS) (waits : ∀ l, (s.act (.latch l)).wait = none) : Locks true [] s where
  consistent := h.consistent
  disjoint := h.disjoint
  classed := h.classed
  closed := h.closed
  crash := h.crash
  barredQueue _ := queue
  barredStrokes _ st hst m hm latch := by
    obtain ⟨g, pole, member⟩ := h.consistent st hst
    obtain ⟨target, classed⟩ := member m hm
    rw [target]
    have minus := strokes st hst
    rw [pole] at minus
    cases g with
    | UNLOCK => rfl
    | LOCK => exact absurd rfl minus
    | DEADLOCK => exact absurd rfl minus
    | ENGAGE => exact absurd rfl minus
    | RELEASE => rw [latch] at classed; cases classed
  loose := nofun
  acts a ha := by
    have old := h.acts a ha
    exact
      { stroking := old.stroking
        waiting := old.waiting
        sensed := old.sensed
        wait := fun x hx => by
          obtain ⟨free, job, crash⟩ := old.wait x hx
          refine ⟨free, fun j hj => ?_, crash⟩
          obtain ⟨acts, classed, -⟩ := job j hj
          refine ⟨acts, classed, fun _ => ?_⟩
          cases a with
          | latch l => rw [waits l] at hx; cases hx
          | child c =>
            cases e : j.goal? with
            | none => rfl
            | some g => exact lockGoal_of_child (classed g e (.child c) (by simp [acts]))
        pending := old.pending }

/-! ### The crash job (R108, R152) -/

/-- A latch of the crash set leaves the queue and is QUEUED with attempts 0 (R152). -/
def pendAct (s : State) (a : Act) : State := setActivity a .QUEUED (setAttempts a 0 (dropQueued a s))

theorem pendAct_eq (s : State) (a : Act) :
    pendAct s a = (dropQueued a s).setAct a { s.act a with attempts := 0, activity := .QUEUED } := by
  simp [pendAct, setActivity, setAttempts]

theorem actFrame_pendAct (s : State) (a : Act) : ActFrame a s (pendAct s a) :=
  actFrame_setActivity (actFrame_setAttempts (actFrame_dropQueued (.refl _ s)))

theorem Locks.pendAct (h : Locks b [] s) (stroke : s.strokeOf a = none) (wait : (s.act a).wait = none) :
    Locks b [] (pendAct s a) := by
  rw [pendAct_eq]
  exact (h.frame (frame_dropQueued (.refl s))).setFollowing ((strokeOf_congr (by simp) a).trans stroke) (by simpa using wait)
    _ (by simp) rfl wait (fun _ _ _ => rfl)

theorem Locks.foldl_pendAct (h : Locks b [] s) (as : List Act) (stroke : ∀ a ∈ as, s.strokeOf a = none)
    (wait : ∀ a ∈ as, (s.act a).wait = none) : Locks b [] (as.foldl Machine.pendAct s) := by
  induction as generalizing s with
  | nil => exact h
  | cons c as ih =>
    have f := actFrame_pendAct s c
    refine ih (h.pendAct (stroke c List.mem_cons_self) (wait c List.mem_cons_self)) ?_ ?_
    · exact fun a ha => (strokeOf_congr f.strokes a).trans (stroke a (List.mem_cons_of_mem _ ha))
    · intro a ha
      have old := wait a (List.mem_cons_of_mem _ ha)
      by_cases e : a = c
      · subst e
        simpa [pendAct_eq] using old
      · rw [f.act a (by simpa using e)]
        exact old

/-- The closed slot opens with latches that are QUEUED (R108, R152). -/
theorem Locks.openSlot (h : Locks b [] s) (closed : s.slot.isOpen = false) (set : List Latch)
    (queued : ∀ l ∈ set, (s.act (.latch l)).activity = .QUEUED) : Locks b [] { s with slot := ⟨true, set, [], []⟩ } := by
  obtain ⟨pending, stroking, waiting⟩ := h.closed closed
  have record : ∀ a, ({ s with slot := ⟨true, set, [], []⟩ } : State).act a = s.act a := fun a => act_congr rfl a
  exact
    { h with
      closed := fun o => nomatch o
      crash := fun st hst hj m hm => by
        have member := h.crash st hst hj m hm
        rw [stroking] at member
        cases member
      acts := fun a ha => by
        have old := h.acts a ha
        exact
          { stroking := record a ▸ old.stroking
            waiting := record a ▸ old.waiting
            sensed := record a ▸ old.sensed
            wait := fun x hx => by
              rw [record] at hx
              obtain ⟨free, job, crash⟩ := old.wait x hx
              refine ⟨free, job, fun e => ?_⟩
              have member := crash e
              rw [waiting] at member
              cases member
            pending := fun l e hl => by
              rw [record, e]
              exact queued l hl } }

/-- A latch of the crash set has no stroke: a stroke of the barred law unlocks it (R108, R156). -/
theorem Locks.strokeOf_crashSet (h : Locks true [] s) {l : Latch} (hl : l ∈ crashSet s) : s.strokeOf (.latch l) = none := by
  refine strokeOf_eq_none.mpr (fun st hst => ?_)
  by_contra k
  obtain ⟨m, hm, e⟩ := has_iff.mp (by simpa using k)
  have target := h.barredStrokes rfl st hst m hm (e ▸ rfl)
  have unlocks : unlocking l s = true := by
    simp only [unlocking, List.any_eq_true, Bool.and_eq_true, decide_eq_true_eq]
    exact ⟨st, hst, m, hm, e, target⟩
  simp [crashSet, unlocks] at hl

theorem Locks.launchCrash (h : Locks true [] s) (closed : s.slot.isOpen = false)
    (waits : ∀ l, (s.act (.latch l)).wait = none) : Locks true [] (launchCrash s) := by
  have folded : (crashSet s).foldl pendLatch s = ((crashSet s).map .latch).foldl Machine.pendAct s := by
    rw [List.foldl_map]
    rfl
  have pended : Locks true [] ((crashSet s).foldl pendLatch s) := by
    rw [folded]
    refine h.foldl_pendAct _ ?_ ?_
    · intro a ha
      obtain ⟨l, hl, rfl⟩ := List.mem_map.mp ha
      exact h.strokeOf_crashSet hl
    · intro a ha
      obtain ⟨l, -, rfl⟩ := List.mem_map.mp ha
      exact waits l
  refine (pended.openSlot ?_ _ ?_).frame (frame_trigger (.refl _))
  · rw [folded, (ActsFrame.foldl (key := id) actFrame_pendAct _ s).isOpen, closed]
  · intro l hl
    rw [folded]
    exact foldl_record (P := fun r => r.activity = .QUEUED) actFrame_pendAct (fun s x => by simp [pendAct_eq]) _ _
      (List.mem_map_of_mem hl)

theorem frame_crashWindows (h : LocksFrame s t) : LocksFrame s (crashWindows t) :=
  frame_removeAllWindowJobs (frame_haltAllWindows h)

/-- The first indication (R151 to R153). -/
theorem Locks.firstIndication (h : Locks false [] s) (closed : s.slot.isOpen = false) :
    Locks true [] (firstIndication s) := by
  let t : State := { s with crash := { s.crash with latch := true } }
  have set : Locks false [] t := h.besides _ s.relock s.hold s.search
  obtain ⟨cut, minus, isOpen⟩ := set.crashCut
  obtain ⟨ended, waits⟩ := cut.endLatchWaits
  have f := endLatchWaits_frame (Machine.crashCut t)
  have shut : (Machine.endLatchWaits (Machine.crashCut t)).slot.isOpen = false := by
    rw [f.isOpen, isOpen]
    exact closed
  have removed := ended.removeLockJobs shut
  obtain ⟨slot, strokes, queue, -, wait⟩ := removeLockJobs_keep (Machine.endLatchWaits (Machine.crashCut t))
  have barred : Locks true [] (Machine.removeLockJobs (Machine.endLatchWaits (Machine.crashCut t))) := by
    refine removed.bar queue ?_ (fun l => (wait _).trans (waits l))
    rw [strokes, f.strokes]
    exact fun st hst => (minus st hst).2
  have closes : LocksFrame (Machine.removeLockJobs (Machine.endLatchWaits (Machine.crashCut t)))
      (closeSearch .CANCELLED none (closeHold (cancelRelock (crashWindows
        (Machine.removeLockJobs (Machine.endLatchWaits (Machine.crashCut t))))))) :=
    frame_closeSearch (frame_closeHold (frame_cancelRelock (frame_crashWindows (.refl _))))
  refine (barred.frame closes).launchCrash ?_ ?_
  · rw [closes.slot, slot, shut]
  · intro l
    rw [closes.wait, wait, waits]

/-- A later indication with the slot closed (R157). -/
theorem Locks.relaunch (h : Locks true [] s) (closed : s.slot.isOpen = false) : Locks true [] (relaunch s) := by
  obtain ⟨ended, waits⟩ := h.endLatchWaits
  have windows : LocksFrame (Machine.endLatchWaits s) (crashWindows (Machine.endLatchWaits s)) := frame_crashWindows (.refl _)
  refine (ended.frame windows).launchCrash ?_ ?_
  · rw [windows.slot, (endLatchWaits_frame s).isOpen, closed]
  · exact fun l => (windows.wait _).trans (waits l)

end

end Sys2Proof.Machine

namespace Sys2Proof.Machine

open Sys2Proof

/-! ### RESTART, power-on and expired readings (R181, R182, R185) -/

section
variable {b : Bool} {X : List Act} {s t : State} {a c : Act}

/-- A record that follows its contacts, waits for nothing and has its sensed position for its state (R4). -/
structure Calmed (s : State) (a : Act) : Prop where
  follow : follows (s.act a).activity = true
  wait : (s.act a).wait = none
  seen : s.phase ≠ .LOADING → ∀ p, s.sensed a = some p → (s.act a).state = p

/-- With no stroke, no job and no latch in the slot, calm records are the whole law. -/
theorem Locks.ofRest (strokes : s.strokes = []) (queue : s.queue = []) (slot : s.slot.unused) (acts : ∀ a, Calmed s a) :
    Locks b [] s where
  consistent := by simp [strokes]
  disjoint := by simp [strokes]
  classed := by simp [queue]
  closed _ := slot
  crash := by simp [strokes]
  barredQueue := by simp [queue]
  barredStrokes := by simp [strokes]
  loose := nofun
  acts a _ := by
    obtain ⟨follow, wait, seen⟩ := acts a
    exact
      { stroking := by
          rw [show s.strokeOf a = none by simp [State.strokeOf, strokes]]
          cases e : (s.act a).activity <;> simp_all [Machine.follows]
        waiting := by
          rw [wait]
          cases e : (s.act a).activity <;> simp_all [Machine.follows]
        sensed := fun h _ => seen h
        wait := fun x hx => by rw [wait] at hx; cases hx
        pending := fun l _ hl => by rw [slot.1] at hl; cases hl }

/-- What RESTART can still find of a record once the strokes are cut: a retry wait, or a calm record. -/
def Cut (s : State) (a : Act) : Prop := (s.act a).activity = .RETRY_WAIT ∨ Calmed s a

theorem Calmed.congr (h : Calmed s a) (record : t.act a = s.act a) (sensed : t.sensed a = s.sensed a) (phase : t.phase = s.phase) :
    Calmed t a := ⟨record ▸ h.follow, record ▸ h.wait, by rw [record, sensed, phase]; exact h.seen⟩

theorem Cut.congr (h : Cut s a) (record : t.act a = s.act a) (sensed : t.sensed a = s.sensed a) (phase : t.phase = s.phase) :
    Cut t a := h.imp (fun e => record ▸ e) (fun k => k.congr record sensed phase)

theorem Calmed.frame (h : Calmed s a) (f : LocksFrame s t) : Calmed t a where
  follow := f.activity a ▸ h.follow
  wait := f.wait a ▸ h.wait
  seen := by
    rw [f.state, f.sensed, Ne, f.loading]
    exact h.seen

theorem Cut.frame (h : Cut s a) (f : LocksFrame s t) : Cut t a := h.imp (fun e => (f.activity a).trans e) (fun k => k.frame f)

theorem sensed_releaseAct (c : Act) (x : Activity) (s : State) (a : Act) : (releaseAct c x s).sensed a = s.sensed a := by
  have pins : (releaseAct c x s).pins = s.pins := outside_pins (by simp)
  exact sensed_congr (by rw [pins]) (by rw [pins]) (by rw [pins]) a

theorem calmed_releaseAct (a : Act) (s : State) : Calmed (releaseAct a .IDLE s) a where
  follow := by
    unfold releaseAct
    rw [act_resumeAs]
    rfl
  wait := wait_releaseAct a .IDLE s
  seen _ p hp := by
    rw [sensed_releaseAct] at hp
    unfold releaseAct
    rw [act_resumeAs]
    have seen : (setAttempts a 0 s).sensed a = some p := (sensed_setAct s a a _).trans hp
    simp [resumed, seen]

theorem Cut.releaseAct (h : a = c ∨ Cut s a) : Cut (releaseAct c .IDLE s) a := by
  by_cases e : a = c
  · subst e
    exact .inr (calmed_releaseAct a s)
  · have f : ActFrame c s (Machine.releaseAct c .IDLE s) := actFrame_releaseAct (.refl _ s)
    exact (h.resolve_left e).congr (f.act a (by simpa using e)) (sensed_releaseAct ..) (outside_phase f.outside)

theorem Cut.restartMembers (ms : List Member) (h : a ∈ ms.map (·.act) ∨ Cut s a) : Cut (ms.foldl restartMember s) a := by
  induction ms generalizing s with
  | nil => exact h.resolve_left List.not_mem_nil
  | cons m ms ih =>
    refine ih ?_
    rcases h with k | k
    · exact (List.mem_cons.mp k).elim (fun e => .inr (Cut.releaseAct (.inl e))) .inl
    · exact .inr (Cut.releaseAct (.inr k))

theorem Cut.restartStroke (st : Stroke) (h : st.has a = true ∨ Cut s a) : Cut (restartStroke s st) a := by
  have members : Cut (st.members.foldl restartMember (removeStroke st s)) a := by
    refine Cut.restartMembers _ (h.imp ?_ (fun k => k.congr (act_congr rfl a) rfl rfl))
    intro k
    obtain ⟨m, hm, e⟩ := has_iff.mp k
    exact List.mem_map.mpr ⟨m, hm, e⟩
  exact members.frame (frame_settleJob (.refl _))

theorem Cut.restartStrokes (cut : List Stroke) (h : (∃ st ∈ cut, st.has a = true) ∨ Cut s a) :
    Cut (cut.foldl Machine.restartStroke s) a := by
  induction cut generalizing s with
  | nil => exact h.resolve_left (fun ⟨_, h, _⟩ => nomatch h)
  | cons st cut ih =>
    refine ih ?_
    rcases h with ⟨x, hx, k⟩ | k
    · rcases List.mem_cons.mp hx with rfl | hx
      · exact .inr (Cut.restartStroke _ (.inl k))
      · exact .inl ⟨x, hx, k⟩
    · exact .inr (Cut.restartStroke _ (.inr k))

theorem restartStroke_strokes (st : Stroke) (s : State) : (restartStroke s st).strokes = s.strokes.erase st := by
  unfold restartStroke
  rw [(frame_settleJob (.refl _)).strokes,
    (ActsFrame.foldl (op := restartMember) (fun _ _ => actFrame_releaseAct (.refl _ _)) _ _).strokes]
  rfl

theorem restartStrokes_strokes (cut : List Stroke) (s : State) : (cut.foldl restartStroke s).strokes = s.strokes.diff cut := by
  induction cut generalizing s with
  | nil => rfl
  | cons st cut ih => rw [List.foldl_cons, ih, restartStroke_strokes, List.diff_cons]

theorem restartStrokes_unused (cut : List Stroke) (h : s.slot = CrashSlot.closed) :
    (cut.foldl restartStroke s).slot = CrashSlot.closed := by
  have members : ∀ (ms : List Member) (s : State), (ms.foldl restartMember s).slot = s.slot := by
    intro ms
    induction ms with
    | nil => exact fun _ => rfl
    | cons m ms ih =>
      intro s
      rw [List.foldl_cons, ih]
      unfold restartMember releaseAct
      rw [resumeAs_slot, setAttempts_slot]
  induction cut generalizing s with
  | nil => exact h
  | cons st cut ih =>
    refine ih ?_
    unfold restartStroke
    rw [(frame_settleJob (.refl _)).slot, members]
    exact h

theorem restartAct_record (c : Act) (h : Cut s c) : Calmed (restartAct s c) c := by
  unfold restartAct
  split
  · exact calmed_releaseAct c s
  · rename_i other
    obtain ⟨-, wait, seen⟩ := h.resolve_left other
    refine ⟨by simp [setActivity, follows], by simpa [setActivity, setAttempts] using wait, fun hp p hq => ?_⟩
    simpa [setActivity, setAttempts] using seen (by simpa [setActivity, setAttempts] using hp) p
      (by simpa [setActivity, setAttempts, sensed_setAct] using hq)

theorem actFrame_restartAct (c : Act) (s : State) : ActFrame c s (restartAct s c) := by
  unfold restartAct
  split
  · exact actFrame_releaseAct (.refl _ s)
  · exact actFrame_setActivity (actFrame_setAttempts (.refl _ s))

theorem resumeAs_queue (a : Act) (x : Activity) (s : State) : (resumeAs a x s).queue = s.queue := by
  unfold resumeAs setPosition
  dsimp only
  split
  · split <;> simp
  · simp

theorem restartAct_keep (c : Act) (s : State) : (restartAct s c).slot = s.slot ∧ (restartAct s c).queue = s.queue := by
  unfold restartAct
  split
  · unfold releaseAct
    rw [resumeAs_slot, setAttempts_slot, resumeAs_queue]
    exact ⟨rfl, by simp [setAttempts]⟩
  · simp [setActivity, setAttempts]

theorem sensed_of_outside (h : outside t = outside s) (a : Act) : t.sensed a = s.sensed a :=
  sensed_congr (by rw [outside_pins h]) (by rw [outside_pins h]) (by rw [outside_pins h]) a

/-- Every record that RESTART resets is calm (R182). -/
theorem restartActs_record (as : List Act) (s : State) (cut : ∀ a, Cut s a) (ha : a ∈ as) :
    Calmed (as.foldl restartAct s) a := by
  have keeps : ∀ (xs : List Act) (s : State), (∀ a, Cut s a) → ∀ a, a ∈ xs ∨ Calmed s a → Calmed (xs.foldl restartAct s) a := by
    intro xs
    induction xs with
    | nil => exact fun s _ a h => h.resolve_left List.not_mem_nil
    | cons c xs ih =>
      intro s cut a h
      have f := actFrame_restartAct c s
      have others : ∀ a, a ≠ c → Cut s a → Cut (restartAct s c) a := fun a e k =>
        k.congr (f.act a (by simpa using e)) (sensed_of_outside f.outside a) (outside_phase f.outside)
      refine ih _ (fun a => ?_) a ?_
      · by_cases e : a = c
        · exact .inr (e ▸ restartAct_record c (cut c))
        · exact others a e (cut a)
      · by_cases e : a = c
        · exact .inr (e ▸ restartAct_record c (cut c))
        · refine h.imp (fun k => (List.mem_cons.mp k).resolve_left e) (fun k => ?_)
          exact k.congr (f.act a (by simpa using e)) (sensed_of_outside f.outside a) (outside_phase f.outside)
  exact keeps as s cut a (.inl ha)

theorem restartActs_frame (as : List Act) (s : State) : ActsFrame as s (as.foldl restartAct s) := by
  have f := ActsFrame.foldl (key := id) (op := restartAct) (fun s x => actFrame_restartAct x s) as s
  rwa [List.map_id] at f

theorem restartActs_keep (as : List Act) (s : State) :
    (as.foldl restartAct s).slot = s.slot ∧ (as.foldl restartAct s).queue = s.queue := by
  induction as generalizing s with
  | nil => exact ⟨rfl, rfl⟩
  | cons c as ih =>
    obtain ⟨slot, queue⟩ := restartAct_keep c s
    obtain ⟨slot', queue'⟩ := ih (restartAct s c)
    exact ⟨slot'.trans slot, queue'.trans queue⟩

theorem restartDrives_keep (s : State) :
    (restartDrives s).strokes = [] ∧ (restartDrives s).slot = CrashSlot.closed := by
  have f : LocksFrame (s.strokes.foldl restartStroke { s with slot := CrashSlot.closed }) (restartDrives s) :=
    frame_haltAllWindows (frame_trigger (.refl _))
  refine ⟨?_, f.slot.trans (restartStrokes_unused s.strokes rfl)⟩
  rw [f.strokes, restartStrokes_strokes]
  simpa using diff_filter (fun _ => true) s.strokes

theorem Locks.cut_restartDrives (h : Locks b [] s) (a : Act) : Cut (restartDrives s) a := by
  have f : LocksFrame (s.strokes.foldl restartStroke { s with slot := CrashSlot.closed }) (restartDrives s) :=
    frame_haltAllWindows (frame_trigger (.refl _))
  refine (Cut.restartStrokes s.strokes ?_).frame f
  have law := h.acts a List.not_mem_nil
  have calm : follows (s.act a).activity = true → Calmed { s with slot := CrashSlot.closed } a := by
    intro follow
    refine Calmed.congr (s := s) ⟨follow, ?_, fun hp => law.sensed hp follow⟩ (act_congr rfl a) rfl rfl
    by_contra k
    have waits := law.waiting.mpr (Option.isSome_iff_ne_none.mpr k)
    rw [waits] at follow
    cases follow
  cases e : (s.act a).activity with
  | IDLE => exact .inr (.inr (calm (by rw [e]; rfl)))
  | QUEUED => exact .inr (.inr (calm (by rw [e]; rfl)))
  | STROKING => exact .inl (strokeOf_isSome.mp (law.stroking.mp e))
  | RETRY_WAIT => exact .inr (.inl ((congrArg ActRec.activity (act_congr (s := s) rfl a)).trans e))

/-- The records after RESTART, before the search, the hold and the timers are reset (R182). -/
def restarted (s : State) : State :=
  Win.all.foldl restartWindow (Act.all.foldl restartAct { restartDrives s with queue := [], nearFull := false })

theorem frame_restartWindow {w : Win} (h : LocksFrame s t) : LocksFrame s (restartWindow t w) := by
  unfold restartWindow
  split
  · exact frame_idleWindow h
  · exact h

theorem frame_restartReset {k : Option Reading} {e : Option EntryRecord} {p : PerSwitch Bool} (h : LocksFrame s t) :
    LocksFrame s { t with hold := Hold.closed, relock := none, keyLock := k, entry := e, spent := p } :=
  h.trans { LocksFrame.refl t with relock := .inl rfl, hold := nofun }

theorem frame_restartParams (h : LocksFrame s t) : LocksFrame s (restartParams t) :=
  frame_changeParams (h.view rfl)

theorem frame_restartNotices (h : LocksFrame s t) : LocksFrame s (restartNotices t) := h.view rfl

theorem takeRestart_frame (s : State) : LocksFrame (restarted s) (takeRestart s).2 :=
  frame_restartNotices (frame_restartParams (frame_restartReset (frame_closeQuietly (.refl _))))

theorem Locks.restarted (h : Locks b [] s) : Locks b [] (restarted s) := by
  obtain ⟨strokes, slot⟩ := restartDrives_keep s
  let u : State := { restartDrives s with queue := [], nearFull := false }
  have f := restartActs_frame Act.all u
  obtain ⟨slot', queue⟩ := restartActs_keep Act.all u
  have rest : Locks b [] (Act.all.foldl restartAct u) := by
    refine Locks.ofRest (f.strokes.trans strokes) queue ?_ ?_
    · rw [slot', show u.slot = _ from slot]
      exact ⟨rfl, rfl, rfl⟩
    · exact fun a => restartActs_record _ _ (fun c => (h.cut_restartDrives c).congr (act_congr rfl c) rfl rfl) (mem_actAll a)
  exact rest.frame (frame_foldl (f := restartWindow) (fun _ => frame_restartWindow) _ (.refl _))

/-- RESTART (R182). -/
theorem Locks.takeRestart (h : Locks b [] s) : Locks b [] (takeRestart s).2 :=
  h.restarted.frame (takeRestart_frame s)

/-- A power-on (R181). -/
theorem Locks.powerOn (ph : Phase) (pins : Pins) (s : State) : Locks b [] (powerOn ph pins s) := by
  refine Locks.ofRest rfl rfl ⟨rfl, rfl, rfl⟩ (fun a => ?_)
  have record : (Machine.powerOn ph pins s).act a = loadedAct pins a := by
    rcases a with (_ | _ | _ | _ | _) | (_ | _) <;> rfl
  have loaded : (loadedAct pins a).activity = .IDLE ∧ (loadedAct pins a).wait = none := by
    unfold loadedAct
    split <;> exact ⟨rfl, rfl⟩
  refine ⟨by rw [record, loaded.1]; rfl, by rw [record, loaded.2], fun _ p hp => ?_⟩
  rw [record]
  have seen : decodeContacts pins a = some p := hp
  simp [loadedAct, seen, ActRec.fresh]

/-! ### Expired readings -/

theorem markJob_goal (id : Nat) (j : Job) : (markJob id j).goal? = j.goal? ∧ (markJob id j).acts = j.acts := by
  unfold markJob
  split <;> exact ⟨rfl, rfl⟩

theorem Locks.markWait {id : Nat} (h : Locks b [] s) : Locks b [] (markWait id s a) := by
  unfold Machine.markWait
  cases e : (s.act a).wait with
  | none => exact h.frame ((LocksFrame.refl s).setAct rfl rfl e.symm)
  | some x =>
    have law := h.acts a List.not_mem_nil
    have waits : (s.act a).activity = .RETRY_WAIT := law.waiting.mpr (by simp [e])
    have stroke := h.strokeOf_none_of_wait List.not_mem_nil e
    obtain ⟨free, job, crash⟩ := law.wait x e
    refine (h.loosen stroke).ofAct (actFrame_setAct (.refl _ s)) (by simpa using h.closed) ?_
    exact
      { stroking := by rw [act_setAct_same, strokeOf_congr (s := s) (by simp), stroke]; simp [waits]
        waiting := by rw [act_setAct_same]; simp [waits]
        sensed := by rw [act_setAct_same]; simp [waits, Machine.follows]
        wait := fun y hy => by
          rw [act_setAct_same] at hy
          obtain rfl := Option.some.inj hy
          refine ⟨queuedFor_eq_none.mpr (by simpa using queuedFor_eq_none.mp free), fun j hj => ?_, fun hn => ?_⟩
          · obtain ⟨i, hi, rfl⟩ := Option.map_eq_some_iff.mp hj
            obtain ⟨goal, acts⟩ := markJob_goal id i
            rw [Job.classed, goal, acts]
            exact job i hi
          · simpa using crash (Option.map_eq_none_iff.mp hn)
        pending := fun l el hl => by
          rw [act_setAct_same]
          exact law.pending l el (by simpa using hl) }

/-- Strokes change in what the law does not speak of. -/
theorem Locks.mapStrokes (h : Locks b [] s) (f : Stroke → Stroke)
    (same : ∀ st, (f st).job = st.job ∧ (f st).polarity = st.polarity ∧ (f st).members = st.members) :
    Locks b [] { s with strokes := s.strokes.map f } := by
  have has : ∀ st a, (f st).has a = st.has a := fun st a => by simp [Stroke.has, (same st).2.2]
  have strokeOf : ∀ a, (({ s with strokes := s.strokes.map f } : State).strokeOf a).isSome = (s.strokeOf a).isSome := by
    intro a
    rw [Bool.eq_iff_iff, strokeOf_isSome, strokeOf_isSome]
    simp [has]
  exact
    { h with
      consistent := by
        intro st hst
        obtain ⟨x, hx, rfl⟩ := List.mem_map.mp hst
        unfold Stroke.consistent
        rw [(same x).2.1, (same x).2.2]
        exact h.consistent x hx
      disjoint := by
        rw [List.pairwise_map]
        simpa [has] using h.disjoint
      crash := by
        intro st hst
        obtain ⟨x, hx, rfl⟩ := List.mem_map.mp hst
        rw [(same x).1, (same x).2.2]
        exact h.crash x hx
      barredStrokes := by
        intro hb st hst
        obtain ⟨x, hx, rfl⟩ := List.mem_map.mp hst
        rw [(same x).2.2]
        exact h.barredStrokes hb x hx
      loose := nofun
      acts := fun a ha => (h.acts a ha).transport rfl rfl rfl (strokeOf a) rfl Iff.rfl id id (fun _ _ => id) }

theorem Locks.markRef {r : ReadingRef} (h : Locks b [] s) : Locks b [] (markRef r s) := by
  unfold Machine.markRef
  split
  · rename_i id
    have marked : ∀ (as : List Act) (s : State), Locks b [] s → Locks b [] (as.foldl (Machine.markWait id) s) := by
      intro as
      induction as with
      | nil => exact fun _ h => h
      | cons a as ih => exact fun s h => ih _ h.markWait
    have queue : Locks b [] { s with queue := s.queue.map (markJob id) } :=
      h.frame { LocksFrame.refl s with
        queue := QueueLe.map s.queue (fun j g hg => by
          obtain ⟨goal, acts⟩ := markJob_goal id j
          exact ⟨goal ▸ hg, fun a ha => acts ▸ ha⟩) }
    exact marked _ _ (queue.frame (LocksFrame.ofView rfl))
  · refine h.mapStrokes _ (fun st => ?_)
    split <;> exact ⟨rfl, rfl, rfl⟩
  · refine h.frame { LocksFrame.refl s with search := fun x hx => ?_ }
    obtain ⟨y, hy, rfl⟩ := Option.map_eq_some_iff.mp hx
    exact ⟨y, hy, rfl⟩
  all_goals exact h.frame (LocksFrame.ofView rfl)

end

end Sys2Proof.Machine

/-! ## What every step keeps

`Kept P`: a property that window, port, fob and store operations do not touch, and that the operations on locks, strokes
and the crash slot keep, is kept by every step. -/

namespace Sys2Proof.Machine

open Sys2Proof

structure Kept (P : State → Prop) : Prop where
  frame : ∀ {s t}, P s → LocksFrame s t → P t
  form : ∀ {o g as s}, P s → Askable s.crash.latch g as → P (formJob o g as s).2
  relock : ∀ {s}, P s → s.relock ≠ none → P (relockWork s)
  passive : ∀ {s x}, P s → s.search.current = some x → x.purpose ≠ .UNLOCK → P (formJob .SEARCH .LOCK Act.latches s).2
  startRelock : ∀ {s}, P s → s.crash.latch = false → P (startRelock s)
  openHold : ∀ {i c p s}, P s → s.crash.latch = false → P (openHold i c p s)
  openSearch : ∀ {p l s}, P s → (s.crash.latch = true → p = .UNLOCK) → P (openSearch p l s)
  contact : ∀ {c closed s}, P s → P (contactWork c { s with pins := setContact c closed s.pins })
  contactLoading : ∀ {c closed s}, P s → s.phase = .LOADING → P { s with pins := setContact c closed s.pins }
  endStroke : ∀ {st s}, P s → st ∈ s.strokes → P (endStroke st s)
  cutGroup : ∀ {g s}, P s → P (cutGroup g s)
  retry : ∀ {a s}, P s → P (retryWork a s)
  settle : ∀ {s}, P s → P (settle s)
  first : ∀ {s}, P s → s.crash.latch = false → P (firstIndication s)
  relaunch : ∀ {s}, P s → s.crash.latch = true → s.slot.isOpen = false → P (relaunch s)
  clear : ∀ {s}, P s → s.slot.isOpen = false → P { s with crash := { s.crash with latch := false } }
  restart : ∀ {s}, P s → P (takeRestart s).2
  mark : ∀ {r s}, P s → P (markRef r s)
  powerOn : ∀ {ph pins s}, P s → P (powerOn ph pins s)
  enabled : ∀ {s}, P s → P { Machine.powerOn .ACTIVE s.pins s with crash := s.crash }

theorem askable_latches {b : Bool} {g : Goal} {as : List Act} (child : isChildGoal g = false)
    (latches : ∀ a ∈ as, isLatch a = true) (barred : b = true → lockGoal (some g) = false) : Askable b g as :=
  ⟨fun a ha => by rw [child, latches a ha]; rfl, barred⟩

theorem askable_children {b : Bool} {g : Goal} {as : List Act} (child : isChildGoal g = true)
    (children : ∀ a ∈ as, isLatch a = false) : Askable b g as :=
  ⟨fun a ha => by rw [child, children a ha]; rfl, fun _ => lockGoal_of_child child⟩

theorem isLatch_of_mem_latches : ∀ a ∈ Act.latches, isLatch a = true := by decide
theorem isLatch_of_mem_doorActs : ∀ a ∈ doorActs, isLatch a = true := by decide
theorem isLatch_of_mem_children : ∀ a ∈ Act.children, isLatch a = false := by decide

theorem isLatch_of_latchSetOf {b : Byte} {as : List Act} (h : latchSetOf b = some as) : ∀ a ∈ as, isLatch a = true := by
  unfold latchSetOf at h
  split at h
  · cases h
  · cases h
    intro a ha
    obtain ⟨x, hx, rfl⟩ := List.mem_map.mp ha
    exact isLatch_of_mem_latches _ (List.of_mem_zip (List.mem_of_mem_filter hx)).1

theorem isLatch_of_childSetOf {b : Byte} {as : List Act} (h : childSetOf b = some as) : ∀ a ∈ as, isLatch a = false := by
  unfold childSetOf at h
  split at h
  · cases h
  · cases h
    intro a ha
    obtain ⟨x, hx, rfl⟩ := List.mem_map.mp ha
    exact isLatch_of_mem_children _ (List.of_mem_zip (List.mem_of_mem_filter hx)).1

theorem childGoal_of_latchGoalOf {b : Byte} {g : Goal} (h : latchGoalOf b = some g) : isChildGoal g = false := by
  have mem : g ∈ [Goal.LOCK, .DEADLOCK, .UNLOCK] := List.mem_of_getElem? h
  revert mem
  cases g <;> decide

theorem childGoal_of_childGoalOf {b : Byte} {g : Goal} (h : childGoalOf b = some g) : isChildGoal g = true := by
  have mem : g ∈ [Goal.ENGAGE, .RELEASE] := List.mem_of_getElem? h
  revert mem
  cases g <;> decide

theorem crash_formJob (o : Origin) (g : Goal) (as : List Act) (s : State) : (formJob o g as s).2.crash = s.crash :=
  outside_crash (outside_formJob o g as s)

theorem phase_finish (s : State) : (finish s).phase = s.phase := (congrArg State.phase (outside_finish s) :)

theorem phase_wake (s : State) : s.phase = .LOADING ↔ (wake s).phase = .LOADING := (frame_wake (.refl s)).loading.symm

theorem phase_awaken {s : State} (h : s.phase ≠ .LOADING) : (awaken s).phase ≠ .LOADING := by
  unfold awaken
  split
  · rw [phase_finish, Ne, ← phase_wake]
    exact h
  · rw [Ne, ← phase_wake]
    exact h

namespace Kept

variable {P : State → Prop} {s : State}

theorem view (k : Kept P) (h : P s) {t : State} (e : lockView t = lockView s) : P t := k.frame h (.ofView e)

theorem finish (k : Kept P) (h : P s) : P (finish s) := k.frame (k.settle h) (frame_pump (.refl _))

theorem wake (k : Kept P) (h : P s) : P (wake s) := k.frame h (frame_wake (.refl _))

theorem awaken (k : Kept P) (h : P s) : P (awaken s) := by
  unfold Machine.awaken
  split
  · exact k.finish (k.wake h)
  · exact k.wake h

/-! ### Events -/

theorem event (k : Kept P) {work : State → State} (h : P s) (keeps : P s → s.phase ≠ .LOADING → P (work s)) :
    P (event work s) := by
  unfold Machine.event
  split
  · exact h
  · exact k.finish (keeps h ‹_›)

theorem lineEvent (k : Kept P) {changed : Bool} {level work : State → State} (h : P s) (line : LocksFrame s (level s))
    (keeps : ∀ {t}, P t → P (work t)) : P (lineEvent changed level work s) := by
  unfold Machine.lineEvent
  split
  · exact k.event (k.frame h line) (fun h _ => keeps h)
  · exact h

theorem expiry (k : Kept P) {tm : State → Option Timer} {work : State → State} (h : P s)
    (keeps : ∀ {t}, P t → t.phase ≠ .LOADING → P (work t)) : P (expiry tm work s) := by
  refine k.event h (fun h phase => ?_)
  unfold expire
  split
  · exact h
  · unfold advanceTo
    split
    · exact keeps h phase
    · exact keeps (k.view h rfl) phase

/-- An event that the locks take no part in. -/
theorem expiryFrame (k : Kept P) {tm : State → Option Timer} {work : State → State} (h : P s)
    (keeps : ∀ t, LocksFrame t (work t)) : P (Machine.expiry tm work s) :=
  k.expiry h (fun h _ => k.frame h (keeps _))

/-! ### Requests for locks -/

theorem panelLatchRequest (k : Kept P) {o : Origin} {g : Goal} {as : List Act} (h : P s)
    (ask : Askable s.crash.latch g as) : P (panelLatchRequest o g as s) := by
  have formed := k.form (o := o) h ask
  unfold Machine.panelLatchRequest
  split
  · rename_i e
    rw [e] at formed
    exact k.frame formed (frame_cancelRelock (.refl _))
  · rename_i e
    rw [e] at formed
    exact formed

theorem rockerWork (k : Kept P) {t : LockTurn} (h : P s) : P (rockerWork t s) := by
  unfold Machine.rockerWork
  dsimp only
  split
  · split
    · exact k.wake h
    · rename_i off
      exact k.panelLatchRequest (k.wake h) (askable_latches rfl isLatch_of_mem_latches (fun e => absurd e off))
  · exact k.panelLatchRequest (k.wake h) (askable_latches rfl isLatch_of_mem_latches (fun _ => rfl))

theorem keyWork (k : Kept P) {t : LockTurn} (h : P s) : P (keyWork t s) := by
  unfold Machine.keyWork
  dsimp only
  split
  · split
    · exact k.wake h
    · rename_i off
      refine k.view (s := if _ then _ else _) ?_ rfl
      split
      · exact k.panelLatchRequest (k.wake h) (askable_latches rfl isLatch_of_mem_doorActs (fun e => absurd e off))
      · exact k.panelLatchRequest (k.wake h) (askable_latches rfl isLatch_of_mem_latches (fun e => absurd e off))
  · exact k.panelLatchRequest (k.view (k.wake h) rfl) (askable_latches rfl isLatch_of_mem_latches (fun _ => rfl))

theorem childButtonWork (k : Kept P) (h : P s) : P (childButtonWork s) := by
  unfold Machine.childButtonWork
  dsimp only
  refine k.form (k.wake h) (askable_children ?_ isLatch_of_mem_children)
  split <;> rfl

theorem strokeEndWork (k : Kept P) {job : Option Nat} {g : Group} (h : P s) : P (strokeEndWork job g s) := by
  unfold Machine.strokeEndWork
  split
  · exact k.endStroke h (List.mem_of_find?_eq_some ‹_›)
  · exact h

theorem touchWork (k : Kept P) {i : TouchInput} (h : P s) : P (touchWork i s) := by
  unfold Machine.touchWork
  dsimp only
  split
  · exact k.wake h
  · rename_i free
    split
    · split
      · exact k.frame (k.wake h) (frame_joinSearch (.refl _) ‹_›)
      · exact k.wake h
    · split
      · exact k.wake h
      · refine k.openSearch (k.wake h) (fun latched => ?_)
        cases p : touchPurpose i with
        | UNLOCK => rfl
        | LOCK => simp [touchBarred, p, latched] at free

/-! ### Entry actions (R14 to R18, R116, R140, R141) -/

theorem actedBy_form (k : Kept P) {o : Origin} {g : Goal} {as : List Act} (h : P s) (ask : Askable s.crash.latch g as) :
    P (actedBy (formJob o g as s)).state ∧ (actedBy (formJob o g as s)).state.crash = s.crash := by
  have formed := k.form (o := o) h ask
  have crash := crash_formJob o g as s
  unfold actedBy
  split <;> (rename_i e; rw [e] at formed crash; exact ⟨formed, crash⟩)

theorem cancelIfDone (k : Kept P) {x : Acted} (h : P x.state) :
    P (cancelIfDone x).state ∧ (Machine.cancelIfDone x).state.crash = x.state.crash := by
  unfold Machine.cancelIfDone
  split
  · exact ⟨k.frame h (frame_cancelRelock (.refl _)), rfl⟩
  · exact ⟨h, rfl⟩

/-- A lock action that is DONE was not barred (R14, R156). -/
theorem lockAction (k : Kept P) {i : Fin 8} {p : Port} (h : P s) :
    P (lockAction i p s).state ∧ ((Machine.lockAction i p s).result = .DONE →
      (Machine.lockAction i p s).state.crash.latch = false) := by
  have asked : ∀ g as, isChildGoal g = false → (∀ a ∈ as, isLatch a = true) → s.crash.latch = false →
      P (Machine.cancelIfDone (actedBy (formJob (portOrigin p) g as s))).state ∧
        (Machine.cancelIfDone (actedBy (formJob (portOrigin p) g as s))).state.crash.latch = false := by
    intro g as child latches off
    obtain ⟨formed, crash⟩ := k.actedBy_form (o := portOrigin p) h (askable_latches child latches (by simp [off]))
    obtain ⟨kept, same⟩ := k.cancelIfDone formed
    exact ⟨kept, by rw [same, crash, off]⟩
  unfold Machine.lockAction
  split
  · exact ⟨h, nofun⟩
  · rename_i off
    have off : s.crash.latch = false := by simpa using off
    split
    · split
      · exact ⟨h, nofun⟩
      · obtain ⟨kept, clear⟩ := asked .DEADLOCK doorActs rfl isLatch_of_mem_doorActs off
        exact ⟨kept, fun _ => clear⟩
    · split
      · exact ⟨h, nofun⟩
      · obtain ⟨kept, clear⟩ := asked .LOCK Act.latches rfl isLatch_of_mem_latches off
        exact ⟨kept, fun _ => clear⟩

theorem entryUnlock (k : Kept P) {second allowed : Bool} {x : Acted} (h : P x.state)
    (clear : allowed = true → x.state.crash.latch = false) : P (entryUnlock second allowed x).state := by
  unfold Machine.entryUnlock
  split
  · exact h
  · split
    · exact h
    · dsimp only
      split
      · exact k.startRelock h (clear ‹_›)
      · exact k.frame h (frame_cancelRelock (.refl _))

theorem latch_of_relockAllowed (h : relockAllowed s = true) : s.crash.latch = false := by
  simp only [relockAllowed, Bool.and_eq_true, Bool.not_eq_true'] at h
  exact h.2

theorem entryUnlock_form (k : Kept P) {o : Origin} {second : Bool} {as : List Act} (h : P s)
    (latches : ∀ a ∈ as, isLatch a = true) :
    P (Machine.entryUnlock second (relockAllowed s) (actedBy (formJob o .UNLOCK as s))).state := by
  obtain ⟨formed, crash⟩ := k.actedBy_form (o := o) (g := .UNLOCK) h (askable_latches rfl latches (fun _ => rfl))
  exact k.entryUnlock formed (fun e => by rw [crash]; exact latch_of_relockAllowed e)

theorem unlockAction (k : Kept P) {i : Fin 8} {p : Port} (h : P s) : P (unlockAction i p s).state := by
  refine k.entryUnlock_form h (fun a ha => ?_)
  unfold unlockActs at ha
  split at ha
  · exact isLatch_of_mem_latches a ha
  · split at ha
    · exact isLatch_of_mem_latches a (List.mem_of_mem_filter ha)
    · rw [List.mem_singleton.mp ha]
      rfl

theorem passiveUnlock (k : Kept P) {x : OpenSearch} (h : P s) : P (passiveUnlock x s).state := by
  refine k.entryUnlock_form h (fun a ha => ?_)
  split at ha
  · obtain ⟨l, -, rfl⟩ := List.mem_map.mp ha
    rfl
  · exact isLatch_of_mem_latches a ha

theorem passiveLock (k : Kept P) {x : OpenSearch} (h : P s) (opened : s.search.current = some x)
    (lock : x.purpose ≠ .UNLOCK) : P (passiveLock s).state := by
  unfold Machine.passiveLock
  split
  · exact h
  · have formed := k.passive h opened lock
    refine (k.cancelIfDone ?_).1
    unfold actedBy
    split <;> (rename_i e; rw [e] at formed; exact formed)

theorem actFor (k : Kept P) {b : Button} {i : Fin 8} {p : Port} (h : P s) :
    P (actFor b i p s).state ∧ ((b = .LOCK ∨ b = .LOCK_HELD) ∧ (Machine.actFor b i p s).result = .DONE →
      (Machine.actFor b i p s).state.crash.latch = false) := by
  have locks := k.lockAction (i := i) (p := p) h
  cases b with
  | LOCK => exact ⟨locks.1, fun e => locks.2 e.2⟩
  | LOCK_HELD => exact ⟨locks.1, fun e => locks.2 e.2⟩
  | UNLOCK => exact ⟨k.unlockAction h, by simp⟩
  | PASSIVE =>
    refine ⟨?_, by simp⟩
    unfold Machine.actFor
    dsimp only
    split
    · split
      · exact k.passiveUnlock h
      · exact k.passiveLock h ‹_› ‹_›
    · exact h

theorem accept (k : Kept P) {i : Fin 8} {c : Nat} {b : Button} {p : Port} (h : P s) : P (accept i c b p s).state := by
  have consumed : P (closeByButton b (consumeCounter i c b p s)) :=
    k.frame h (frame_closeByButton (frame_setFob (.refl s)))
  obtain ⟨acted, clear⟩ := k.actFor (b := b) (i := i) (p := p) consumed
  unfold Machine.accept
  refine k.frame (s := openByButton b _ i c p _) ?_ (frame_raise (.refl _))
  unfold openByButton
  split
  · exact k.openHold (k.view acted rfl) (clear ‹_›)
  · exact k.view acted rfl

theorem verifyPresent (k : Kept P) {identity : BitVec 32} {c : Nat} {b : Button} {p : Port} (h : P s) :
    P (verifyPresent identity c b p s).2 := by
  unfold Machine.verifyPresent
  split
  · exact h
  · dsimp only
    split
    · exact k.accept h
    · exact k.frame h (frame_declineSlot (.refl s))

theorem takePresent (k : Kept P) {p : Port} {identity : BitVec 32} {c : BitVec 24} {button tag : Byte} (h : P s) :
    P (takePresent p identity c button tag s).2 := by
  unfold Machine.takePresent
  split
  · exact h
  · split
    · exact h
    · dsimp only
      unfold passivePresent
      split
      · exact k.frame (k.verifyPresent h) (frame_closeSearch (.refl _))
      · exact h
      · exact h
  · exact k.verifyPresent h

/-! ### Crash -/

theorem indication (k : Kept P) {src : CrashSource} (h : P s) : P (indication src s) := by
  have raised : P (raise .CRASH { s with crash := { s.crash with lastSource := some src } }) := k.view h rfl
  unfold Machine.indication
  dsimp only
  split
  · exact k.first raised ‹_›
  · rename_i on
    split
    · exact raised
    · rename_i shut
      exact k.relaunch raised (by simpa using on) (by simpa using shut)

theorem takeCrashClear (k : Kept P) (h : P s) : P (takeCrashClear s).2 := by
  unfold Machine.takeCrashClear
  split
  · exact h
  · split
    · exact h
    · split
      · exact h
      · rename_i shut
        exact k.clear h (by simpa using shut)

/-! ### Commands -/

theorem takeLatchRequest (k : Kept P) {set target : Byte} (h : P s) : P (takeLatchRequest set target s).2 := by
  unfold Machine.takeLatchRequest
  split
  · rename_i as g hs hg
    split
    · exact h
    · rename_i free
      split
      · exact h
      · have formed := k.form (o := .PORT_M) (g := g) (as := as) h (askable_latches (childGoal_of_latchGoalOf hg)
          (isLatch_of_latchSetOf hs) (fun e => by
            have unlock : g = .UNLOCK := by
              by_contra other
              exact free ⟨other, e⟩
            rw [unlock]
            rfl))
        unfold latchTakenAnswer
        split
        · rename_i e
          rw [e] at formed
          exact k.frame formed (frame_cancelRelock (.refl _))
        · rename_i e
          rw [e] at formed
          exact formed
  · exact h

theorem takeChildRequest (k : Kept P) {sides action : Byte} (h : P s) : P (takeChildRequest sides action s).2 := by
  unfold Machine.takeChildRequest
  split
  · rename_i as g hs hg
    have formed := k.form (o := .PORT_M) h (askable_children (b := s.crash.latch) (childGoal_of_childGoalOf hg)
      (isLatch_of_childSetOf hs))
    unfold takenAnswer
    split <;> (rename_i e; rw [e] at formed; exact formed)
  · exact h

theorem takeStandby_frame (h : s.phase ≠ .LOADING) : LocksFrame s (takeStandby s).2 := by
  unfold takeStandby
  split
  · dsimp only
    split
    · exact frame_standby (.refl s) h
    · exact frame_takeInFlight (.refl s)
  · exact .refl s

theorem takeEnroll_frame {slot : Byte} {i : BitVec 32} {c : BitVec 24} : LocksFrame s (takeEnroll slot i c s).2 := by
  unfold takeEnroll
  split
  · exact .refl s
  · split
    · exact .refl s
    · split
      · exact .refl s
      · exact frame_takeInFlight (.refl s)

theorem takeRevoke_frame {slot : Byte} : LocksFrame s (takeRevoke slot s).2 := by
  unfold takeRevoke
  split
  · exact .refl s
  · exact frame_takeInFlight (.refl s)

theorem takeClearProfile_frame {w : Byte} : LocksFrame s (takeClearProfile w s).2 := by
  unfold takeClearProfile
  split
  · exact .refl s
  · exact frame_takeInFlight (frame_markProfile (frame_setWin (.refl s)))

theorem takeSaveProfiles_frame : LocksFrame s (takeSaveProfiles s).2 := by
  unfold takeSaveProfiles
  dsimp only
  split
  · exact .refl s
  · exact frame_takeInFlight (.refl s)

theorem takeSetParam_frame {c : Byte} {v : BitVec 16} : LocksFrame s (takeSetParam c v s).2 := by
  unfold takeSetParam
  split
  · exact .refl s
  · exact frame_changeParams (.refl s)

theorem takeReadParam_frame {c : Byte} : LocksFrame s (takeReadParam c s).2 := by
  unfold takeReadParam
  split <;> exact .refl s

theorem takeSelect_frame {p : Port} {t w i st : Byte} : LocksFrame s (takeSelect p t w i st s).2 := by
  unfold takeSelect
  dsimp only
  split
  · rename_i table _ _ _
    cases (if table = .PROFILE then winOf w else some (s.port p).cursor.window) with
    | none => exact .refl s
    | some v =>
      dsimp only
      split
      · exact frame_setPort (.refl s)
      · exact .refl s
  · exact .refl s

theorem acting (k : Kept P) {f : State → Answer × State} (h : P (f s).2) : P (acting f s).2 := k.finish h

theorem actingFrame (k : Kept P) {f : State → Answer × State} (h : P s) (frame : LocksFrame s (f s).2) :
    P (Machine.acting f s).2 := k.finish (k.frame h frame)

/-- The effect of every command (R165). -/
theorem effectOf (k : Kept P) {i : Instr} (h : P s) (phase : s.phase ≠ .LOADING) : P (effectOf i s).2 := by
  unfold Machine.effectOf
  split
  · exact h
  · exact h
  · exact k.frame h (frame_setPort (.refl s))
  · exact k.frame h (frame_setPort (.refl s))
  · exact h
  · exact k.acting (k.takeLatchRequest h)
  · exact k.acting (k.takeChildRequest h)
  · exact h
  · exact k.actingFrame h (frame_takeWindowRequest (.refl s))
  · exact k.actingFrame h takeClearProfile_frame
  · exact k.actingFrame h takeSaveProfiles_frame
  · exact k.acting (k.takePresent h)
  · exact k.frame h (frame_takeSearchNone (.refl s))
  · exact h
  · exact h
  · exact k.actingFrame h takeEnroll_frame
  · exact k.actingFrame h takeRevoke_frame
  · exact k.frame h takeSelect_frame
  · exact k.frame h (frame_setPort (.refl s))
  · exact k.actingFrame h takeSetParam_frame
  · exact k.frame h takeReadParam_frame
  · exact k.actingFrame h (frame_takeInFlight (.refl s))
  · exact k.acting (k.indication h)
  · exact k.takeCrashClear h
  · exact k.acting (k.restart h)
  · exact k.actingFrame h (takeStandby_frame phase)
  · exact h

theorem request (k : Kept P) {p : Port} {code : Byte} {i : Instr} (h : P s) (phase : s.phase ≠ .LOADING) :
    P (request p code (Machine.effectOf i) s) := by
  unfold Machine.request
  split
  · exact k.frame (k.effectOf (k.awaken h) (phase_awaken phase)) (frame_respond (.refl _))
  · exact k.frame h (frame_respond (.refl s))

theorem testTransfer (k : Kept P) {p : Port} {bytes : List Byte} {trailing : Bool} (h : P s) (phase : s.phase ≠ .LOADING) :
    P (testTransfer p bytes trailing s) := by
  unfold Machine.testTransfer
  dsimp only
  split
  · exact k.frame h (frame_respond (.refl s))
  · split
    · exact k.frame h (frame_respond (.refl s))
    · split
      · exact k.frame h (frame_respond (.refl s))
      · exact k.request h phase

theorem transferBegins (k : Kept P) {p : Port} (h : P s) : P (transferBegins p s) :=
  k.frame (k.awaken h) (frame_beginTransfer (.refl _))

theorem transferEnd (k : Kept P) {p : Port} {tested : State → State} (h : P s)
    (keeps : ∀ {t}, P t → t.phase ≠ .LOADING → P (tested t)) : P (transferEnd p tested s) := by
  have ended : ∀ t, P t → P (match (t.port p).transfer with
      | some x =>
        if (endTransfer p t).phase = .LOADING ∨ x.driven = false ∨ x.inFlight = true then endTransfer p t
        else tested (endTransfer p t)
      | none => t) := by
    intro t h
    have closed : P (endTransfer p t) := k.frame h (frame_setPort (.refl t))
    split
    · split
      · exact closed
      · rename_i running
        exact keeps closed (fun e => running (.inl e))
    · exact h
  refine ended _ ?_
  split
  · exact h
  · exact k.transferBegins h

/-! ### Every command -/

/-- The row of a command (R165). -/
theorem command (k : Kept P) {p : Port} {code : Byte} {i : Instr} {t : State} (h : P s)
    (e : commandRow p code (Machine.effectOf i) s = .next t) : P t := by
  cases e
  exact k.transferEnd h (fun h phase => k.request h phase)

theorem completion (k : Kept P) {kind : Payload → Bool} {tm : State → Option Timer} (h : P s) :
    P (Machine.expiry tm (completion kind) s) := by
  refine k.expiry h (fun {t} h phase => ?_)
  unfold Machine.completion
  split
  · rename_i x _
    have written : LocksFrame t (writeDone x t) := frame_writeDone (.refl t)
    exact k.frame h (frame_portWriteDone written (by rw [Ne, written.loading]; exact phase))
  · exact h

theorem contactChange (k : Kept P) {c : Contact} {closed changed : Bool} (h : P s) :
    P (Machine.lineEvent changed (fun x => { x with pins := setContact c closed x.pins }) (contactWork c) s) := by
  unfold Machine.lineEvent
  split
  · unfold Machine.event
    split
    · exact k.contactLoading h ‹_›
    · exact k.finish (k.contact h)
  · exact h

theorem relockExpiry (k : Kept P) (h : P s) : P (Machine.expiry (·.relock) relockWork s) := by
  refine k.event h (fun h _ => ?_)
  unfold expire
  split
  · exact h
  · rename_i timer runs
    have moved : P (advanceTo timer s) ∧ (advanceTo timer s).relock = s.relock := by
      unfold advanceTo
      split
      · exact ⟨h, rfl⟩
      · exact ⟨k.view h rfl, rfl⟩
    refine k.relock moved.1 ?_
    rw [moved.2]
    exact fun off => Option.some_ne_none timer (runs.symm.trans off)

theorem crashInChange (k : Kept P) {active : Bool} {t : State} (h : P s) (e : execCrashInChange active s = .next t) : P t := by
  cases e
  have level : P { s with pins := { s.pins with crashIn := active } } := k.view h rfl
  split
  · exact h
  · dsimp only
    split
    · exact k.frame level (frame_followLine (.refl _))
    · exact k.event level (fun h _ => k.frame h (frame_followLine (.refl _)))

/-- Every command keeps the property. -/
theorem exec (k : Kept P) {i : Instr} {t : State} (h : P s) (e : exec i s = .next t) : P t := by
  cases i with
  | powerOnReset pins => cases e; exact k.powerOn h
  | portsEnabled =>
    cases e
    split
    · exact k.enabled h
    · exact h
  | contactChange c closed => cases e; exact k.contactChange h
  | ajarChange l isOpen => cases e; exact k.lineEvent h (.ofView rfl) (fun h => k.frame h (frame_ajarWork (.refl _)))
  | sensedInvalidExpiry d => cases e; exact k.expiryFrame h (fun _ => frame_invalidWork (.refl _))
  | centralLockRocker t => cases e; exact k.event (k.view h rfl) (fun h _ => k.rockerWork h)
  | keyCylinder t => cases e; exact k.event (k.view h rfl) (fun h _ => k.keyWork h)
  | childSafetyButton => cases e; exact k.event (k.view h rfl) (fun h _ => k.childButtonWork h)
  | windowSwitchChange sw st =>
    cases e
    exact k.lineEvent h (.ofView rfl) (fun h => k.frame h (frame_switchWork (.refl _)))
  | touch ti touched =>
    cases e
    refine k.lineEvent h (.ofView rfl) (fun h => ?_)
    split
    · exact k.touchWork h
    · exact h
  | qualifiedEdge w x since =>
    cases e
    refine k.event h (fun h _ => ?_)
    split
    · exact k.frame h (frame_qualifiedEdge (.refl _))
    · exact h
  | sensorSupplyChange w inRange =>
    cases e
    refine k.lineEvent h (.ofView rfl) (fun h => ?_)
    cases inRange
    · exact k.frame h (frame_sensorLost (.refl _))
    · exact k.frame h (frame_setWin (.refl _))
  | supplySample mv => cases e; exact k.event (k.view h rfl) (fun h _ => k.frame h (frame_supplyWork (.refl _)))
  | groupOvercurrent g active =>
    cases e
    refine k.lineEvent h (by cases g <;> exact .ofView rfl) (fun h => ?_)
    split
    · exact k.cutGroup h
    · exact h
  | windowOvercurrent w active =>
    cases e
    refine k.lineEvent h (.ofView rfl) (fun h => ?_)
    split
    · exact k.frame h (frame_overcurrentWindow (.refl _))
    · exact h
  | overcurrentFaultClear w => cases e; exact k.expiryFrame h (fun _ => frame_setWin (.refl _))
  | crashInChange active => exact k.crashInChange h e
  | qualificationTimerExpiry => cases e; exact k.expiry h (fun h _ => k.indication (k.view h rfl))
  | quietTimerExpiry => cases e; exact k.expiryFrame h (fun _ => .ofView rfl)
  | transferBegin p => cases e; exact k.transferBegins h
  | transferEnd p bytes trailing => cases e; exact k.transferEnd h (fun h phase => k.testTransfer h phase)
  | nop p => exact k.command (i := .nop p) h e
  | readNotices p => exact k.command (i := .readNotices p) h e
  | clearNotices p kinds => exact k.command (i := .clearNotices p kinds) h e
  | setMask p kinds => exact k.command (i := .setMask p kinds) h e
  | readLatches p => exact k.command (i := .readLatches p) h e
  | latchRequest p set target => exact k.command (i := .latchRequest p set target) h e
  | childRequest p sides action => exact k.command (i := .childRequest p sides action) h e
  | readWindow p w page => exact k.command (i := .readWindow p w page) h e
  | windowRequest p w a x => exact k.command (i := .windowRequest p w a x) h e
  | clearProfile p w => exact k.command (i := .clearProfile p w) h e
  | saveProfiles p => exact k.command (i := .saveProfiles p) h e
  | present p identity c b tag => exact k.command (i := .present p identity c b tag) h e
  | searchNone p tag => exact k.command (i := .searchNone p tag) h e
  | readSearch p page => exact k.command (i := .readSearch p page) h e
  | readLastEntry p page => exact k.command (i := .readLastEntry p page) h e
  | enroll p slot identity c => exact k.command (i := .enroll p slot identity c) h e
  | revoke p slot => exact k.command (i := .revoke p slot) h e
  | select p table w x st => exact k.command (i := .select p table w x st) h e
  | readNext p => exact k.command (i := .readNext p) h e
  | setParam p c v => exact k.command (i := .setParam p c v) h e
  | readParam p c => exact k.command (i := .readParam p c) h e
  | commitParams p => exact k.command (i := .commitParams p) h e
  | crashNotify p => exact k.command (i := .crashNotify p) h e
  | crashClear p => exact k.command (i := .crashClear p) h e
  | restart p => exact k.command (i := .restart p) h e
  | standby p => exact k.command (i := .standby p) h e
  | strokeEnd job g => cases e; exact k.expiry h (fun h _ => k.strokeEndWork h)
  | retryWaitExpiry a => cases e; exact k.expiry h (fun h _ => k.retry h)
  | strokeCountDecay a => cases e; exact k.expiryFrame h (fun _ => frame_decayWork (.refl _))
  | relockTimerExpiry => cases e; exact k.relockExpiry h
  | brakingTimerExpiry w => cases e; exact k.expiryFrame h (fun _ => frame_brakingOver (.refl _))
  | stall w => cases e; exact k.expiryFrame h (fun _ => frame_stallWindow (.refl _))
  | heatingTimerExpiry w => cases e; exact k.expiryFrame h (fun _ => frame_heatWork (.refl _))
  | coolingTimerExpiry w => cases e; exact k.expiryFrame h (fun _ => frame_coolWork (.refl _))
  | tallyTimerExpiry w => cases e; exact k.expiryFrame h (fun _ => frame_setWin (.refl _))
  | jobTurnsBlocking job => cases e; exact k.expiryFrame h (fun _ => frame_blockingWork (.refl _))
  | candidateLifetimeExpiry slot => cases e; exact k.expiryFrame h (fun _ => frame_setFob (.refl _))
  | startTimerExpiry => cases e; exact k.expiryFrame h (fun _ => frame_startComfort (.refl _))
  | gapTimerExpiry => cases e; exact k.expiryFrame h (fun _ => frame_closeHold (.refl _))
  | searchExpiry => cases e; exact k.expiryFrame h (fun _ => frame_closeSearch (.refl _))
  | holdOffEnd l => cases e; exact k.expiryFrame h (fun _ => frame_endHoldOff (.refl _))
  | readingExpired r => cases e; exact k.expiry h (fun h _ => k.mark h)
  | commitWriteComplete => cases e; exact k.completion h
  | profileWriteComplete => cases e; exact k.completion h
  | enrollWriteComplete => cases e; exact k.completion h
  | revokeWriteComplete => cases e; exact k.completion h
  | paramWriteComplete => cases e; exact k.completion h
  | panelKeyInputRelease pi =>
    cases e
    exact k.event (k.frame h (by cases pi <;> exact .ofView rfl)) (fun h _ => k.wake h)

/-- Every step keeps the property. -/
theorem step (k : Kept P) {t : State} (h : P s) (e : step s = .next t) : P t := by
  unfold Machine.step at e
  split at e
  · rename_i rest _
    exact k.exec (k.view (t := { s with pending := rest }) h rfl) e
  · unfold idle at e
    dsimp only at e
    split at e
    · refine k.exec (k.frame h ?_) e
      unfold spendChoice
      split
      · exact .ofView rfl
      · exact .refl s
    · cases e
      unfold tick
      split
      · exact h
      · exact k.view h rfl

end Kept

end Sys2Proof.Machine

/-! ## The matrix law is kept (R26, R27, R30) -/

namespace Sys2Proof.Machine

open Sys2Proof

/-- The matrix law with PLUS or MINUS strokes only, said of a list of strokes. -/
structure Poled (q : List Stroke) : Prop where
  member : ∀ st ∈ q, ∀ m ∈ st.members, groupOf m.act = st.group
  one : ∀ st ∈ q, ∀ st' ∈ q, st.group = st'.group → st.polarity = st'.polarity
  pole : ∀ st ∈ q, st.polarity = .PLUS ∨ st.polarity = .MINUS

def PoledState (s : State) : Prop := Poled s.strokes

theorem poledState_iff {s : State} : PoledState s ↔ matrixLaw s ∧ polesLaw s :=
  ⟨fun ⟨member, one, pole⟩ => ⟨⟨member, one⟩, pole⟩, fun ⟨⟨member, one⟩, pole⟩ => ⟨member, one, pole⟩⟩

/-- Every stroke of the second list has group, polarity and members of one of the first. -/
def StrokesLe (p q : List Stroke) : Prop :=
  ∀ st ∈ q, ∃ x ∈ p, x.group = st.group ∧ x.polarity = st.polarity ∧ x.members = st.members

theorem StrokesLe.of_subset {p q : List Stroke} (h : ∀ st ∈ q, st ∈ p) : StrokesLe p q :=
  fun st hst => ⟨st, h st hst, rfl, rfl, rfl⟩

theorem Poled.le {p q : List Stroke} (h : Poled p) (k : StrokesLe p q) : Poled q where
  member st hst := by
    obtain ⟨x, hx, group, -, members⟩ := k st hst
    rw [← group, ← members]
    exact h.member x hx
  one st hst st' hst' e := by
    obtain ⟨x, hx, group, pole, -⟩ := k st hst
    obtain ⟨y, hy, group', pole', -⟩ := k st' hst'
    rw [← pole, ← pole']
    exact h.one x hx y hy (group.trans (e.trans group'.symm))
  pole st hst := by
    obtain ⟨x, hx, -, pole, -⟩ := k st hst
    exact pole ▸ h.pole x hx

section
variable {s t : State} {a : Act}

theorem PoledState.of_eq (h : PoledState s) (e : t.strokes = s.strokes) : PoledState t := by
  unfold PoledState
  rw [e]
  exact h

theorem PoledState.of_subset (h : PoledState s) (e : ∀ st ∈ t.strokes, st ∈ s.strokes) : PoledState t :=
  Poled.le h (.of_subset e)

theorem PoledState.of_nil (e : s.strokes = []) : PoledState s := by
  unfold PoledState
  rw [e]
  exact ⟨by simp, by simp, by simp⟩

/-! ### What the operations do to the list of strokes -/

theorem mergeRequest_strokes (g : Goal) (as : List Act) (s : State) : (mergeRequest g as s).state.strokes = s.strokes := by
  have waits : ∀ (as : List Act) (f : Forming), (as.foldl (meetWait g) f).state.strokes = f.state.strokes := by
    intro as
    induction as with
    | nil => exact fun _ => rfl
    | cons a as ih =>
      intro f
      rw [List.foldl_cons, ih]
      unfold meetWait
      split
      · split
        · split <;> rfl
        · exact (actFrame_abandonRetry (.refl _ _)).strokes
      · rfl
  have jobs : ∀ (as : List Act) (f : Forming), (as.foldl (meetJob g) f).state.strokes = f.state.strokes := by
    intro as
    induction as with
    | nil => exact fun _ => rfl
    | cons a as ih =>
      intro f
      rw [List.foldl_cons, ih]
      cases queued : f.state.queuedFor a with
      | some j =>
        rcases meetJob_cases g queued with ⟨x, e⟩ | e
        · rw [e]
        · rw [e]
          exact dropQueued_strokes a f.state
      | none => rw [meetJob_free g queued]
  unfold mergeRequest
  exact (jobs _ _).trans (waits as ⟨s, [], []⟩)

theorem formJob_strokes (o : Origin) (g : Goal) (as : List Act) (s : State) : (formJob o g as s).2.strokes = s.strokes := by
  have merged := mergeRequest_strokes g as s
  unfold formJob
  dsimp only
  split
  · exact merged
  · split
    · rw [(ActsFrame.foldl (key := id) (op := fun t a => keepOut a t) (fun _ _ => actFrame_keepOut (.refl _ _)) _ _).strokes]
      exact merged
    · rw [(ActsFrame.foldl (key := id) (op := fun t a => queueAct a t) (fun _ _ => actFrame_queueAct (.refl _ _)) _ _).strokes,
        enterQueue_strokes]
      exact merged

theorem actFrame_sensedChanged (h : ActFrame a s t) : ActFrame a s (sensedChanged a t) := by
  unfold sensedChanged
  dsimp only
  split
  · exact h
  · exact h
  · split
    · split
      · exact actFrame_setPosition (actFrame_setAct (actFrame_leaveSlot h))
      · exact h
    · exact h
  · exact actFrame_setPosition (actFrame_setAct h)
  · exact actFrame_setAct h

theorem contactWork_strokes (c : Contact) (s : State) : (contactWork c s).strokes = s.strokes :=
  (actFrame_sensedChanged (.refl _ _)).strokes.trans (frame_raise (frame_wake (.refl s))).strokes

theorem endStroke_strokes (st : Stroke) (s : State) : (endStroke st s).strokes = s.strokes.erase st := by
  unfold endStroke
  dsimp only
  rw [trigger_strokes, (frame_settleJob (.refl _)).strokes,
    (ActsFrame.foldl (op := verifyMember st) (fun _ _ => actFrame_verifyMember (.refl _ _)) _ _).strokes]
  rfl

theorem removeStrokes_strokes (cut : List Stroke) (s : State) :
    (cut.foldl (fun t st => removeStroke st t) s).strokes = s.strokes.diff cut := by
  induction cut generalizing s with
  | nil => rfl
  | cons st cut ih =>
    rw [List.foldl_cons, ih, List.diff_cons]
    rfl

theorem overcurrentStrokes_strokes (cut : List Stroke) (s : State) :
    (cut.foldl (fun t st => st.members.foldl (overcurrentMember st) t) s).strokes = s.strokes := by
  induction cut generalizing s with
  | nil => rfl
  | cons st cut ih =>
    rw [List.foldl_cons, ih]
    exact (ActsFrame.foldl (op := overcurrentMember st) (fun _ _ => actFrame_overcurrentMember (.refl _ _)) st.members s).strokes

/-- An overcurrent cuts the strokes of its group and no others (R34). -/
theorem cutGroup_strokes (g : Group) (s : State) : (cutGroup g s).strokes = s.strokes.filter (fun st => st.group ≠ g) := by
  unfold cutGroup
  dsimp only
  split
  · rename_i none
    refine (List.filter_eq_self.mpr (fun st hst => ?_)).symm
    simpa using List.filter_eq_nil_iff.mp (List.isEmpty_iff.mp none) st hst
  · have settled : ∀ (cut : List Stroke) (u : State), (cut.foldl (fun t st => settleJob st.job t) u).strokes = u.strokes :=
      fun cut u => (frame_foldl (f := fun t (st : Stroke) => settleJob st.job t) (fun _ => frame_settleJob) cut (.refl u)).strokes
    rw [trigger_strokes, settled, overcurrentStrokes_strokes, removeStrokes_strokes, diff_filter]
    exact List.filter_congr (fun st _ => by simp)

theorem checkOverload_strokes (g : Group) (s : State) : ∀ st ∈ (checkOverload g s).strokes, st ∈ s.strokes := by
  unfold checkOverload
  split
  · rw [cutGroup_strokes]
    exact fun st hst => List.mem_of_mem_filter hst
  · exact fun _ => id

theorem retryWork_strokes (a : Act) (s : State) : (retryWork a s).strokes = s.strokes := by
  unfold retryWork
  split
  · rfl
  · split
    · unfold toPending
      split
      · exact resumeAs_strokes ..
      · exact resumeAs_strokes ..
    · split
      · exact (actFrame_finalFailure (.refl _ s)).strokes
      · rw [enterQueue_strokes, resumeAs_strokes]

theorem launchCrash_strokes (s : State) : (launchCrash s).strokes = s.strokes := by
  have folded : (crashSet s).foldl pendLatch s = ((crashSet s).map .latch).foldl Machine.pendAct s := by
    rw [List.foldl_map]
    rfl
  unfold launchCrash
  dsimp only
  rw [trigger_strokes]
  show ((crashSet s).foldl pendLatch s).strokes = _
  rw [folded, (ActsFrame.foldl (key := id) actFrame_pendAct _ s).strokes]

theorem relaunch_strokes (s : State) : (relaunch s).strokes = s.strokes := by
  unfold relaunch
  rw [launchCrash_strokes, (frame_crashWindows (.refl _)).strokes, (endLatchWaits_frame s).strokes]

theorem crashCut_strokes (s : State) : (crashCut s).strokes = s.strokes.filter (fun st => st.polarity ≠ .PLUS) := by
  have cuts : ∀ (cut : List Stroke) (s : State), (cut.foldl crashCutStroke s).strokes = s.strokes.diff cut := by
    intro cut
    induction cut with
    | nil => exact fun _ => rfl
    | cons st cut ih =>
      intro s
      rw [List.foldl_cons, ih, crashCutStroke_strokes, List.diff_cons]
  unfold crashCut
  rw [cuts, diff_filter]
  exact List.filter_congr (fun st _ => by simp)

theorem firstIndication_strokes (s : State) : (firstIndication s).strokes = s.strokes.filter (fun st => st.polarity ≠ .PLUS) := by
  unfold firstIndication
  dsimp only
  rw [launchCrash_strokes, (frame_closeSearch (frame_closeHold (frame_cancelRelock (frame_crashWindows (.refl _))))).strokes,
    (removeLockJobs_keep _).2.1, (endLatchWaits_frame _).strokes, crashCut_strokes]

theorem takeRestart_strokes (s : State) : (takeRestart s).2.strokes = [] := by
  rw [(takeRestart_frame s).strokes]
  have windows : LocksFrame (Act.all.foldl restartAct { restartDrives s with queue := [], nearFull := false }) (restarted s) :=
    frame_foldl (f := restartWindow) (fun _ => frame_restartWindow) _ (.refl _)
  rw [windows.strokes, (restartActs_frame _ _).strokes]
  exact (restartDrives_keep s).1

/-! ### Strokes that start -/

/-- Where R30 holds for a group that gets a stroke, its running strokes have the polarity of the target. -/
theorem PoledState.polarity_of_free (h : PoledState s) {grp : Group} {g : Goal} {as : List Act}
    (free : polarityFree grp g as s = true) (some : ofGroup grp as ≠ []) :
    ∀ x ∈ s.strokes, x.group = grp → x.polarity = goalPolarity g := by
  intro x hx group
  have found : s.polarity grp = x.polarity := by
    unfold State.polarity
    split
    · rename_i st e
      have same := List.find?_some e
      simp only [decide_eq_true_eq] at same
      exact h.one st (List.mem_of_find?_eq_some e) x hx (same.trans group.symm)
    · rename_i e
      exact absurd group (by simpa using List.find?_eq_none.mp e x hx)
  simp only [polarityFree, Bool.or_eq_true, List.isEmpty_iff, decide_eq_true_eq, found] at free
  rcases free with (nil | off) | same
  · exact absurd nil some
  · rcases h.pole x hx with e | e <;> rw [e] at off <;> cases off
  · exact same

theorem PoledState.startStroke (h : PoledState s) {job : Option Nat} {grp : Group} {g : Goal} {n : Nat} {as : List Act}
    (group : ∀ a ∈ as, groupOf a = grp) (free : as ≠ [] → ∀ x ∈ s.strokes, x.group = grp → x.polarity = goalPolarity g) :
    PoledState (startStroke job grp g n as s) := by
  rcases eq_or_ne as [] with rfl | some
  · exact h
  unfold PoledState
  rw [startStroke_strokes s some]
  have cases : ∀ st ∈ s.strokes ++ [strokeRecord job grp g n as s], st ∈ s.strokes ∨ st = strokeRecord job grp g n as s :=
    fun st hst => (List.mem_append.mp hst).imp_right List.mem_singleton.mp
  refine ⟨fun st hst m hm => ?_, fun st hst st' hst' e => ?_, fun st hst => ?_⟩
  · rcases cases st hst with k | rfl
    · exact h.member st k m hm
    · obtain ⟨a, ha, rfl⟩ := List.mem_map.mp hm
      exact group a ha
  · rcases cases st hst with k | rfl <;> rcases cases st' hst' with k' | rfl
    · exact h.one st k st' k' e
    · exact free some st k e
    · exact (free some st' k' e.symm).symm
    · rfl
  · rcases cases st hst with k | rfl
    · exact h.pole st k
    · show goalPolarity g = _ ∨ goalPolarity g = _
      cases g <;> simp [goalPolarity]

theorem PoledState.checkOverload (h : PoledState s) (g : Group) : PoledState (checkOverload g s) :=
  h.of_subset (checkOverload_strokes g s)

theorem groupOf_ofGroup {grp : Group} {as : List Act} : ∀ a ∈ ofGroup grp as, groupOf a = grp :=
  fun _ ha => (mem_ofGroup.mp ha).2

theorem PoledState.admitLock (h : PoledState s) {j : Job} {g : Goal} {as rem : List Act}
    (door : polarityFree .DOOR g rem s = true) (tail : polarityFree .TAIL g rem s = true) :
    PoledState (admitLock j g as rem s) := by
  have base : (admitBase j as rem s).strokes = s.strokes :=
    (admitBase_frame j as rem s).strokes.trans (takeFromQueue_strokes j.id s)
  rw [admitLock_eq]
  split
  · exact h.of_eq base
  · have admitted : PoledState (withAdmitted j rem (Machine.admitBase j as rem s)) := h.of_eq base
    have doors := admitted.startStroke (job := some j.id) (grp := .DOOR) (g := g) (n := 2) (as := ofGroup .DOOR rem)
      groupOf_ofGroup (fun some x hx => h.polarity_of_free door some x (base ▸ hx))
    refine ((doors.startStroke groupOf_ofGroup (fun some x hx group => ?_)).checkOverload .DOOR).checkOverload .TAIL
    refine h.polarity_of_free tail some x ?_ group
    rcases eq_or_ne (ofGroup .DOOR rem) [] with nil | some
    · rw [nil, startStroke_nil] at hx
      exact base ▸ hx
    · rw [startStroke_strokes _ some] at hx
      rcases List.mem_append.mp hx with k | k
      · exact base ▸ k
      · obtain rfl := List.mem_singleton.mp k
        cases group

theorem PoledState.scanQueue (h : PoledState s) : PoledState (scanQueue s) := by
  refine scanQueue_keeps (P := PoledState) ?_ (fun h f => h.of_eq f.strokes) h
  intro j g as s h _ _ free
  simp only [matrixFree, Bool.and_eq_true] at free
  obtain ⟨⟨⟨door, tail⟩, -⟩, -⟩ := free
  exact h.admitLock door tail

theorem PoledState.serveGroup (h : PoledState s) (grp : Group) : PoledState (serveGroup grp s) := by
  unfold Machine.serveGroup
  dsimp only
  split
  · exact h
  · rename_i free
    simp only [Bool.or_eq_true, not_or, Bool.not_eq_true, Bool.not_eq_false'] at free
    obtain ⟨⟨-, polarity⟩, -⟩ := free
    have group : ∀ a ∈ (s.slot.pending.filter (fun l => groupOf (.latch l) = grp)).map Act.latch, groupOf a = grp := by
      intro a ha
      obtain ⟨l, hl, rfl⟩ := List.mem_map.mp ha
      simpa using (List.mem_filter.mp hl).2
    have started := h.startStroke (job := none) (g := .UNLOCK) (n := 3) group (fun some => by
      refine h.polarity_of_free polarity ?_
      rwa [ofGroup, List.filter_eq_self.mpr (fun a ha => by simpa using group a ha)])
    refine PoledState.checkOverload ?_ grp
    exact started.of_eq rfl

theorem PoledState.serveSlot (h : PoledState s) : PoledState (serveSlot s) := by
  have dropped : ∀ (ls : List Latch) (s : State), PoledState s → PoledState (ls.foldl (fun t l => dropPending l t) s) := by
    intro ls
    induction ls with
    | nil => exact fun _ h => h
    | cons l ls ih =>
      intro s h
      refine ih _ (h.of_eq ?_)
      show (dropPending l s).strokes = _
      unfold dropPending
      split
      · simp [dropAct_eq]
      · rfl
  exact ((dropped _ s h).serveGroup .DOOR).serveGroup .TAIL

theorem PoledState.settle (h : PoledState s) : PoledState (settle s) :=
  settle_keeps (P := PoledState) (fun h _ => h.scanQueue) (fun h _ => h.serveSlot) (fun h _ => h.of_eq rfl)
    (fun h f => h.of_eq f.strokes) h

theorem PoledState.markRef (h : PoledState s) {r : ReadingRef} : PoledState (markRef r s) := by
  unfold Machine.markRef
  split
  · rename_i id
    have marked : ∀ (as : List Act) (s : State), (as.foldl (markWait id) s).strokes = s.strokes := by
      intro as
      induction as with
      | nil => exact fun _ => rfl
      | cons a as ih =>
        intro s
        rw [List.foldl_cons, ih]
        simp [markWait]
    exact h.of_eq (marked _ _)
  · refine Poled.le h (fun st hst => ?_)
    obtain ⟨x, hx, rfl⟩ := List.mem_map.mp hst
    refine ⟨x, hx, ?_⟩
    split <;> exact ⟨rfl, rfl, rfl⟩
  all_goals exact h.of_eq rfl

/-- The matrix law is kept by everything a step does. -/
theorem poledState_kept : Kept PoledState where
  frame h f := h.of_eq f.strokes
  form h _ := h.of_eq (formJob_strokes ..)
  relock h _ := h.of_eq (formJob_strokes ..)
  passive h _ _ := h.of_eq (formJob_strokes ..)
  startRelock h _ := h.of_eq rfl
  openHold h _ := h.of_eq rfl
  openSearch h _ := h.of_eq rfl
  contact h := h.of_eq (contactWork_strokes ..)
  contactLoading h _ := h.of_eq rfl
  endStroke h _ := h.of_subset (fun _ hst => List.mem_of_mem_erase (endStroke_strokes _ _ ▸ hst))
  cutGroup h := h.of_subset (fun _ hst => List.mem_of_mem_filter (cutGroup_strokes _ _ ▸ hst))
  retry h := h.of_eq (retryWork_strokes ..)
  settle h := h.settle
  first h _ := h.of_subset (fun _ hst => List.mem_of_mem_filter (firstIndication_strokes _ ▸ hst))
  relaunch h _ _ := h.of_eq (relaunch_strokes _)
  clear h _ := h.of_eq rfl
  restart _ := .of_nil (takeRestart_strokes _)
  mark h := h.markRef
  powerOn _ := .of_nil rfl
  enabled _ := .of_nil rfl

end

end Sys2Proof.Machine

/-! ## The law of the locks is kept (R4, R156) -/

namespace Sys2Proof.Machine

open Sys2Proof

/-- What `locksLaw` says beyond the matrix law. -/
structure LocksState (s : State) : Prop where
  locks : Locks s.crash.latch [] s
  side : SideLaw s

/-- An operation that leaves crash, relock timer, hold and search alone or ends them, and opens no slot. -/
structure SideFrame (s t : State) : Prop where
  latch : t.crash.latch = s.crash.latch
  slot : t.slot.isOpen = true → s.slot.isOpen = true
  relock : t.relock = none ∨ t.relock = s.relock
  hold : t.hold.isOpen = true → s.hold.isOpen = true
  search : ∀ x, t.search.current = some x → ∃ y, s.search.current = some y ∧ y.purpose = x.purpose

section
variable {s t u : State} {a : Act}

theorem SideFrame.trans (h : SideFrame s t) (k : SideFrame t u) : SideFrame s u where
  latch := k.latch.trans h.latch
  slot o := h.slot (k.slot o)
  relock := k.relock.elim .inl (fun e => e ▸ h.relock)
  hold o := h.hold (k.hold o)
  search x e := by
    obtain ⟨y, ey, hy⟩ := k.search x e
    obtain ⟨z, ez, hz⟩ := h.search y ey
    exact ⟨z, ez, hz.trans hy⟩

theorem LocksFrame.side (f : LocksFrame s t) : SideFrame s t :=
  ⟨f.latch, f.slot ▸ id, f.relock, f.hold, f.search⟩

theorem SideFrame.ofOutside (h : outside t = outside s) (slot : t.slot.isOpen = true → s.slot.isOpen = true) : SideFrame s t :=
  ⟨by rw [outside_crash h], slot, .inr (outside_relock h), by rw [outside_hold h]; exact id,
    fun x hx => ⟨x, outside_search h ▸ hx, rfl⟩⟩

theorem ActsFrame.side {A : List Act} (f : ActsFrame A s t) : SideFrame s t := .ofOutside f.outside (f.isOpen ▸ id)

theorem SideLaw.frame (h : SideLaw s) (f : SideFrame s t) : SideLaw t where
  slot e := by
    by_contra k
    exact absurd (h.slot (f.latch ▸ e)) (by simp [f.slot (by simpa using k)])
  relock e := f.relock.elim id (fun k => k.trans (h.relock (f.latch ▸ e)))
  hold e := by
    by_contra k
    exact absurd (h.hold (f.latch ▸ e)) (by simp [f.hold (by simpa using k)])
  search e x hx := by
    obtain ⟨y, ey, hy⟩ := f.search x hx
    exact hy ▸ h.search (f.latch ▸ e) y ey

theorem LocksState.next (h : LocksState s) (locks : Locks s.crash.latch [] t) (f : SideFrame s t) : LocksState t :=
  ⟨f.latch.symm ▸ locks, h.side.frame f⟩

theorem LocksState.frame (h : LocksState s) (f : LocksFrame s t) : LocksState t := h.next (h.locks.frame f) f.side

/-! ### The open flag of the slot -/

theorem isOpen_mergeRequest (g : Goal) (as : List Act) (s : State) :
    (mergeRequest g as s).state.slot.isOpen = s.slot.isOpen := by
  have waits : ∀ (as : List Act) (f : Forming), (as.foldl (meetWait g) f).state.slot.isOpen = f.state.slot.isOpen := by
    intro as
    induction as with
    | nil => exact fun _ => rfl
    | cons a as ih =>
      intro f
      rw [List.foldl_cons, ih]
      unfold meetWait
      split
      · split
        · split <;> rfl
        · exact (actFrame_abandonRetry (.refl _ _)).isOpen
      · rfl
  have jobs : ∀ (as : List Act) (f : Forming), (as.foldl (meetJob g) f).state.slot.isOpen = f.state.slot.isOpen := by
    intro as
    induction as with
    | nil => exact fun _ => rfl
    | cons a as ih =>
      intro f
      rw [List.foldl_cons, ih]
      cases queued : f.state.queuedFor a with
      | some j =>
        rcases meetJob_cases g queued with ⟨x, e⟩ | e
        · rw [e]
        · rw [e]
          exact congrArg CrashSlot.isOpen (dropQueued_slot a f.state)
      | none => rw [meetJob_free g queued]
  unfold mergeRequest
  exact (jobs _ _).trans (waits as ⟨s, [], []⟩)

theorem isOpen_formJob (o : Origin) (g : Goal) (as : List Act) (s : State) :
    (formJob o g as s).2.slot.isOpen = s.slot.isOpen := by
  have merged := isOpen_mergeRequest g as s
  unfold formJob
  dsimp only
  split
  · exact merged
  · split
    · rw [(ActsFrame.foldl (key := id) (op := fun t a => keepOut a t) (fun _ _ => actFrame_keepOut (.refl _ _)) _ _).isOpen]
      exact merged
    · rw [(ActsFrame.foldl (key := id) (op := fun t a => queueAct a t) (fun _ _ => actFrame_queueAct (.refl _ _)) _ _).isOpen,
        enterQueue_slot]
      exact merged

theorem side_formJob (o : Origin) (g : Goal) (as : List Act) (s : State) : SideFrame s (formJob o g as s).2 :=
  .ofOutside (outside_formJob ..) (isOpen_formJob o g as s ▸ id)

theorem isOpen_endStroke (st : Stroke) (s : State) : (endStroke st s).slot.isOpen = s.slot.isOpen := by
  unfold endStroke
  dsimp only
  rw [trigger_slot, (frame_settleJob (.refl _)).slot,
    (ActsFrame.foldl (op := verifyMember st) (fun _ _ => actFrame_verifyMember (.refl _ _)) _ _).isOpen]
  rfl

theorem side_retryWork (a : Act) (s : State) : SideFrame s (retryWork a s) := by
  have resumed : SideFrame s (resumeAs a .QUEUED s) := (actFrame_resumeAs (.refl _ s)).side
  unfold retryWork
  split
  · exact (LocksFrame.refl s).side
  · split
    · refine resumed.trans ?_
      unfold toPending
      split
      · exact .ofOutside rfl id
      · exact (LocksFrame.refl _).side
    · split
      · exact (actFrame_finalFailure (.refl _ s)).side
      · exact resumed.trans (.ofOutside (by simp) (by rw [enterQueue_slot]; exact id))

theorem side_contactWork (c : Contact) (s : State) : SideFrame s (contactWork c s) :=
  (frame_raise (frame_wake (.refl s))).side.trans (actFrame_sensedChanged (.refl _ _)).side

theorem side_settle (s : State) : SideFrame s (settle s) := by
  refine .ofOutside (outside_settle s) ?_
  refine settle_keeps (P := fun t => t.slot.isOpen = true → s.slot.isOpen = true) ?_ ?_ ?_ ?_ id
  · intro t h _
    refine scanQueue_keeps (P := fun t => t.slot.isOpen = true → s.slot.isOpen = true) ?_ ?_ h
    · intro j g as u h _ _ _
      rw [isOpen_admitLock]
      exact h
    · exact fun h f => f.slot ▸ h
  · exact fun h o _ => h o
  · intro t _ _ o
    cases o
  · exact fun h f => f.slot ▸ h

/-! ### Contacts while the store loads -/

/-- While the store loads nothing follows its contacts (R181). -/
theorem Locks.contactLoading {b : Bool} {c : Contact} {closed : Bool} (h : Locks b [] s) (loading : s.phase = .LOADING) :
    Locks b [] { s with pins := Machine.setContact c closed s.pins } :=
  { h with
    acts := fun a ha => by
      have old := h.acts a ha
      exact
        { stroking := old.stroking
          waiting := old.waiting
          sensed := fun running => absurd loading running
          wait := old.wait
          pending := old.pending } }

/-! ### Indications -/

theorem launchCrash_frame (s : State) : outside (launchCrash s) = outside s := by
  have folded : (crashSet s).foldl pendLatch s = ((crashSet s).map .latch).foldl Machine.pendAct s := by
    rw [List.foldl_map]
    rfl
  have pended := (ActsFrame.foldl (key := id) actFrame_pendAct ((crashSet s).map .latch) s).outside
  rw [← folded] at pended
  exact pended

theorem closeQuietly_current (o : SearchOutcome) (x : Option SearchAnswer) (s : State) :
    (closeQuietly o x s).search.current = none := by
  unfold closeQuietly
  split
  · assumption
  · dsimp only
    split
    · exact holdOffs_current ..
    · rfl

theorem closeSearch_current (o : SearchOutcome) (x : Option SearchAnswer) (s : State) :
    (closeSearch o x s).search.current = none := by
  unfold closeSearch
  split
  · exact closeQuietly_current o x s
  · rename_i none
    simpa using none

theorem closeHold_shut (s : State) : (closeHold s).hold.isOpen = false := by
  unfold closeHold
  split
  · dsimp only
    split
    · by_contra k
      have f : LocksFrame { s with hold := { s.hold with isOpen := false, startT := none, gapT := none } }
          (Win.all.foldl stopComfort { s with hold := { s.hold with isOpen := false, startT := none, gapT := none } }) :=
        frame_foldl (f := stopComfort) (fun _ => frame_stopComfort) Win.all (.refl _)
      exact absurd (f.hold (by simpa using k)) (by simp)
    · rfl
  · rename_i shut
    simpa using shut

/-- After an indication nothing of what the crash bars stands (R156). -/
theorem side_launch (u : State) (on : u.crash.latch = true) :
    SideLaw (launchCrash (closeSearch .CANCELLED none (closeHold (cancelRelock u)))) ∧
      (launchCrash (closeSearch .CANCELLED none (closeHold (cancelRelock u)))).crash.latch = true := by
  have hold : LocksFrame (cancelRelock u) (closeHold (cancelRelock u)) := frame_closeHold (.refl _)
  have search : LocksFrame (closeHold (cancelRelock u)) (closeSearch .CANCELLED none (closeHold (cancelRelock u))) :=
    frame_closeSearch (.refl _)
  have launch := launchCrash_frame (closeSearch .CANCELLED none (closeHold (cancelRelock u)))
  have latch : (launchCrash (closeSearch .CANCELLED none (closeHold (cancelRelock u)))).crash.latch = true := by
    rw [outside_crash launch, search.latch, hold.latch]
    exact on
  refine ⟨⟨fun e => ?_, fun _ => ?_, fun _ => ?_, fun _ x hx => ?_⟩, latch⟩
  · rw [latch] at e
    cases e
  · rw [outside_relock launch]
    exact search.relock.elim (fun e => e) (fun e => e.trans (hold.relock.elim (fun k => k) (fun k => k)))
  · rw [outside_hold launch]
    by_contra k
    exact absurd (search.hold (by simpa using k)) (by simp [closeHold_shut])
  · rw [outside_search launch, closeSearch_current] at hx
    cases hx

/-- The state at a first indication before the relock timer, the hold and the search are ended (R152, R153). -/
def firstBase (s : State) : State :=
  crashWindows (removeLockJobs (endLatchWaits (crashCut { s with crash := { s.crash with latch := true } })))

theorem firstIndication_eq (s : State) :
    firstIndication s = launchCrash (closeSearch .CANCELLED none (closeHold (cancelRelock (firstBase s)))) := rfl

theorem side_firstIndication (s : State) : SideLaw (firstIndication s) ∧ (firstIndication s).crash.latch = true := by
  rw [firstIndication_eq]
  refine side_launch (firstBase s) ?_
  unfold firstBase
  rw [(frame_crashWindows (.refl _)).latch, outside_crash (removeLockJobs_keep _).2.2.2.1,
    outside_crash (endLatchWaits_frame _).outside, outside_crash (outside_crashCut _)]

theorem relaunch_outside (s : State) : outside (relaunch s) = outside s := by
  unfold relaunch
  have windows : outside (crashWindows (endLatchWaits s)) = outside (endLatchWaits s) := by simp [crashWindows]
  exact (launchCrash_frame _).trans (windows.trans (endLatchWaits_frame s).outside)

theorem restartDrives_latch (s : State) : (restartDrives s).crash.latch = s.crash.latch := by
  have strokes : ∀ (cut : List Stroke) (u : State), outside (cut.foldl restartStroke u) = outside u := by
    intro cut u
    refine outside_foldl _ (fun u st => ?_) cut u
    unfold restartStroke
    rw [outside_settleJob, (ActsFrame.foldl (op := restartMember) (fun _ _ => actFrame_releaseAct (.refl _ _)) _ _).outside]
    rfl
  have f : LocksFrame (s.strokes.foldl restartStroke { s with slot := CrashSlot.closed }) (restartDrives s) :=
    frame_haltAllWindows (frame_trigger (.refl _))
  rw [f.latch, outside_crash (strokes s.strokes _)]

theorem takeRestart_latch (s : State) : (takeRestart s).2.crash.latch = s.crash.latch := by
  have windows : LocksFrame (Act.all.foldl restartAct { restartDrives s with queue := [], nearFull := false }) (restarted s) :=
    frame_foldl (f := restartWindow) (fun _ => frame_restartWindow) _ (.refl _)
  rw [(takeRestart_frame s).latch, windows.latch, outside_crash (restartActs_frame _ _).outside]
  exact restartDrives_latch s

/-- The reset of the search, the hold and the timers by RESTART (R182). -/
def restartReset (v : State) : State :=
  { v with hold := Hold.closed, relock := none, keyLock := none, entry := none, spent := ⟨⟨false, false, false, false⟩, false, false, false⟩ }

/-- After RESTART no search, hold, relock timer or crash job stands (R182). -/
theorem side_restartReset (v : State) (closed : v.search.current = none) (slot : v.slot.isOpen = false) :
    SideLaw (restartNotices (restartParams (restartReset v))) := by
  have base : SideLaw (restartReset v) :=
    ⟨fun _ => slot, fun _ => rfl, fun _ => rfl, fun _ x hx => absurd (closed.symm.trans hx) nofun⟩
  exact base.frame (frame_restartNotices (frame_restartParams (.refl _))).side

theorem takeRestart_eq (s : State) :
    (takeRestart s).2 = restartNotices (restartParams (restartReset (closeQuietly .CANCELLED none (restarted s)))) := by
  unfold takeRestart restartRecords restarted restartReset
  with_reducible rfl

theorem side_takeRestart (s : State) : SideLaw (takeRestart s).2 := by
  rw [takeRestart_eq]
  refine side_restartReset _ (closeQuietly_current ..) ?_
  have windows : LocksFrame (Act.all.foldl restartAct { restartDrives s with queue := [], nearFull := false }) (restarted s) :=
    frame_foldl (f := restartWindow) (fun _ => frame_restartWindow) _ (.refl _)
  rw [(frame_closeQuietly (.refl _)).slot, windows.slot, (restartActs_keep _ _).1]
  exact congrArg CrashSlot.isOpen (restartDrives_keep s).2

theorem side_markRef (r : ReadingRef) (s : State) : SideFrame s (markRef r s) := by
  unfold markRef
  split
  · rename_i id
    have marked : outside (Act.all.foldl (markWait id)
        { s with queue := s.queue.map (markJob id), admitted := s.admitted.map (markJob id) }) = outside s :=
      outside_foldl _ (fun u a => outside_setAct a _ u) Act.all _
    have slots : ∀ (as : List Act) (u : State), (as.foldl (markWait id) u).slot = u.slot := by
      intro as
      induction as with
      | nil => exact fun _ => rfl
      | cons a as ih =>
        intro u
        rw [List.foldl_cons, ih]
        simp [markWait]
    exact .ofOutside marked (by rw [slots]; exact fun h => h)
  · exact .ofOutside rfl id
  · refine ⟨rfl, id, .inr rfl, id, fun x hx => ?_⟩
    obtain ⟨y, hy, rfl⟩ := Option.map_eq_some_iff.mp hx
    exact ⟨y, hy, rfl⟩
  all_goals exact LocksFrame.side (s := s) (.ofView rfl)

/-- The law of the locks is kept by everything a step does. -/
theorem locksState_kept : Kept LocksState where
  frame h f := h.frame f
  form h ask := h.next (h.locks.formJob ask) (side_formJob ..)
  relock {s} h on := by
    have clear : s.crash.latch = false := by
      by_contra k
      exact on (h.side.relock (by simpa using k))
    have off : LocksState { s with relock := none } := h.frame (frame_relockOff (.refl s))
    exact off.next (off.locks.formJob (askable_latches rfl isLatch_of_mem_latches (fun e => by simp [clear] at e)))
      (side_formJob ..)
  passive {s x} h opened lock := by
    have clear : s.crash.latch = false := by
      by_contra k
      exact lock (h.side.search (by simpa using k) x opened)
    exact h.next (h.locks.formJob (askable_latches rfl isLatch_of_mem_latches (fun e => by simp [clear] at e)))
      (side_formJob ..)
  startRelock {s} h clear :=
    ⟨h.locks.besides s.crash _ s.hold s.search, { h.side with relock := fun e => absurd (e.symm.trans clear) nofun }⟩
  openHold {i c p s} h clear :=
    ⟨h.locks.besides s.crash s.relock _ s.search, { h.side with hold := fun e => absurd (e.symm.trans clear) nofun }⟩
  openSearch {p l s} h free := by
    have opened : LocksState { s with search := { s.search with
        current := some ⟨s.search.nextTag, p, [l], s.reading⟩
        nextTag := succTag s.search.nextTag } } :=
      ⟨h.locks.besides s.crash s.relock s.hold _, { h.side with
        search := fun e x hx => by
          cases hx
          exact free e }⟩
    exact opened.frame (frame_raise (.refl _))
  contact {c closed s} h := by
    have level : SideFrame s { s with pins := setContact c closed s.pins } :=
      ⟨rfl, id, .inr rfl, id, fun x hx => ⟨x, hx, rfl⟩⟩
    exact h.next h.locks.contactWork (level.trans (side_contactWork c _))
  contactLoading h loading :=
    h.next (h.locks.contactLoading loading) ⟨rfl, id, .inr rfl, id, fun x hx => ⟨x, hx, rfl⟩⟩
  endStroke {st s} h hst := h.next (h.locks.endStroke hst) (.ofOutside (outside_endStroke st s) (isOpen_endStroke st s ▸ id))
  cutGroup {g s} h := h.next (h.locks.cutGroup g) (.ofOutside (outside_cutGroup g s) (isOpen_cutGroup g s ▸ id))
  retry {a s} h := h.next h.locks.retryWork (side_retryWork a s)
  settle {s} h := h.next h.locks.settle (side_settle s)
  first {s} h clear := by
    obtain ⟨side, latch⟩ := side_firstIndication s
    refine ⟨latch.symm ▸ ?_, side⟩
    exact Locks.firstIndication (clear ▸ h.locks) (h.side.slot clear)
  relaunch {s} h on shut := by
    have out := relaunch_outside s
    have latch : (relaunch s).crash.latch = true := by rw [outside_crash out, on]
    refine ⟨latch.symm ▸ Locks.relaunch (on ▸ h.locks) shut, fun e => ?_, fun _ => ?_, fun _ => ?_, fun _ => ?_⟩
    · rw [latch] at e
      cases e
    · rw [outside_relock out, h.side.relock on]
    · rw [outside_hold out, h.side.hold on]
    · rw [outside_search out]
      exact h.side.search on
  clear {s} h shut := by
    have locks : Locks false [] s :=
      { h.locks with
        barredQueue := nofun
        barredStrokes := nofun
        acts := fun a ha => by
          have old := h.locks.acts a ha
          exact
            { old with
              wait := fun x hx => by
                obtain ⟨free, job, crash⟩ := old.wait x hx
                exact ⟨free, fun j hj => ⟨(job j hj).1, (job j hj).2.1, nofun⟩, crash⟩ } }
    exact ⟨locks.besides _ s.relock s.hold s.search, fun _ => shut, nofun, nofun, nofun⟩
  restart {s} h := ⟨(takeRestart_latch s).symm ▸ h.locks.takeRestart, side_takeRestart s⟩
  mark {r s} h := h.next h.locks.markRef (side_markRef r s)
  powerOn {ph pins s} _ := ⟨.powerOn ph pins s, fun _ => rfl, fun _ => rfl, fun _ => rfl, nofun⟩
  enabled {s} _ :=
    ⟨(Locks.powerOn (b := s.crash.latch) .ACTIVE s.pins s).besides _ none Hold.closed SearchUnit.fresh, fun _ => rfl,
      fun _ => rfl, fun _ => rfl, nofun⟩

/-- Settles O21: both laws are kept by each operation on locks, strokes and the crash slot, and by no other operation
touched. -/
theorem matrixLawKeptByEveryStep : Obligations.MatrixLawKeptByEveryStep := by
  intro s t e
  have matrix : matrixLaw s → polesLaw s → matrixLaw t ∧ polesLaw t := fun m p =>
    poledState_iff.mp (poledState_kept.step (poledState_iff.mpr ⟨m, p⟩) e)
  refine ⟨matrix, fun h => ?_⟩
  obtain ⟨m, locks, side⟩ := locksLaw_iff.mp h
  have kept := locksState_kept.step ⟨locks, side⟩ e
  refine locksLaw_iff.mpr ⟨(matrix m ?_).1, kept.locks, kept.side⟩
  intro st hst
  obtain ⟨g, pole, -⟩ := locks.consistent st hst
  rw [pole]
  cases g <;> simp [goalPolarity]

end

end Sys2Proof.Machine

/-! ## Events of the lock table -/

namespace Sys2Proof.Machine

open Sys2Proof

section
variable {s t : State} {v : PerLatch Position}

/-! ### The vehicle lock status (R7) -/

theorem all_latches {p : Latch → Prop} [DecidablePred p] : Latch.all.all (fun l => decide (p l)) = true ↔ ∀ l, p l := by
  have mem : ∀ l, l ∈ Latch.all := fun l => by cases l <;> decide
  simp only [List.all_eq_true, decide_eq_true_eq]
  exact ⟨fun h l => h l (mem l), fun h l _ => h l⟩

/-- Four doors DEADLOCKED and TG LOCKED (R7). -/
def doubleLocked (v : PerLatch Position) : Prop :=
  v.fl = .DEADLOCKED ∧ v.fr = .DEADLOCKED ∧ v.rl = .DEADLOCKED ∧ v.rr = .DEADLOCKED ∧ v.tg = .LOCKED

theorem doubleLocked_iff : (Latch.doors.all (fun l => v.get l = .DEADLOCKED) = true ∧ v.tg = .LOCKED) ↔ doubleLocked v := by
  simp only [Latch.doors, List.all_cons, List.all_nil, Bool.and_true, Bool.and_eq_true, decide_eq_true_eq, and_assoc]
  rfl

/-- The rows of R7, one for each status. -/
theorem lockStatus_rows (v : PerLatch Position) :
    (lockStatus v = .ALL_UNLOCKED ∧ ∀ l, v.get l = .UNLOCKED) ∨
      (lockStatus v = .DEADLOCKED ∧ doubleLocked v) ∨
      (lockStatus v = .ALL_LOCKED ∧ ¬ doubleLocked v ∧ ∀ l, v.get l = .LOCKED ∨ v.get l = .DEADLOCKED) ∨
      (lockStatus v = .PARTIAL ∧ (¬ ∀ l, v.get l = .UNLOCKED) ∧ ¬ doubleLocked v ∧
        ¬ ∀ l, v.get l = .LOCKED ∨ v.get l = .DEADLOCKED) := by
  by_cases unlocked : ∀ l, v.get l = .UNLOCKED
  · exact .inl ⟨if_pos (all_latches.mpr unlocked), unlocked⟩
  have second : lockStatus v = if Latch.doors.all (fun l => v.get l = .DEADLOCKED) ∧ v.tg = .LOCKED then .DEADLOCKED
      else if Latch.all.all (fun l => v.get l = .LOCKED ∨ v.get l = .DEADLOCKED) then .ALL_LOCKED else .PARTIAL :=
    if_neg (mt all_latches.mp unlocked)
  by_cases double : doubleLocked v
  · exact .inr (.inl ⟨second.trans (if_pos (doubleLocked_iff.mpr double)), double⟩)
  have third := second.trans (if_neg (mt doubleLocked_iff.mp double))
  by_cases locked : ∀ l, v.get l = .LOCKED ∨ v.get l = .DEADLOCKED
  · exact .inr (.inr (.inl ⟨third.trans (if_pos (all_latches.mpr locked)), double, locked⟩))
  · exact .inr (.inr (.inr ⟨third.trans (if_neg (mt all_latches.mp locked)), unlocked, double, locked⟩))

theorem not_doubleLocked_of_unlocked (h : ∀ l, v.get l = .UNLOCKED) : ¬ doubleLocked v :=
  fun ⟨fl, _⟩ => nomatch fl.symm.trans (h .FL)

theorem lockStatus_allUnlocked : lockStatus v = .ALL_UNLOCKED ↔ ∀ l, v.get l = .UNLOCKED := by
  rcases lockStatus_rows v with ⟨e, h⟩ | ⟨e, h⟩ | ⟨e, -, h⟩ | ⟨e, h, -⟩ <;> rw [e]
  · exact ⟨fun _ => h, fun _ => rfl⟩
  · exact ⟨nofun, fun k => absurd h (not_doubleLocked_of_unlocked k)⟩
  · exact ⟨nofun, fun k => absurd (h .FL) (by simp [k .FL])⟩
  · exact ⟨nofun, fun k => absurd k h⟩

theorem lockStatus_deadlocked : lockStatus v = .DEADLOCKED ↔ doubleLocked v := by
  rcases lockStatus_rows v with ⟨e, h⟩ | ⟨e, h⟩ | ⟨e, h, -⟩ | ⟨e, -, h, -⟩ <;> rw [e]
  · exact ⟨nofun, fun k => absurd k (not_doubleLocked_of_unlocked h)⟩
  · exact ⟨fun _ => h, fun _ => rfl⟩
  · exact ⟨nofun, fun k => absurd k h⟩
  · exact ⟨nofun, fun k => absurd k h⟩

theorem lockStatus_allLocked :
    lockStatus v = .ALL_LOCKED ↔ (∀ l, v.get l = .LOCKED ∨ v.get l = .DEADLOCKED) ∧ ¬ lockStatus v = .DEADLOCKED := by
  rcases lockStatus_rows v with ⟨e, h⟩ | ⟨e, h⟩ | ⟨e, -, h⟩ | ⟨e, -, -, h⟩ <;> rw [e]
  · exact ⟨nofun, fun k => absurd (k.1 .FL) (by simp [h .FL])⟩
  · exact ⟨nofun, fun k => absurd rfl k.2⟩
  · exact ⟨fun _ => ⟨h, nofun⟩, fun _ => rfl⟩
  · exact ⟨nofun, fun k => absurd k.1 h⟩

/-- The five latch states of a state. -/
def latchStates (s : State) : PerLatch Position :=
  ⟨s.table.latches.fl.state, s.table.latches.fr.state, s.table.latches.rl.state, s.table.latches.rr.state,
    s.table.latches.tg.state⟩

theorem latchStates_get (s : State) (l : Latch) : (latchStates s).get l = (s.act (.latch l)).state := by cases l <;> rfl

theorem vehicle_eq (s : State) : s.vehicle = lockStatus (latchStates s) := rfl

theorem vehicle_congr (h : ∀ l, (t.act (.latch l)).state = (s.act (.latch l)).state) : t.vehicle = s.vehicle := by
  rw [vehicle_eq, vehicle_eq, perlatch_ext (fun l => (latchStates_get t l).trans ((h l).trans (latchStates_get s l).symm))]

/-- The fields of READ_LATCHES before the vehicle lock status (R167). -/
def latchesBefore (s : State) : List (Nat × Nat) :=
  Latch.all.flatMap (latchFields s) ++ Child.all.flatMap (childFields s) ++
    [(2, polarityCode (s.polarity .DOOR)), (2, polarityCode (s.polarity .TAIL))]

theorem latchesBefore_sum (s : State) : ((latchesBefore s).map Prod.fst).sum = 61 := by
  simp [latchesBefore, Latch.all, Child.all, latchFields, childFields]

/-- READ_LATCHES carries the vehicle lock status at bit 61 (R167). -/
theorem takeReadLatches_vehicle (s : State) :
    ((takeReadLatches s).1.data.extractLsb' 61 2).toNat = vehicleCode s.vehicle := by
  have place := packData_place (latchesBefore s)
    [(1, bit s.crash.latch), (2, crashSourceCode s.crash.lastSource), (1, bit s.crash.quiet), (1, bit s.slot.isOpen)]
    2 (vehicleCode s.vehicle) (by rw [latchesBefore_sum]; decide)
  rw [latchesBefore_sum] at place
  have fields : (takeReadLatches s).1.data = packData (latchesBefore s ++ (2, vehicleCode s.vehicle) ::
      [(1, bit s.crash.latch), (2, crashSourceCode s.crash.lastSource), (1, bit s.crash.quiet), (1, bit s.slot.isOpen)]) := by
    simp [takeReadLatches, Answer.doneWith, latchesBefore]
  rw [fields, place]
  cases s.vehicle <;> rfl

/-- Settles O7, by the rows of R7. -/
theorem vehicleStatusTable : Obligations.VehicleStatusTable := by
  intro s t
  dsimp only
  have get : ∀ p : Position → Prop, (∀ l, p ((latchStates s).get l)) ↔ ∀ l, p ((s.act (.latch l)).state) :=
    fun p => forall_congr' (fun l => by rw [latchStates_get])
  refine ⟨?_, lockStatus_deadlocked, ?_, ?_, vehicle_congr, takeReadLatches_vehicle s⟩
  · exact lockStatus_allUnlocked.trans (get (· = .UNLOCKED))
  · exact lockStatus_allLocked.trans (and_congr (get (fun p => p = .LOCKED ∨ p = .DEADLOCKED)) Iff.rfl)
  · cases s.vehicle <;> simp

/-! ### Contacts (R3 to R6, R22) -/

/-- A wake event of the running part, with the pins of its line. -/
theorem calm_woken (h : calm s) (p : Pins) : calm { s with pins := p, phase := .ACTIVE } :=
  calm_congr rfl rfl rfl rfl rfl h

theorem operating_pins (h : operating s) (p : Pins) : operating { s with pins := p } := h

theorem calm_raise (h : calm s) (k : Notice) : calm (raise k s) := calm_congr rfl rfl rfl rfl rfl h

theorem calm_setAct (h : calm s) (a : Act) (r : ActRec) : calm (s.setAct a r) :=
  calm_congr (by simp) (by simp) (by simp) (by simp) (by simp) h

/-- CONTACT_CHANGE in the running part: what the change of sensed does, and the end of the event (R4, R8, R184). -/
theorem exec_contactChange {c : Contact} {closed : Bool} (ho : operating s) (changed : contactLevel s.pins c ≠ closed) :
    exec (.contactChange c closed) s = .next (finish (sensedChanged (contactAct c)
      (raise .LATCH_CHANGED { s with pins := setContact c closed s.pins, phase := .ACTIVE }))) := by
  show Host.Outcome.next _ = _
  rw [lineEvent_changed (by simpa using changed), event_operating (operating_pins ho _), contactWork,
    wake_operating (operating_pins ho _)]

theorem setPosition_changed (a : Act) (p : Position) (s : State) :
    setPosition a p (raise .LATCH_CHANGED s) = raise .LATCH_CHANGED (s.setAct a { s.act a with state := p }) := by
  unfold setPosition
  split
  · rename_i e
    rw [act_raise] at e
    rw [← e, setAct_act]
  · rw [act_raise, raise_setAct, raise_raise]

/-- Settles O8, by the position that the contacts give. -/
theorem contactChangeIsFollowed : Obligations.ContactChangeIsFollowed := by
  intro c closed s ho hc changed follow
  dsimp only
  have woken := calm_woken hc (setContact c closed s.pins)
  rw [exec_contactChange ho changed]
  generalize hu : ({ s with pins := setContact c closed s.pins, phase := .ACTIVE } : State) = u at woken ⊢
  have record : u.act (contactAct c) = s.act (contactAct c) := by rw [← hu]; exact act_congr rfl _
  have now : u.now = s.now := by rw [← hu]
  have seen : (raise .LATCH_CHANGED u).sensed (contactAct c) = decodeContacts (setContact c closed s.pins) (contactAct c) := by
    rw [← hu]
    rfl
  have followed : sensedChanged (contactAct c) (raise .LATCH_CHANGED u) =
      match decodeContacts (setContact c closed s.pins) (contactAct c) with
      | some p => followContact (contactAct c) p (raise .LATCH_CHANGED u)
      | none => (raise .LATCH_CHANGED u).setAct (contactAct c) { s.act (contactAct c) with invalidT := some ⟨s.now, 100⟩ } := by
    unfold sensedChanged
    dsimp only
    rw [seen, act_raise, record]
    have timer : (raise .LATCH_CHANGED u).timer invalidSpan = ⟨s.now, 100⟩ := by rw [State.timer, raise_now, now]; rfl
    rw [timer]
    cases e : (s.act (contactAct c)).activity with
    | STROKING => simp [e, follows] at follow
    | RETRY_WAIT => simp [e, follows] at follow
    | IDLE => cases decodeContacts (setContact c closed s.pins) (contactAct c) <;> rfl
    | QUEUED => cases decodeContacts (setContact c closed s.pins) (contactAct c) <;> rfl
  rw [followed]
  cases decodeContacts (setContact c closed s.pins) (contactAct c) with
  | some p =>
    have taken : followContact (contactAct c) p (raise .LATCH_CHANGED u) =
        raise .LATCH_CHANGED (u.setAct (contactAct c) { s.act (contactAct c) with
          state := p
          invalidT := none
          fault := if (s.act (contactAct c)).fault = .SENSOR then .NONE else (s.act (contactAct c)).fault }) := by
      unfold followContact
      dsimp only
      rw [act_raise, raise_setAct, setPosition_changed, act_setAct_same, setAct_setAct, record]
    dsimp only
    rw [taken, finish_calm (calm_raise (calm_setAct woken _ _) _)]
  | none =>
    dsimp only
    rw [raise_setAct, finish_calm (calm_raise (calm_setAct woken _ _) _)]

theorem leaveSlot_closed_calm {a : Act} (h : calm s) (closed : s.slot.isOpen = false) : calm (leaveSlot a s) := by
  obtain ⟨due, -, store⟩ := h
  cases a with
  | child c => exact ⟨due, fun o => absurd (o.symm.trans closed) nofun, store⟩
  | latch l => exact ⟨due, fun o => absurd (o.symm.trans closed) nofun, store⟩

theorem leaveSlot_raise (a : Act) (k : Notice) (s : State) : leaveSlot a (raise k s) = raise k (leaveSlot a s) := by
  cases a <;> rfl

/-- Settles O9, by the position that the contacts give. -/
theorem contactChangeWhileNotFollowing : Obligations.ContactChangeWhileNotFollowing := by
  intro c closed x s ho hc changed
  dsimp only
  have woken := calm_woken hc (setContact c closed s.pins)
  rw [exec_contactChange ho changed]
  have shut : ({ s with pins := setContact c closed s.pins, phase := .ACTIVE } : State).slot = s.slot := rfl
  generalize hu : ({ s with pins := setContact c closed s.pins, phase := .ACTIVE } : State) = u at woken shut ⊢
  have record : u.act (contactAct c) = s.act (contactAct c) := by rw [← hu]; exact act_congr rfl _
  have seen : (raise .LATCH_CHANGED u).sensed (contactAct c) = decodeContacts (setContact c closed s.pins) (contactAct c) := by
    rw [← hu]
    rfl
  refine ⟨fun stroking => ?_, fun waiting wait => ⟨fun other => ?_, fun target closed => ?_⟩⟩
  · have same : sensedChanged (contactAct c) (raise .LATCH_CHANGED u) = raise .LATCH_CHANGED u := by
      unfold sensedChanged
      dsimp only
      rw [act_raise, record, stroking]
    rw [same, finish_calm (calm_raise woken _)]
  · have same : sensedChanged (contactAct c) (raise .LATCH_CHANGED u) = raise .LATCH_CHANGED u := by
      unfold sensedChanged
      dsimp only
      rw [act_raise, record, waiting, seen, wait]
      cases e : decodeContacts (setContact c closed s.pins) (contactAct c) with
      | none => rfl
      | some p =>
        have ne : p ≠ waitTarget (contactAct c) x := fun k => other (by rw [e, k])
        simp [ne]
    rw [same, finish_calm (calm_raise woken _)]
  · have late : sensedChanged (contactAct c) (raise .LATCH_CHANGED u) =
        lateContact (contactAct c) (waitTarget (contactAct c) x) (raise .LATCH_CHANGED u) := by
      unfold sensedChanged
      dsimp only
      rw [act_raise, record, waiting, seen, wait, target]
      simp
    have left : lateContact (contactAct c) (waitTarget (contactAct c) x) (raise .LATCH_CHANGED u) =
        raise .LATCH_CHANGED ((leaveSlot (contactAct c) u).setAct (contactAct c) { s.act (contactAct c) with
          state := waitTarget (contactAct c) x
          activity := .IDLE
          fault := .NONE
          attempts := 0
          invalidT := none
          wait := none }) := by
      unfold lateContact
      dsimp only
      rw [leaveSlot_raise, act_raise, raise_setAct, setPosition_changed, act_setAct_same, setAct_setAct, act_leaveSlot, record]
    rw [late, left, finish_calm (calm_raise (calm_setAct (leaveSlot_closed_calm woken (by rw [shut]; exact closed)) _ _) _)]

/-- Settles O10. -/
theorem ajarChangeFollowsItsContact : Obligations.AjarChangeFollowsItsContact := by
  intro l isOpen s ho hc changed
  show Host.Outcome.next _ = _
  rw [lineEvent_changed (by simpa using changed), event_operating (operating_pins ho _), ajarWork,
    wake_operating (operating_pins ho _)]
  cases isOpen with
  | false => exact congrArg _ (finish_calm (calm_raise (calm_woken hc _) _))
  | true => exact congrArg _ (finish_calm (calm_congr (s := s) rfl rfl rfl rfl rfl hc))

/-! ### Timers of the lock table (R5, R24) -/

theorem setFault_raised {a : Act} {f : LockFault} (s : State) (h : f ≠ .NONE) :
    setFault a f s = raise .LATCH_FAULT (s.setAct a { s.act a with fault := f }) := if_neg h

/-- Settles O11. -/
theorem lockTableTimersExpire : Obligations.LockTableTimersExpire := by
  intro d a t s ho hc due
  dsimp only
  refine ⟨fun runs => ?_, fun runs other => ?_, fun runs ten => ?_⟩
  · show Host.Outcome.next _ = _
    rw [expiry_due ho runs due, invalidWork, setFault_raised _ (by decide), act_setAct_same, setAct_setAct,
      finish_calm (calm_raise (calm_setAct hc _ _) _)]
  · show Host.Outcome.next _ = _
    rw [expiry_due ho runs due, decayWork, if_neg (show (s.act a).strokes ≠ strokeLimit from other), finish_calm (calm_setAct hc _ _)]
    rfl
  · show Host.Outcome.next _ = _
    rw [expiry_due ho runs due, decayWork, if_pos (show (s.act a).strokes = strokeLimit from ten)]
    rfl

end

end Sys2Proof.Machine

/-! ## Requests for latches and child actuators -/

namespace Sys2Proof.Machine

open Sys2Proof

section
variable {s t u : State} {a : Act}

/-! ### Commands of a listening port (R159, R161, R184) -/

theorem setPort_setPort (s : State) (p : Port) (r q : PortRec) : (s.setPort p r).setPort p q = s.setPort p q := by
  cases p <;> rfl

/-- A permitted command of a listening port is taken in the state of its arrival. -/
theorem commandRow_listening {p : Port} {code : Byte} {f : State → Answer × State} (h : listening p s)
    (permitted : permittedOn p code = true) :
    commandRow p code f s = .next (respond p code (f (arrived p s)).1 (f (arrived p s)).2) := by
  obtain ⟨ho, port⟩ := h
  have running : s.phase ≠ .LOADING := by rcases ho with e | ⟨e, -⟩ <;> simp [e]
  unfold commandRow transferEnd
  dsimp only
  cases e : (s.port p).transfer with
  | some x =>
    rw [e] at port
    obtain ⟨driven, idle⟩ := port
    have woken : awaken (endTransfer p s) = arrived p s := awaken_operating (s := endTransfer p s) ho
    simp only [Option.isSome_some, if_true, e]
    rw [if_neg (by simp [endTransfer, running, driven, idle]), request, if_pos permitted, taken, woken]
  | none =>
    rw [e] at port
    have begun : transferBegins p s = ({ s with phase := .ACTIVE } : State).setPort p { s.port p with
        transfer := some ⟨true, false, (s.port p).slot⟩ } := by
      unfold transferBegins
      rw [awaken_operating ho]
      unfold beginTransfer
      dsimp only
      rw [show ({ s with phase := .ACTIVE } : State).port p = s.port p from rfl, e, port]
      rfl
    have ended : endTransfer p (transferBegins p s) = arrived p s := by
      rw [begun]
      unfold endTransfer arrived
      rw [setPort_setPort, port_setPort_same]
      rfl
    have woken : awaken (arrived p s) = arrived p s := awaken_operating (s := arrived p s) (.inl rfl)
    simp only [Option.isSome_none, Bool.false_eq_true, if_false]
    rw [show ((transferBegins p s).port p).transfer = some ⟨true, false, (s.port p).slot⟩ by rw [begun, port_setPort_same]]
    dsimp only
    rw [ended, if_neg (by simp [arrived]), request, if_pos permitted, taken, woken]

theorem calm_arrived {p : Port} (h : calm s) : calm (arrived p s) := calm_congr rfl rfl rfl rfl rfl h

/-- A command that is refused with no effect. -/
theorem commandRow_refused {p : Port} {code : Byte} {f : State → Answer × State} {x : Answer} (h : listening p s)
    (hc : calm s) (permitted : permittedOn p code = true) (e : f (arrived p s) = (x, arrived p s)) :
    commandRow p code (acting f) s = .next (respond p code x (arrived p s)) := by
  rw [commandRow_listening h permitted]
  simp only [acting, e]
  rw [finish_calm (calm_arrived hc)]

/-! ### How a request is met (R9, R23, R90 to R92) -/

/-- With no retry wait and no queued job in its way, a request keeps all its actuators. -/
theorem mergeRequest_free {g : Goal} {as : List Act} (free : ∀ a ∈ as, (s.act a).wait = none ∧ s.queuedFor a = none) :
    mergeRequest g as s = ⟨s, as, []⟩ := by
  have waits : ∀ (xs ys : List Act), (∀ a ∈ xs, (s.act a).wait = none) →
      xs.foldl (meetWait g) ⟨s, ys, []⟩ = ⟨s, ys ++ xs, []⟩ := by
    intro xs
    induction xs with
    | nil => simp
    | cons x xs ih =>
      intro ys h
      have met : meetWait g ⟨s, ys, []⟩ x = ⟨s, ys ++ [x], []⟩ := by simp [meetWait, h x List.mem_cons_self]
      rw [List.foldl_cons, met, ih _ (fun a ha => h a (List.mem_cons_of_mem _ ha)), List.append_assoc]
      rfl
  have jobs : ∀ (xs ys : List Act), (∀ a ∈ xs, s.queuedFor a = none) →
      xs.foldl (meetJob g) ⟨s, ys, []⟩ = ⟨s, ys ++ xs, []⟩ := by
    intro xs
    induction xs with
    | nil => simp
    | cons x xs ih =>
      intro ys h
      have met : meetJob g ⟨s, ys, []⟩ x = ⟨s, ys ++ [x], []⟩ := meetJob_free (f := ⟨s, ys, []⟩) g (h x List.mem_cons_self)
      rw [List.foldl_cons, met, ih _ (fun a ha => h a (List.mem_cons_of_mem _ ha)), List.append_assoc]
      rfl
  unfold mergeRequest
  dsimp only
  rw [waits as [] (fun a ha => (free a ha).1)]
  exact jobs as [] (fun a ha => (free a ha).2)

/-- The job that a request forms (R9, R90). -/
def freshJob (o : Origin) (g : Goal) (as : List Act) (s : State) : Job :=
  ⟨s.newId, o, .lock g as, .USER, s.reading, false, false, 0⟩

/-- With actuators left over and room in the queue, a request forms one job (R9, R90). -/
theorem formJob_merged {o : Origin} {g : Goal} {as bs : List Act} {x : List (Nat × Nat)} (merged : mergeRequest g as s = ⟨t, bs, x⟩)
    (some : bs ≠ []) (room : t.queue.length < 16) :
    formJob o g as s = (.job t.newId, bs.foldl (fun t a => queueAct a t) (enterQueue (freshJob o g bs t) t.tookId)) := by
  have full : t.queueFull = false := decide_eq_false (Nat.not_le.mpr room)
  unfold formJob
  rw [merged]
  simp [some, full, freshJob]

theorem formJob_full {o : Origin} {g : Goal} {as bs : List Act} {x : List (Nat × Nat)} (merged : mergeRequest g as s = ⟨t, bs, x⟩)
    (some : bs ≠ []) (full : t.queue.length = 16) (quiet : ∀ a ∈ bs, (t.act a).activity ≠ .QUEUED) :
    formJob o g as s = (.full, t) := by
  have kept : bs.foldl (fun t a => keepOut a t) t = t := by
    clear merged some
    induction bs with
    | nil => rfl
    | cons b bs ih =>
      have same : keepOut b t = t := if_neg (fun k => quiet b List.mem_cons_self k.1)
      rw [List.foldl_cons, same]
      exact ih (fun a ha => quiet a (List.mem_cons_of_mem _ ha))
  have capacity : t.queueFull = true := by simp [State.queueFull, queueCapacity, full]
  unfold formJob
  rw [merged]
  simp [some, capacity, kept]

/-! ### The fresh job in the queue (R89, R101) -/

theorem ageAt_reading (s : State) : ageAt s.now s.reading = 0 := by simp [ageAt, State.reading]

theorem seniority_reading (s : State) : seniority s.now s.reading = 0 := by simp [seniority, State.reading]

/-- A job of the present moment enters at the tail (R89). -/
theorem insertByAge_reading {j : Job} (h : j.enqueued = s.reading) (q : List Job) : insertByAge s.now j q = q ++ [j] := by
  induction q with
  | nil => rfl
  | cons x q ih =>
    unfold insertByAge
    rw [h, seniority_reading, if_neg (Nat.not_lt_zero _), ih]
    rfl

theorem enterQueue_fresh (o : Origin) (g : Goal) (as : List Act) (s : State) :
    enterQueue (freshJob o g as s) s.tookId = trigger (s.tookId.setQueue (s.queue ++ [freshJob o g as s])) := by
  have young : decide (blockingAge ≤ ageAt s.now s.reading) = false := by rw [ageAt_reading]; decide
  unfold enterQueue
  dsimp only
  have same : ({ freshJob o g as s with
      blocking := (freshJob o g as s).blocking || decide (blockingAge ≤ ageAt s.tookId.now (freshJob o g as s).enqueued) } : Job) =
      freshJob o g as s := by
    show ({ freshJob o g as s with blocking := false || decide (blockingAge ≤ ageAt s.now s.reading) } : Job) = _
    rw [young]
    rfl
  rw [same, show insertByAge s.tookId.now (freshJob o g as s) s.tookId.queue = s.queue ++ [freshJob o g as s] from
    insertByAge_reading (s := s) rfl s.queue]

/-- What the forming of a job leaves: the records of its actuators aside, the queue, the next id and the near-full flag
with its notice change. -/
theorem foldl_queueAct_eq (as : List Act) (s : State) :
    as.foldl (fun t a => queueAct a t) s = { s with table := (as.foldl (fun t a => queueAct a t) s).table } := by
  induction as generalizing s with
  | nil => rfl
  | cons a as ih =>
    rw [List.foldl_cons, ih, queueAct_eq]
    cases a <;> rfl

theorem act_foldl_queueAct (as : List Act) (s : State) (a : Act) :
    (as.foldl (fun t a => queueAct a t) s).act a = if a ∈ as then { s.act a with
      attempts := 0
      activity := if (s.act a).activity = .STROKING then .STROKING else .QUEUED } else s.act a := by
  induction as generalizing s with
  | nil => simp
  | cons c as ih =>
    rw [List.foldl_cons, ih, queueAct_eq]
    by_cases e : a = c
    · subst e
      rw [act_setAct_same]
      by_cases k : (s.act a).activity = .STROKING <;> simp [k]
    · rw [act_setAct_ne _ _ e]
      simp [e]

/-! ### The near-full flag (R105) -/

theorem setQueue_rise {q : List Job} (longer : s.queue.length < q.length) (mark : 14 ≤ q.length) (clear : s.nearFull = false) :
    s.setQueue q = raise .QUEUE_NEAR_FULL { s with queue := q, nearFull := true } :=
  if_pos ⟨longer, mark, clear⟩

theorem setQueue_fall {q : List Job} (shorter : q.length < s.queue.length) (mark : q.length ≤ 13) :
    s.setQueue q = { s with queue := q, nearFull := false } := by
  unfold State.setQueue
  dsimp only
  rw [if_neg (fun k => absurd k.1 (Nat.lt_asymm shorter))]
  cases full : s.nearFull with
  | true => exact if_pos ⟨shorter, Nat.lt_succ_of_le mark, rfl⟩
  | false =>
    rw [if_neg (fun k => by simp at k), ← full]

theorem setQueue_plain {q : List Job} (h : q.length = s.queue.length ∨
    (s.queue.length < q.length ∧ (q.length ≤ 13 ∨ s.nearFull = true)) ∨ (q.length < s.queue.length ∧ 14 ≤ q.length)) :
    s.setQueue q = { s with queue := q } := by
  unfold State.setQueue
  dsimp only
  rw [if_neg, if_neg]
  · rintro ⟨shorter, mark, -⟩
    have low : q.length < 14 := mark
    omega
  · rintro ⟨longer, mark, clear⟩
    have high : 14 ≤ q.length := mark
    rcases h with h | ⟨-, h | h⟩ | h
    · omega
    · omega
    · simp [h] at clear
    · omega

theorem setQueue_append (j : Job) (s : State) :
    (s.setQueue (s.queue ++ [j])).nearFull = (s.nearFull || decide (13 ≤ s.queue.length)) ∧
      ∀ p, ((s.setQueue (s.queue ++ [j])).port p).pending =
        if 13 ≤ s.queue.length ∧ s.nearFull = false then (s.port p).pending ||| 0x0040#16 else (s.port p).pending := by
  have length : (s.queue ++ [j]).length = s.queue.length + 1 := by simp
  by_cases mark : 13 ≤ s.queue.length ∧ s.nearFull = false
  · rw [setQueue_rise (by omega) (by omega) mark.2]
    refine ⟨by simp [mark.1], fun p => ?_⟩
    rw [if_pos mark, port_raise]
    rfl
  · have plain : s.setQueue (s.queue ++ [j]) = { s with queue := s.queue ++ [j] } := by
      refine setQueue_plain (.inr (.inl ⟨by omega, ?_⟩))
      by_cases high : 13 ≤ s.queue.length
      · exact .inr (by simpa using fun k => mark ⟨high, k⟩)
      · exact .inl (by omega)
    rw [plain]
    refine ⟨?_, fun p => (if_neg mark).symm⟩
    by_cases high : 13 ≤ s.queue.length
    · have set : s.nearFull = true := by simpa using fun k => mark ⟨high, k⟩
      simp [set]
    · simp [high]

/-- Settles O12, from the job that a free request forms and the changes of the near-full flag. -/
theorem requestFormsOneJob : Obligations.RequestFormsOneJob := by
  intro o g as q s some free room
  dsimp only
  have formed := formJob_merged (o := o) (mergeRequest_free (g := g) free) some room
  have entered := enterQueue_fresh o g as s
  have near := setQueue_append (freshJob o g as s) s.tookId
  have acts : ∀ a, (formJob o g as s).2.act a = if a ∈ as then { s.act a with
      attempts := 0
      activity := if (s.act a).activity = .STROKING then .STROKING else .QUEUED } else s.act a := by
    intro a
    rw [formed, act_foldl_queueAct, entered]
    rw [act_trigger, act_setQueue, show s.tookId.act a = s.act a from act_congr rfl a]
  have rest : (formJob o g as s).2 = { trigger (s.tookId.setQueue (s.queue ++ [freshJob o g as s])) with
      table := (formJob o g as s).2.table } := by
    rw [formed]
    dsimp only
    rw [entered]
    exact foldl_queueAct_eq as _
  refine ⟨formed, fun a ha => ?_, fun a ha => ?_, ?_, ?_, ?_, ?_, ?_, ?_, ?_, ?_, setQueue_plain⟩
  · rw [acts, if_pos ha]
  · rw [acts, if_neg ha]
  · rw [rest]
    simp [State.tookId]
  · rw [rest]
    simp [State.tookId]
  · rw [rest]
    simp [State.tookId]
  · rw [rest]
    exact near.1
  · intro p
    rw [rest]
    exact near.2 p
  · simp
  · intro longer mark clear
    rw [setQueue_rise longer mark clear]
    exact ⟨rfl, fun p => by rw [port_raise]; rfl⟩
  · intro shorter mark
    rw [setQueue_fall shorter mark]
    exact ⟨rfl, rfl⟩

end

end Sys2Proof.Machine

namespace Sys2Proof.Machine

open Sys2Proof

section
variable {s t u : State} {a : Act}

/-! ### Absorption and loss (R91) -/

theorem sameGoal_self (g : Goal) (a : Act) : sameGoal g g a = true := by simp [sameGoal]

theorem sameGoal_comm (g h : Goal) (a : Act) : sameGoal g h a = sameGoal h g a := by
  unfold sameGoal
  rw [Bool.and_right_comm, show decide (g = h) = decide (h = g) by simp [eq_comm]]

/-- A request for one actuator that waits for no retry meets the queued job that names it. -/
theorem mergeRequest_one {g : Goal} (wait : (s.act a).wait = none) :
    mergeRequest g [a] s = meetJob g ⟨s, [], []⟩ a := by
  have met : meetWait g ⟨s, [], []⟩ a = ⟨s, [a], []⟩ := by simp [meetWait, wait]
  simp [mergeRequest, met]

theorem formJob_absorbed {o : Origin} {g : Goal} {j : Job} (wait : (s.act a).wait = none) (queued : s.queuedFor a = some j)
    (goal : j.goal? = some g) : formJob o g [a] s = (.job j.id, s) := by
  have merged : mergeRequest g [a] s = ⟨s, [], [(j.id, seniority s.now j.enqueued)]⟩ := by
    rw [mergeRequest_one wait]
    simp [meetJob, queued, goal, sameGoal_self]
  unfold formJob
  rw [merged]
  simp [oldestAbsorber]

theorem mergeRequest_other {g : Goal} {j : Job} (wait : (s.act a).wait = none) (queued : s.queuedFor a = some j)
    (other : ∀ h, j.goal? = some h → sameGoal h g a = false) : mergeRequest g [a] s = ⟨dropQueued a s, [a], []⟩ := by
  rw [mergeRequest_one wait]
  unfold meetJob
  rw [queued]
  dsimp only
  rw [if_neg]
  · rfl
  · cases goal : j.goal? with
    | none => simp
    | some h => simp [sameGoal_comm g h a, other h goal]

/-- The queue without an actuator (R87, R91). -/
theorem filterMap_without (a : Act) (q : List Job) : q.filterMap (Job.without a) = q.filterMap (fun x => match x.targets with
    | .lock h as =>
      if a ∉ as then some x
      else if as.all (fun b => b = a) then none
      else some { x with targets := .lock h (as.filter (fun b => b ≠ a)) }
    | .window _ => some x) := by
  refine List.filterMap_congr (fun x _ => ?_)
  unfold Job.without
  cases x.targets with
  | window k => rfl
  | lock h as =>
    dsimp only
    by_cases named : a ∈ as
    · have last : (as.filter (· ≠ a)).isEmpty = as.all (fun b => b = a) := by
        rw [Bool.eq_iff_iff, List.isEmpty_iff, List.filter_eq_nil_iff, List.all_eq_true]
        simp
      rw [if_pos (List.contains_iff_mem.mpr named), if_neg (not_not_intro named), last]
    · rw [if_neg (by simpa using named), if_pos named]

/-- The queue without an actuator, the flag and the trigger aside. -/
def withoutAct (a : Act) (s : State) : State := { s with queue := s.queue.filterMap (Job.without a) }

theorem liveIds_congr (queue : t.queue = s.queue) (admitted : t.admitted = s.admitted) (acts : ∀ a, t.act a = s.act a) :
    t.liveIds = s.liveIds := by
  have reserved : t.reserved = s.reserved := by simp [State.reserved, acts]
  simp [State.liveIds, State.liveJobs, queue, admitted, reserved]

theorem newId_congr (queue : t.queue = s.queue) (admitted : t.admitted = s.admitted) (acts : ∀ a, t.act a = s.act a)
    (next : t.nextId = s.nextId) : t.newId = s.newId := by
  rw [State.newId, State.newId, liveIds_congr queue admitted acts, next]

theorem newId_dropQueued (a : Act) (s : State) : (dropQueued a s).newId = (withoutAct a s).newId :=
  newId_congr (by simp [withoutAct]) (by simp [withoutAct]) (fun b => by rw [act_dropQueued]; exact act_congr rfl b)
    (by rw [dropQueued_eq]; simp [withoutAct])

/-- What a request for one actuator leaves that a queued job loses to it (R91). -/
theorem formJob_other {o : Origin} {g : Goal} {j : Job} (wait : (s.act a).wait = none) (queued : s.queuedFor a = some j)
    (other : ∀ h, j.goal? = some h → sameGoal h g a = false) (room : s.queue.length < 16) :
    formJob o g [a] s = (.job (withoutAct a s).newId,
      queueAct a (trigger ((dropQueued a s).tookId.setQueue ((withoutAct a s).queue ++
        [⟨(withoutAct a s).newId, o, .lock g [a], .USER, s.reading, false, false, 0⟩])))) := by
  have shorter : (dropQueued a s).queue.length < 16 := by
    rw [dropQueued_queue]
    exact lt_of_le_of_lt (List.length_filterMap_le _ _) room
  rw [formJob_merged (mergeRequest_other wait queued other) (List.cons_ne_nil _ _) shorter, enterQueue_fresh]
  have now : (dropQueued a s).now = s.now := by rw [dropQueued_eq]; exact outside_now (outside_setQueue _ s)
  simp [freshJob, newId_dropQueued, State.reading, now, withoutAct]

/-! ### LATCH_REQUEST (R12) -/

theorem anyAjar_iff : s.anyAjar = true ↔ ∃ l ∈ Latch.all, s.pins.ajarOpen.get l = true := List.any_eq_true

theorem anyAjar_false (h : ∀ l, s.pins.ajarOpen.get l = false) : s.anyAjar = false := by
  by_contra k
  obtain ⟨l, -, e⟩ := anyAjar_iff.mp (by simpa using k)
  simp [h l] at e

theorem latchSetOf_none {b : Byte} (h : b = 0#8 ∨ 32 ≤ b.toNat) : latchSetOf b = none := if_pos h

theorem latchSetOf_some {b : Byte} (h : b ≠ 0#8 ∧ b.toNat < 32) : ∃ as, latchSetOf b = some as ∧ as ≠ [] := by
  have out : ¬(b = 0#8 ∨ 32 ≤ b.toNat) := fun k => k.elim h.1 (Nat.not_le.mpr h.2)
  refine ⟨_, if_neg out, ?_⟩
  obtain ⟨zero, low⟩ := h
  have cases : ∀ x : Fin 32, x ≠ 0 → ((Act.latches.zip [0, 1, 2, 3, 4]).filter
      (fun y => (BitVec.ofNat 8 x.val).getLsbD y.2)).map (·.1) ≠ [] := by decide
  have some : (⟨b.toNat, low⟩ : Fin 32) ≠ 0 := fun k => by
    have none : b.toNat = 0 := congrArg Fin.val k
    exact zero (BitVec.eq_of_toNat_eq none)
  have found := cases ⟨b.toNat, low⟩ some
  rwa [BitVec.ofNat_toNat, BitVec.setWidth_eq] at found

theorem latchGoalOf_none {b : Byte} (h : 3 ≤ b.toNat) : latchGoalOf b = none := List.getElem?_eq_none h

theorem latchGoalOf_some {b : Byte} (h : b.toNat < 3) : ∃ g, latchGoalOf b = some g ∧ (g = .UNLOCK ↔ b.toNat = 2) ∧
    (g = .DEADLOCK ↔ b = 1#8) := by
  have cases : ∀ x : Fin 3, ∃ g, [Goal.LOCK, .DEADLOCK, .UNLOCK][x.val]? = some g ∧ (g = .UNLOCK ↔ x.val = 2) ∧
      (g = .DEADLOCK ↔ x.val = 1) := by decide
  obtain ⟨g, e, unlock, deadlock⟩ := cases ⟨b.toNat, h⟩
  refine ⟨g, e, unlock, deadlock.trans ⟨fun k => BitVec.eq_of_toNat_eq k, fun k => congrArg BitVec.toNat k⟩⟩

theorem act_arrived (p : Port) (s : State) (a : Act) : (arrived p s).act a = s.act a := act_congr rfl a

theorem queuedFor_arrived (p : Port) (s : State) (a : Act) : (arrived p s).queuedFor a = s.queuedFor a := rfl

/-- Settles O13, by the queued job that a request meets, and the checks of R12. -/
theorem requestAbsorbedOrKeptOut : Obligations.RequestAbsorbedOrKeptOut := by
  intro o g a j set target s
  refine ⟨fun wait => ⟨formJob_absorbed wait, fun free full quiet => ?_, fun queued other room => ?_⟩, fun port hc => ?_⟩
  · exact formJob_full (mergeRequest_free (by simp [wait, free])) (List.cons_ne_nil _ _) full (by simpa using quiet)
  · have formed := formJob_other (o := o) wait queued other room
    dsimp only
    generalize lost : List.filterMap _ s.queue = q
    obtain rfl : (withoutAct a s).queue = q := (filterMap_without a s.queue).trans lost
    have left : ({ s with queue := (withoutAct a s).queue } : State) = withoutAct a s := rfl
    rw [formed, queueAct_eq, left]
    refine ⟨rfl, by simp, by simp, fun b hb => ?_, by simp [State.tookId], by simp [State.tookId]⟩
    rw [act_setAct_ne _ _ hb, act_trigger, act_setQueue, show (dropQueued a s).tookId.act b = (dropQueued a s).act b from
      act_congr rfl b, act_dropQueued]
  · have refused : ∀ r, takeLatchRequest set target (arrived .M s) = (Answer.refused r, arrived .M s) →
        exec (.latchRequest .M set target) s = .next (respond .M 0x11#8 (Answer.refused r) (arrived .M s)) :=
      fun r e => commandRow_refused port hc rfl e
    refine ⟨fun bad => refused _ ?_, fun named low latch => refused _ ?_, fun named one clear ajar => refused _ ?_,
      fun named low clear shut full free => refused _ ?_⟩
    · have none : latchSetOf set = none ∨ latchGoalOf target = none := by
        rcases bad with k | k | k
        · exact .inl (latchSetOf_none (.inl k))
        · exact .inl (latchSetOf_none (.inr k))
        · exact .inr (latchGoalOf_none k)
      unfold takeLatchRequest
      rcases none with e | e
      · rw [e]
      · rw [e]
        cases latchSetOf set <;> rfl
    · obtain ⟨as, hs, -⟩ := latchSetOf_some named
      obtain ⟨g, hg, unlock, -⟩ := latchGoalOf_some (b := target) (by omega)
      unfold takeLatchRequest
      rw [hs, hg]
      exact if_pos ⟨fun k => by rw [unlock.mp k] at low; omega, latch⟩
    · obtain ⟨as, hs, -⟩ := latchSetOf_some named
      obtain ⟨g, hg, -, deadlock⟩ := latchGoalOf_some (b := target) (by rw [one]; decide)
      have off : (arrived .M s).crash.latch = false := clear
      have ajar : (arrived .M s).anyAjar = true := anyAjar_iff.mpr ajar
      unfold takeLatchRequest
      rw [hs, hg]
      simp [off, ajar, deadlock.mpr one]
    · obtain ⟨as, hs, some⟩ := latchSetOf_some named
      obtain ⟨g, hg, unlock, deadlock⟩ := latchGoalOf_some low
      have latches := isLatch_of_latchSetOf hs
      have each : ∀ a ∈ as, ((arrived .M s).act a).wait = none ∧ (arrived .M s).queuedFor a = none ∧
          ((arrived .M s).act a).activity ≠ .QUEUED := by
        intro a ha
        cases a with
        | child c => simp [isLatch] at latches; exact absurd (latches _ ha) nofun
        | latch l => rw [act_arrived, queuedFor_arrived]; exact free l
      have formed : formJob .PORT_M g as (arrived .M s) = (.full, arrived .M s) :=
        formJob_full (mergeRequest_free (fun a ha => ⟨(each a ha).1, (each a ha).2.1⟩)) some full (fun a ha => (each a ha).2.2)
      have first : ¬(g ≠ .UNLOCK ∧ (arrived .M s).crash.latch = true) := by
        rintro ⟨other, latch⟩
        have two : target.toNat ≠ 2 := fun k => other (unlock.mpr k)
        exact absurd ((clear (by omega)).symm.trans latch) nofun
      have second : ¬(g = .DEADLOCK ∧ (arrived .M s).anyAjar = true) := by
        rintro ⟨double, ajar⟩
        have off : (arrived .M s).anyAjar = false := anyAjar_false (shut (deadlock.mp double))
        exact absurd (off.symm.trans ajar) nofun
      unfold takeLatchRequest
      rw [hs, hg]
      dsimp only
      rw [if_neg first, if_neg second, formed]
      rfl

/-! ### Panel and key (R10, R11, R13) -/

theorem secondTurn_iff : secondTurn s = true ↔
    (∃ r, s.keyLock = some r ∧ ageAt s.now r < 3000) ∧ ∀ l, s.pins.ajarOpen.get l = false := by
  have shut : s.anyAjar = false ↔ ∀ l, s.pins.ajarOpen.get l = false := by
    refine ⟨fun h l => ?_, anyAjar_false⟩
    by_contra k
    have mem : l ∈ Latch.all := by cases l <;> decide
    exact absurd (h.symm.trans (anyAjar_iff.mpr ⟨l, mem, by simpa using k⟩)) nofun
  unfold secondTurn
  cases s.keyLock with
  | none => simp
  | some r =>
    have young : youngerThan s r secondPressSpan = true ↔ ageAt s.now r < 3000 := decide_eq_true_iff
    simp [shut, young]

theorem exec_rocker (ho : operating s) (x : LockTurn) : exec (.centralLockRocker x) s =
    .next (finish (rockerWork x { s with pins := { s.pins with rocker := some x } })) := by
  show Host.Outcome.next _ = _
  rw [event_operating (operating_pins ho _)]

theorem keyWork_once (clear : (wake s).crash.latch = false) (once : secondTurn (wake s) = false) : keyWork .LOCK s =
    { panelLatchRequest .KEY_CYLINDER .LOCK Act.latches (wake s) with keyLock := some (wake s).reading } := by
  refine (if_neg (by simp [clear])).trans ?_
  simp only [once, Bool.false_eq_true, if_false]

theorem keyWork_twice (clear : (wake s).crash.latch = false) (twice : secondTurn (wake s) = true) : keyWork .LOCK s =
    { panelLatchRequest .KEY_CYLINDER .DEADLOCK doorActs (wake s) with keyLock := some (wake s).reading } := by
  refine (if_neg (by simp [clear])).trans ?_
  simp only [twice, if_true]

theorem exec_key (ho : operating s) (x : LockTurn) : exec (.keyCylinder x) s =
    .next (finish (keyWork x { s with pins := { s.pins with key := some x } })) := by
  show Host.Outcome.next _ = _
  rw [event_operating (operating_pins ho _)]

theorem both_engaged : Child.all.all (fun c => (s.act (.child c)).state = .ENGAGED) = true ↔
    s.table.children.crl.state = .ENGAGED ∧ s.table.children.crr.state = .ENGAGED := by
  simp only [Child.all, List.all_cons, List.all_nil, Bool.and_true, Bool.and_eq_true, decide_eq_true_eq]
  rfl

/-- Settles O14, by the row of each input. -/
theorem panelAndKeyFormTheirJobs : Obligations.PanelAndKeyFormTheirJobs := by
  intro i s ho hc
  dsimp only
  have rocked : ∀ x, wake { s with pins := { s.pins with rocker := some x } } =
      { s with pins := { s.pins with rocker := some x }, phase := .ACTIVE } := fun _ => wake_operating (operating_pins ho _)
  have turned : ∀ x, wake { s with pins := { s.pins with key := some x } } =
      { s with pins := { s.pins with key := some x }, phase := .ACTIVE } := fun _ => wake_operating (operating_pins ho _)
  refine ⟨?_, fun clear => ?_, fun latch => ?_, ?_, fun clear once => ?_, fun clear young shut => ?_, fun latch => ?_, ?_, ?_⟩
  · rw [exec_rocker ho, rockerWork, rocked]
    rfl
  · rw [exec_rocker ho, rockerWork, rocked]
    dsimp only
    rw [if_neg (by simp [clear])]
    rfl
  · rw [exec_rocker ho, rockerWork, rocked]
    dsimp only
    rw [if_pos latch, finish_calm (calm_woken hc _)]
  · rw [exec_key ho, keyWork, turned]
    rfl
  · rw [exec_key ho, keyWork_once (by rw [turned]; exact clear)
      (by rw [turned]; exact Bool.eq_false_iff.mpr (fun k => once (secondTurn_iff.mp k))), turned]
    rfl
  · rw [exec_key ho, keyWork_twice (by rw [turned]; exact clear)
      (by rw [turned]; exact secondTurn_iff.mpr ⟨young, shut⟩), turned]
    rfl
  · rw [exec_key ho, keyWork, turned]
    dsimp only
    rw [if_pos latch, finish_calm (calm_woken hc _)]
  · show Host.Outcome.next _ = _
    rw [event_operating (operating_pins ho _), childButtonWork, wake_operating (operating_pins ho _)]
    dsimp only
    rw [if_congr both_engaged rfl rfl]
    rfl
  · show Host.Outcome.next _ = _
    rw [event_operating (operating_pins ho _), wake_operating (operating_pins ho _), finish_calm (calm_woken hc _)]
    cases i <;> rfl

/-! ### The end of a retry wait (R22, R110) -/

/-- Settles O19, by what the wait reserves. -/
theorem retryWaitExpiryReturnsToQueue : Obligations.RetryWaitExpiryReturnsToQueue := by
  intro a l x j s ho wait due
  have row : exec (.retryWaitExpiry a) s = .next (finish (retryWork a s)) := by
    show Host.Outcome.next _ = _
    rw [expiry_due (t := x.timer) ho (by rw [wait]; rfl) due]
  refine ⟨fun reserved room => ?_, fun reserved full => ?_, fun crash latch => ?_⟩
  · have open_ : s.queueFull = false := decide_eq_false (Nat.not_le.mpr room)
    rw [row, retryWork, wait]
    simp [reserved, open_]
  · have closed : s.queueFull = true := decide_eq_true full
    rw [row, retryWork, wait]
    simp [reserved, closed]
  · subst latch
    rw [row, retryWork, wait]
    dsimp only
    rw [crash]
    dsimp only [toPending]
    rw [resumeAs_slot]
    rfl

end

end Sys2Proof.Machine

/-! ## Strokes that end and strokes that are cut (R20 to R22, R32, R34)

The members of a stroke are taken up one by one. Where nothing is queued and the crash slot is closed and empty, each of
them changes its own record, the next job id and the notices alone. -/

namespace Sys2Proof.Machine

open Sys2Proof

/-- A kind of notice is pending on both ports. -/
def noticed (k : Notice) (s : State) : Prop := ∀ p, (s.port p).pending &&& k.bit = k.bit

/-- The queue, the crash slot and the trigger are kept, and no notice is lost. -/
structure Plain (s t : State) : Prop where
  queue : t.queue = s.queue
  slot : t.slot = s.slot
  due : t.attemptDue = s.attemptDue
  notice : ∀ k, noticed k s → noticed k t

theorem Plain.refl (s : State) : Plain s s := ⟨rfl, rfl, rfl, fun _ => id⟩

theorem Plain.trans {s t u : State} (h : Plain s t) (k : Plain t u) : Plain s u :=
  ⟨k.queue.trans h.queue, k.slot.trans h.slot, k.due.trans h.due, fun n hn => k.notice n (h.notice n hn)⟩

theorem pending_absorb {x b : BitVec 16} (c : BitVec 16) (h : x &&& b = b) : (x ||| c) &&& b = b := by
  ext i hi
  have bit := congrArg (fun y => y[i]) h
  simp only [BitVec.getElem_and, BitVec.getElem_or] at bit ⊢
  rw [Bool.and_or_distrib_right, bit]
  cases b[i] <;> simp

theorem pending_own (x b : BitVec 16) : (x ||| b) &&& b = b := by
  ext i hi
  simp only [BitVec.getElem_and, BitVec.getElem_or]
  cases b[i] <;> simp

section
variable {s t : State} {a : Act}

theorem noticed_raise (k : Notice) (s : State) : noticed k (raise k s) := by
  intro p
  rw [port_raise]
  exact pending_own _ _

theorem plain_raise {k : Notice} (h : Plain s t) : Plain s (raise k t) :=
  h.trans ⟨rfl, rfl, rfl, fun n hn p => by
    rw [port_raise]
    exact pending_absorb _ (hn p)⟩

theorem plain_setAct {r : ActRec} (h : Plain s t) : Plain s (t.setAct a r) :=
  h.trans ⟨by simp, by simp, by cases a <;> rfl, fun n hn p => by
    rw [port_setAct]
    exact hn p⟩

theorem plain_tookId (h : Plain s t) : Plain s t.tookId := h.trans ⟨rfl, rfl, rfl, fun _ => id⟩

theorem plain_setPosition {p : Position} (h : Plain s t) : Plain s (setPosition a p t) := by
  unfold setPosition
  split
  · exact h
  · exact plain_raise (plain_setAct h)

theorem plain_setFault {f : LockFault} (h : Plain s t) : Plain s (setFault a f t) := by
  unfold setFault
  dsimp only
  split
  · exact plain_setAct h
  · exact plain_raise (plain_setAct h)

theorem noticed_setFault {f : LockFault} (s : State) (h : f ≠ .NONE) : noticed .LATCH_FAULT (setFault a f s) := by
  rw [setFault_raised s h]
  exact noticed_raise _ _

theorem plain_resumeAs {x : Activity} (h : Plain s t) : Plain s (resumeAs a x t) := by
  unfold resumeAs
  dsimp only
  split
  · exact plain_setPosition (plain_setAct h)
  · exact plain_setAct h

theorem act_setFault (a : Act) (f : LockFault) (s : State) : (setFault a f s).act a = { s.act a with fault := f } := by
  unfold setFault
  dsimp only
  split <;> simp

/-- Nothing is queued, and the crash slot is closed and empty. -/
def bare (s : State) : Prop := s.queue = [] ∧ s.slot = CrashSlot.closed

theorem Plain.bare (h : Plain s t) (hb : Machine.bare s) : Machine.bare t := ⟨h.queue.trans hb.1, h.slot.trans hb.2⟩

theorem leaveSlot_bare (hb : bare s) (a : Act) : leaveSlot a s = s := by
  obtain ⟨-, closed⟩ := hb
  cases a with
  | child c => rfl
  | latch l =>
    unfold leaveSlot
    dsimp only
    rw [closed]
    exact congrArg (fun c => { s with slot := c }) closed.symm

theorem restActivity_bare (hb : bare s) (a : Act) : restActivity a s = .IDLE := by simp [restActivity, hb.1]

theorem meetQueued_bare (hb : s.queue = []) (a : Act) : meetQueued a s = s := by
  unfold meetQueued
  rw [show s.queuedFor a = none from by simp [State.queuedFor, hb]]

theorem sensed_of_outside_eq (h : outside t = outside s) (a : Act) : t.sensed a = s.sensed a := by
  unfold State.sensed
  rw [outside_pins h]

theorem resumed_congr {x : Activity} {r : ActRec} (h : outside t = outside s) : resumed t a x r = resumed s a x r := by
  unfold resumed
  rw [sensed_of_outside_eq h, outside_now h]

/-! ### Final failure and retry wait -/

/-- A record after an attempt for which no other follows (R20). -/
def settled (s : State) (a : Act) (f : LockFault) (r : ActRec) : ActRec :=
  resumed s a .IDLE { r with fault := f, attempts := 0 }

theorem settle_record (s : State) (a : Act) (f : LockFault) :
    Plain s (resumeAs a .IDLE (setAttempts a 0 (setFault a f s))) ∧
      (resumeAs a .IDLE (setAttempts a 0 (setFault a f s))).act a = settled s a f (s.act a) := by
  refine ⟨plain_resumeAs (plain_setAct (plain_setFault (.refl s))), ?_⟩
  have o : outside (setAttempts a 0 (setFault a f s)) = outside s := by simp
  have record : (setAttempts a 0 (setFault a f s)).act a = { s.act a with fault := f, attempts := 0 } := by
    rw [setAttempts, act_setAct_same, act_setFault]
  rw [act_resumeAs, resumed_congr o, record]
  rfl

theorem finalFailure_bare {f : LockFault} (hb : bare s) :
    finalFailure a f s = resumeAs a .IDLE (setAttempts a 0 (setFault a f s)) := by
  have plain : Plain s (setAttempts a 0 (setFault a f s)) := plain_setAct (plain_setFault (.refl s))
  have kept := plain.bare hb
  unfold finalFailure
  dsimp only
  rw [leaveSlot_bare kept, restActivity_bare kept]

/-- The ordinary retry wait of an actuator (R22). -/
def waitingRecord (s : State) (a : Act) (f : LockFault) (g : Goal) (j : Job) (r : ActRec) : ActRec :=
  { r with
    activity := .RETRY_WAIT
    invalidT := none
    wait := some ⟨⟨s.now, retryWaitSpan⟩, f, some (retryJob s.newId a g j)⟩ }

theorem enterOrdinaryWait_bare {f : LockFault} {g : Goal} {j : Job} (hb : bare s) :
    enterOrdinaryWait a f g j s = s.tookId.setAct a (waitingRecord s a f g j (s.act a)) := by
  unfold enterOrdinaryWait
  dsimp only
  rw [meetQueued_bare (by rw [setAct_queue]; exact hb.1), show s.tookId.act a = s.act a from act_congr rfl a]
  rfl

/-! ### One member -/

section
variable {st : Stroke} {m : Member} {f : LockFault} {j : Job} {g : Goal}

theorem crashOwned_bare (hb : bare s) (job : st.job ≠ none) : crashOwned st s = false := by
  obtain ⟨id, e⟩ := Option.ne_none_iff_exists'.mp job
  simp [crashOwned, e, hb.2, CrashSlot.closed]

theorem failAttempt_last (hb : bare s) (job : st.job ≠ none) (last : st.allowance ≤ (s.act m.act).attempts) :
    failAttempt st m f s = finalFailure m.act f s := by
  unfold failAttempt allowanceOf
  simp [crashOwned_bare hb job, Nat.not_lt.mpr last]

theorem failAttempt_again (hb : bare s) (job : st.job ≠ none) (again : (s.act m.act).attempts < st.allowance)
    (driving : drivingJob st m s = some j) (goal : j.goal? = some g) :
    failAttempt st m f s = enterOrdinaryWait m.act f g j s := by
  unfold failAttempt allowanceOf
  simp [crashOwned_bare hb job, again, driving, goal]

theorem plain_finalFailure (hb : bare s) : Plain s (finalFailure a f s) := by
  rw [finalFailure_bare hb]
  exact (settle_record _ _ _).1

theorem noticed_finalFailure (hb : bare s) (real : f ≠ .NONE) : noticed .LATCH_FAULT (finalFailure a f s) := by
  rw [finalFailure_bare hb]
  have later : Plain (setFault a f s) (resumeAs a .IDLE (setAttempts a 0 (setFault a f s))) :=
    plain_resumeAs (plain_setAct (.refl _))
  exact later.notice _ (noticed_setFault _ real)

theorem plain_failAttempt (hb : bare s) (job : st.job ≠ none) : Plain s (failAttempt st m f s) := by
  have owned := crashOwned_bare hb job
  unfold failAttempt
  split
  · rw [owned, if_neg (by decide)]
    split
    · split
      · rw [enterOrdinaryWait_bare hb]
        exact plain_setAct (plain_tookId (.refl s))
      · exact plain_finalFailure hb
    · exact plain_finalFailure hb
  · exact plain_finalFailure hb

theorem act_failAttempt_last (hb : bare s) (job : st.job ≠ none) (last : st.allowance ≤ (s.act m.act).attempts) :
    (failAttempt st m f s).act m.act = settled s m.act f (s.act m.act) := by
  rw [failAttempt_last hb job last, finalFailure_bare hb]
  exact (settle_record _ _ _).2

theorem act_failAttempt_again (hb : bare s) (job : st.job ≠ none) (again : (s.act m.act).attempts < st.allowance)
    (driving : drivingJob st m s = some j) (goal : j.goal? = some g) :
    (failAttempt st m f s).act m.act = waitingRecord s m.act f g j (s.act m.act) := by
  rw [failAttempt_again hb job again driving goal, enterOrdinaryWait_bare hb, act_setAct_same]

theorem verifyMember_bare (hb : bare s) (match_ : s.sensed m.act = some m.target) :
    verifyMember st s m = resumeAs m.act .IDLE (setAttempts m.act 0 (setFault m.act .NONE s)) := by
  have plain : Plain s (setAttempts m.act 0 (setFault m.act .NONE s)) := plain_setAct (plain_setFault (.refl s))
  have kept := plain.bare hb
  unfold verifyMember
  dsimp only
  rw [if_pos match_, leaveSlot_bare kept, restActivity_bare kept]

theorem plain_verifyMember (hb : bare s) (job : st.job ≠ none) : Plain s (verifyMember st s m) := by
  by_cases match_ : s.sensed m.act = some m.target
  · rw [verifyMember_bare hb match_]
    exact (settle_record _ _ _).1
  · rw [verifyMember, if_neg match_]
    exact plain_failAttempt hb job

theorem plain_overcurrentMember (hb : bare s) (job : st.job ≠ none) : Plain s (overcurrentMember st s m) :=
  have fault : Plain s (setFault m.act .OVERCURRENT s) := plain_setFault (.refl s)
  fault.trans (plain_failAttempt (fault.bare hb) job)

end

/-! ### All members -/

/-- In a fold of operations that each keep to one record, an item finds its record as it was before the fold, in a
state that the items before it have left, and the items after it leave it. -/
theorem foldl_split {α : Type} {key : α → Act} {op : State → α → State} {P : State → Prop} {xs : List α} {x : α}
    (frame : ∀ u y, ActFrame (key y) u (op u y)) (keep : ∀ u, ∀ y ∈ xs, P u → P (op u y)) (nodup : (xs.map key).Nodup)
    (hx : x ∈ xs) (hs : P s) :
    ∃ u A B, P u ∧ ActsFrame A s u ∧ key x ∉ A ∧ ActsFrame B (op u x) (xs.foldl op s) ∧ key x ∉ B := by
  obtain ⟨before, after, rfl⟩ := List.append_of_mem hx
  simp only [List.map_append, List.map_cons, List.nodup_append, List.nodup_cons] at nodup
  obtain ⟨-, ⟨later, -⟩, apart⟩ := nodup
  have reach : ∀ ys : List α, (∀ y ∈ ys, y ∈ before) → ∀ u, P u → P (ys.foldl op u) := by
    intro ys
    induction ys with
    | nil => exact fun _ _ h => h
    | cons y ys ih =>
      exact fun sub u h => ih (fun z hz => sub z (List.mem_cons_of_mem _ hz)) _
        (keep u y (List.mem_append_left _ (sub y List.mem_cons_self)) h)
  refine ⟨before.foldl op s, before.map key, after.map key, reach before (fun _ => id) s hs,
    ActsFrame.foldl frame before s, fun k => apart _ k _ List.mem_cons_self rfl, ?_, later⟩
  rw [List.foldl_append, List.foldl_cons]
  exact ActsFrame.foldl frame after _

theorem foldl_at {α : Type} {key : α → Act} {op : State → α → State} {P : State → Prop} {xs : List α} {x : α}
    (frame : ∀ u y, ActFrame (key y) u (op u y)) (keep : ∀ u, ∀ y ∈ xs, P u → P (op u y)) (nodup : (xs.map key).Nodup)
    (hx : x ∈ xs) (hs : P s) :
    ∃ u, P u ∧ outside u = outside s ∧ u.admitted = s.admitted ∧ u.act (key x) = s.act (key x) ∧
      (xs.foldl op s).act (key x) = (op u x).act (key x) := by
  obtain ⟨u, A, B, hu, first, out, second, later⟩ := foldl_split frame keep nodup hx hs
  exact ⟨u, hu, first.outside, first.admitted, first.act _ out, second.act _ later⟩

theorem plain_foldl {α : Type} {op : State → α → State} (xs : List α) (keep : ∀ u, ∀ y ∈ xs, bare u → Plain u (op u y))
    (hs : bare s) : Plain s (xs.foldl op s) := by
  induction xs generalizing s with
  | nil => exact .refl s
  | cons x xs ih =>
    have first := keep s x List.mem_cons_self hs
    exact first.trans (ih (fun u y hy => keep u y (List.mem_cons_of_mem _ hy)) (first.bare hs))

/-! ### STROKE_END -/

theorem plain_removeStroke (st : Stroke) (s : State) : Plain s (removeStroke st s) := ⟨rfl, rfl, rfl, fun _ h => h⟩

theorem bare_closed (hb : bare s) : s.slot.isOpen = false := by
  rw [hb.2]
  rfl

theorem storeSteady_of_outside (o : outside t = outside s) (store : storeSteady s) : storeSteady t := by
  unfold storeSteady at store ⊢
  rwa [nextCommit_congr (outside_fobs o), nextProfile_congr (outside_writer o), outside_writer o]

/-- What keeps the queue, the slot and the trigger of a state with nothing left over leaves nothing over. -/
theorem Plain.calm (h : Plain s t) (o : outside t = outside s) (closed : s.slot.isOpen = false) (hc : Machine.calm s) :
    Machine.calm t := by
  obtain ⟨due, -, store⟩ := hc
  refine ⟨h.due.trans due, fun k => ?_, storeSteady_of_outside o store⟩
  rw [h.slot, closed] at k
  cases k

theorem calm_dropAdmitted (id : Nat) (hc : calm s) : calm (dropAdmitted id s) := calm_congr rfl rfl rfl rfl rfl hc

/-- The end of the only stroke of all takes up its members and removes its job (R32). -/
theorem strokeEnd_alone {st : Stroke} {id : Nat} (ho : operating s) (hc : calm s) (alone : s.strokes = [st])
    (job : st.job = some id) (due : timerDue s.now ⟨st.started.time, st.duration⟩ = true) (hb : bare s) :
    exec (.strokeEnd (some id) st.group) s =
      .next (dropAdmitted id (st.members.foldl (verifyMember st) (removeStroke st s))) := by
  have named : s.strokeNamed (some id) st.group = some st := by simp [State.strokeNamed, alone, job]
  have begun := plain_removeStroke st s
  have taken : Plain s (st.members.foldl (verifyMember st) (removeStroke st s)) :=
    begun.trans (plain_foldl _ (fun _ _ _ h => plain_verifyMember h (by rw [job]; nofun)) (begun.bare hb))
  have members := ActsFrame.foldl (op := verifyMember st) (fun _ _ => actFrame_verifyMember (.refl _ _)) st.members
    (removeStroke st s)
  have ended : settleJob st.job (st.members.foldl (verifyMember st) (removeStroke st s)) =
      dropAdmitted id (st.members.foldl (verifyMember st) (removeStroke st s)) := by
    have none : (st.members.foldl (verifyMember st) (removeStroke st s)).strokes = [] := by
      rw [members.strokes]
      simp [removeStroke, alone]
    rw [job]
    unfold settleJob
    dsimp only
    rw [none]
    rfl
  have calm' := calm_dropAdmitted id (taken.calm members.outside (bare_closed hb) hc)
  show Host.Outcome.next _ = _
  rw [expiry_due (t := strokeTimer st) ho (by rw [named]; rfl) due, strokeEndWork, named]
  dsimp only [endStroke]
  rw [ended]
  generalize List.foldl (verifyMember st) (removeStroke st s) st.members = u at taken calm' ⊢
  have shut : u.slot.isOpen = false := by rw [taken.slot]; exact bare_closed hb
  rw [finish_trigger_empty (s := dropAdmitted id u) (taken.queue.trans hb.1) shut calm']

theorem bare_of_slot (queue : s.queue = []) (closed : s.slot.isOpen = false) (pending : s.slot.pending = [])
    (stroking : s.slot.stroking = []) (waiting : s.slot.waiting = []) : bare s := by
  refine ⟨queue, ?_⟩
  cases e : s.slot
  simp_all [CrashSlot.closed]

/-- Settles O17. -/
theorem strokeEndVerifiesItsMembers : Obligations.StrokeEndVerifiesItsMembers := by
  intro st id s ho hc alone job nodup due sensed queue closed pending stroking waiting
  have hb := bare_of_slot queue closed pending stroking waiting
  have begun := plain_removeStroke st s
  have named : st.job ≠ none := by rw [job]; nofun
  have plain := begun.trans (plain_foldl st.members (fun _ m _ h => plain_verifyMember (m := m) h named) (begun.bare hb))
  have members := ActsFrame.foldl (op := verifyMember st) (fun _ _ => actFrame_verifyMember (.refl _ _)) st.members
    (removeStroke st s)
  refine ⟨_, strokeEnd_alone ho hc alone job due hb, ?_⟩
  have o : outside (dropAdmitted id (st.members.foldl (verifyMember st) (removeStroke st s))) = outside s := members.outside
  refine ⟨?_, members.units, ?_, fun m hm => ?_, fun a ha => ?_, members.windows, plain.queue.trans queue, plain.slot,
    outside_fobs o, outside_search o, outside_crash o, outside_hold o, outside_relock o, outside_entry o, outside_now o,
    fun p => ⟨outside_slot o p, outside_mask o p⟩⟩
  · exact members.strokes.trans (by simp [removeStroke, alone])
  · exact congrArg (List.filter _) members.admitted
  · obtain ⟨u, hu, same, -, record, found⟩ := foldl_at (P := bare) (op := verifyMember st)
      (fun _ _ => actFrame_verifyMember (.refl _ _)) (fun _ _ _ h => (plain_verifyMember h named).bare h) nodup hm (begun.bare hb)
    have seen : u.sensed m.act = some m.target := (sensed_of_outside_eq same m.act).trans (sensed m hm)
    have own := (settle_record u m.act .NONE).2
    rw [← verifyMember_bare hu seen] at own
    have before : (removeStroke st s).act m.act = s.act m.act := act_congr rfl _
    refine (found.trans own).trans ?_
    rw [record, before]
    simp [settled, resumed, seen, invalidTimer]
  · exact members.act a (by simpa using ha)

/-- Settles O18. -/
theorem strokeEndMissedWaitsOrFails : Obligations.StrokeEndMissedWaitsOrFails := by
  intro a m st j g s ho hc alone job single act admitted goal target due missed queue closed pending stroking waiting
  subst act
  have hb := bare_of_slot queue closed pending stroking waiting
  have begun := plain_removeStroke st s
  have named : st.job ≠ none := by rw [job]; nofun
  have one := strokeEnd_alone ho hc alone job due hb
  rw [single] at one
  have failed : List.foldl (verifyMember st) (removeStroke st s) [m] = failAttempt st m .NO_MOVE (removeStroke st s) :=
    if_neg missed
  rw [failed] at one
  have frame := actFrame_failAttempt (st := st) (f := .NO_MOVE) (.refl [m.act] (removeStroke st s))
  have plain := begun.trans (plain_failAttempt (m := m) (f := .NO_MOVE) (begun.bare hb) named)
  have none : (failAttempt st m .NO_MOVE (removeStroke st s)).strokes = [] := frame.strokes.trans (by simp [removeStroke, alone])
  have gone : (dropAdmitted j.id (failAttempt st m .NO_MOVE (removeStroke st s))).admitted = [] := by
    show List.filter _ _ = _
    rw [frame.admitted, show (removeStroke st s).admitted = [j] from admitted]
    simp
  have before : (removeStroke st s).act m.act = s.act m.act := act_congr rfl _
  have driving : drivingJob st m (removeStroke st s) = some j := by
    simp [drivingJob, job, removeStroke, admitted, Job.carries, goal, target]
  refine ⟨fun again => ⟨_, one, ?_, none, gone, plain.queue.trans queue, frame.units, ?_, ?_, frame.windows⟩,
    fun last => ⟨_, one, ?_, none, gone, plain.queue.trans queue, frame.units, ?_, frame.windows, ?_⟩⟩
  · exact (act_failAttempt_again (begun.bare hb) named (by rw [before]; exact again) driving goal).trans (by rw [before]; rfl)
  · show (failAttempt st m .NO_MOVE (removeStroke st s)).nextId = _
    rw [failAttempt_again (begun.bare hb) named (by rw [before]; exact again) driving goal, enterOrdinaryWait_bare (begun.bare hb)]
    simp [State.tookId]
    rfl
  · exact fun b hb => (frame.act b (by simpa using hb)).trans (act_congr rfl b)
  · exact (act_failAttempt_last (begun.bare hb) named (by rw [before]; exact last)).trans (by rw [before]; rfl)
  · exact fun b hb => (frame.act b (by simpa using hb)).trans (act_congr rfl b)
  · show noticed .LATCH_FAULT (failAttempt st m .NO_MOVE (removeStroke st s))
    rw [failAttempt_last (begun.bare hb) named (by rw [before]; exact last)]
    exact noticed_finalFailure (begun.bare hb) (by decide)

end

end Sys2Proof.Machine

/-! ## The overcurrent of a group (R21, R34) -/

namespace Sys2Proof.Machine

open Sys2Proof

section
variable {s t : State} {a : Act} {cut : List Stroke} {g : Group}

theorem settleJob_eq (job : Option Nat) (s : State) :
    settleJob job s = { s with admitted := s.admitted.filter (fun j =>
      decide (job ≠ some j.id) || s.strokes.any (fun st => st.job = some j.id)) } := by
  cases job with
  | none => simp [settleJob]
  | some id =>
    unfold settleJob
    dsimp only
    split
    · rename_i runs
      have all : s.admitted.filter (fun j => decide (some id ≠ some j.id) || s.strokes.any (fun st => st.job = some j.id)) =
          s.admitted := by
        refine List.filter_eq_self.mpr (fun j _ => ?_)
        by_cases e : id = j.id
        · rw [← e, runs, Bool.or_true]
        · simp [e]
      rw [all]
    · rename_i ended
      refine congrArg (fun l => { s with admitted := l }) (List.filter_congr (fun j _ => ?_))
      by_cases e : id = j.id
      · subst e
        simpa using ended
      · simp [e, Ne.symm e]

/-- The jobs of strokes that are gone go with the last of them (R100). -/
theorem settleJobs_eq (cut : List Stroke) (s : State) :
    cut.foldl (fun t st => settleJob st.job t) s = { s with admitted := s.admitted.filter (fun j =>
      cut.all (fun st => st.job ≠ some j.id) || s.strokes.any (fun st => st.job = some j.id)) } := by
  induction cut generalizing s with
  | nil => simp
  | cons st cut ih =>
    rw [List.foldl_cons, ih, settleJob_eq]
    dsimp only
    rw [List.filter_filter]
    refine congrArg (fun l => { s with admitted := l }) (List.filter_congr (fun j _ => ?_))
    rw [List.all_cons, Bool.or_and_distrib_right, Bool.and_comm]

/-- Strokes that go take nothing else with them. -/
theorem removeStrokes_frame (cut : List Stroke) (s : State) :
    cut.foldl (fun t st => removeStroke st t) s = { s with
      strokes := s.strokes.diff cut
      units := s.units - (cut.map (·.units)).sum } := by
  induction cut generalizing s with
  | nil => rfl
  | cons st cut ih =>
    rw [List.foldl_cons, ih]
    simp [removeStroke, Nat.sub_sub, List.diff_cons]

/-- The members of the cut strokes, each with its stroke. -/
def cutMembers (cut : List Stroke) : List (Stroke × Member) := cut.flatMap (fun st => st.members.map (fun m => (st, m)))

theorem mem_cutMembers {st : Stroke} {m : Member} : (st, m) ∈ cutMembers cut ↔ st ∈ cut ∧ m ∈ st.members := by
  simp [cutMembers]

theorem cutMembers_acts (cut : List Stroke) :
    (cutMembers cut).map (fun x => x.2.act) = (cut.flatMap (·.members)).map (·.act) := by
  simp [cutMembers, List.map_flatMap, Function.comp_def]

def failCut (s : State) (x : Stroke × Member) : State := overcurrentMember x.1 s x.2

theorem overcurrentStrokes_eq (cut : List Stroke) (s : State) :
    cut.foldl (fun t st => st.members.foldl (overcurrentMember st) t) s = (cutMembers cut).foldl failCut s := by
  rw [cutMembers, List.foldl_flatMap]
  simp only [List.foldl_map]
  rfl

theorem failCut_frame (s : State) (x : Stroke × Member) : ActFrame x.2.act s (failCut s x) :=
  actFrame_overcurrentMember (.refl _ _)

/-- The state in which the members of the cut strokes are taken up. -/
def cutBase (cut : List Stroke) (s : State) : State := { s with
  strokes := s.strokes.diff cut
  units := s.units - (cut.map (·.units)).sum }

/-- The state after the cut, whose jobs with no stroke left are gone. -/
def cutDone (cut : List Stroke) (s : State) : State :=
  let t := (cutMembers cut).foldl failCut (cutBase cut s)
  { t with admitted := t.admitted.filter (fun j =>
      cut.all (fun st => st.job ≠ some j.id) || t.strokes.any (fun st => st.job = some j.id)) }

theorem cutGroup_eq (some : s.strokes.filter (fun st => st.group = g) ≠ []) :
    cutGroup g s = trigger (cutDone (s.strokes.filter (fun st => st.group = g)) s) := by
  unfold cutGroup
  dsimp only
  rw [if_neg (by simpa using some), settleJobs_eq, overcurrentStrokes_eq, removeStrokes_frame]
  rfl

/-! ### Members of ordinary strokes -/

theorem cutDone_frame (cut : List Stroke) (s : State) :
    ActsFrame ((cut.flatMap (·.members)).map (·.act)) (cutBase cut s) ((cutMembers cut).foldl failCut (cutBase cut s)) := by
  rw [← cutMembers_acts]
  exact ActsFrame.foldl failCut_frame (cutMembers cut) (cutBase cut s)

theorem outside_cutDone (cut : List Stroke) (s : State) : outside (cutDone cut s) = outside s := (cutDone_frame cut s).outside

theorem act_cutDone (cut : List Stroke) (s : State) (a : Act) :
    (cutDone cut s).act a = ((cutMembers cut).foldl failCut (cutBase cut s)).act a := act_congr rfl a

theorem act_cutDone_other (out : ∀ m ∈ cut.flatMap (·.members), m.act ≠ a) : (cutDone cut s).act a = s.act a := by
  rw [act_cutDone, (cutDone_frame cut s).act a (by simpa using out)]
  exact act_congr rfl a

theorem plain_cutBase (cut : List Stroke) (s : State) : Plain s (cutBase cut s) := ⟨rfl, rfl, rfl, fun _ h => h⟩

theorem plain_failCut {x : Stroke × Member} (hb : bare s) (job : x.1.job ≠ none) : Plain s (failCut s x) :=
  plain_overcurrentMember hb job

theorem plain_cutDone (hb : bare s) (jobs : ∀ st ∈ cut, st.job ≠ none) : Plain s (cutDone cut s) := by
  have begun := plain_cutBase cut s
  have members := plain_foldl (cutMembers cut) (op := failCut)
    (fun u x hx h => plain_failCut h (jobs x.1 (mem_cutMembers.mp hx).1)) (begun.bare hb)
  exact (begun.trans members).trans ⟨rfl, rfl, rfl, fun _ h => h⟩

/-- A member of a cut stroke finds its record as it was, with the fault, in a state where nothing is queued. -/
theorem cutDone_at {st : Stroke} {m : Member} (hb : bare s) (jobs : ∀ st ∈ cut, st.job ≠ none)
    (nodup : ((cut.flatMap (·.members)).map (·.act)).Nodup) (hst : st ∈ cut) (hm : m ∈ st.members) :
    ∃ u, bare u ∧ outside u = outside s ∧ u.admitted = s.admitted ∧
      u.act m.act = { s.act m.act with fault := .OVERCURRENT } ∧
      (cutDone cut s).act m.act = (failAttempt st m .OVERCURRENT u).act m.act := by
  rw [← cutMembers_acts] at nodup
  obtain ⟨u, hu, out, admitted, record, found⟩ := foldl_at (P := bare) failCut_frame
    (fun u x hx h => (plain_failCut h (jobs x.1 (mem_cutMembers.mp hx).1)).bare h) nodup (mem_cutMembers.mpr ⟨hst, hm⟩)
    ((plain_cutBase cut s).bare hb)
  have fault : Plain u (setFault m.act .OVERCURRENT u) := plain_setFault (.refl u)
  refine ⟨setFault m.act .OVERCURRENT u, fault.bare hu, (outside_setFault _ _ u).trans out, ?_, ?_, ?_⟩
  · rw [(actFrame_setFault (.refl [m.act] u)).admitted, admitted]
    rfl
  · rw [act_setFault, show u.act m.act = s.act m.act from record.trans (act_congr rfl _)]
  · rw [act_cutDone]
    exact found

theorem noticed_failCut {x : Stroke × Member} (hb : bare s) (job : x.1.job ≠ none) : noticed .LATCH_FAULT (failCut s x) := by
  have fault : Plain s (setFault x.2.act .OVERCURRENT s) := plain_setFault (.refl s)
  exact (plain_failAttempt (fault.bare hb) job).notice _ (noticed_setFault _ (by decide))

theorem noticed_cutDone (hb : bare s) (jobs : ∀ st ∈ cut, st.job ≠ none) (some : cut.flatMap (·.members) ≠ []) :
    noticed .LATCH_FAULT (cutDone cut s) := by
  have keep : ∀ u, ∀ x ∈ cutMembers cut, bare u → Plain u (failCut u x) :=
    fun u x hx h => plain_failCut h (jobs x.1 (mem_cutMembers.mp hx).1)
  have begun := (plain_cutBase cut s).bare hb
  have ne : cutMembers cut ≠ [] := by
    intro none
    have acts := cutMembers_acts cut
    rw [none, List.map_nil] at acts
    exact some (List.map_eq_nil_iff.mp acts.symm)
  show noticed .LATCH_FAULT ((cutMembers cut).foldl failCut (cutBase cut s))
  cases e : cutMembers cut with
  | nil => exact absurd e ne
  | cons x xs =>
    rw [e] at keep
    have first := keep _ x List.mem_cons_self begun
    have rest := plain_foldl xs (op := failCut) (fun u y hy => keep u y (List.mem_cons_of_mem _ hy)) (first.bare begun)
    exact rest.notice _ (noticed_failCut begun (jobs x.1 (mem_cutMembers.mp (e ▸ List.mem_cons_self)).1))

end

section
variable {s : State} {g : Group}

/-- The line has become active. -/
def overloaded (g : Group) (s : State) : State := { s with pins := setOvercurrent g true s.pins }

theorem act_overloaded (g : Group) (s : State) (a : Act) : (overloaded g s).act a = s.act a := act_congr rfl a

theorem exec_groupOvercurrent (ho : operating s) (off : overcurrentLine s.pins g = false) :
    exec (.groupOvercurrent g true) s =
      .next (finish (cutGroup g (overloaded g s))) := by
  show Host.Outcome.next _ = _
  rw [lineEvent_changed (by rw [off]; rfl), event_operating (operating_pins ho _)]
  rfl

theorem setOvercurrent_off (off : overcurrentLine s.pins g = false) :
    setOvercurrent g false (setOvercurrent g true s.pins) = s.pins := by
  cases g with
  | DOOR => exact congrArg (fun b => { s.pins with ocDoor := b }) off.symm
  | TAIL => exact congrArg (fun b => { s.pins with ocTail := b }) off.symm

theorem sensed_setOvercurrent (g : Group) (b : Bool) (s : State) (a : Act) :
    ({ s with pins := setOvercurrent g b s.pins } : State).sensed a = s.sensed a :=
  sensed_congr (by cases g <;> rfl) (by cases g <;> rfl) (by cases g <;> rfl) a

/-! ### Members of a crash stroke -/

/-- The queue and the trigger are kept where nothing is queued. -/
def hushed (s t : State) : Prop := s.queue = [] → t.queue = [] ∧ t.attemptDue = s.attemptDue

theorem hushed_of_eq {t : State} (q : t.queue = s.queue) (d : t.attemptDue = s.attemptDue) : hushed s t :=
  fun none => ⟨q.trans none, d⟩

theorem hushed_trans {t u : State} (h : hushed s t) (k : hushed t u) : hushed s u := fun none =>
  ⟨(k (h none).1).1, (k (h none).1).2.trans (h none).2⟩

theorem hushed_of_plain {t : State} (h : Plain s t) : hushed s t := hushed_of_eq h.queue h.due

theorem enterCrashWait_eq {a : Act} {f : LockFault} (none : s.queue = []) :
    enterCrashWait a f s = joinWaiting a (s.setAct a { s.act a with
      activity := .RETRY_WAIT
      invalidT := Option.none
      wait := some ⟨⟨s.now, crashWaitSpan⟩, f, Option.none⟩ }) := by
  unfold enterCrashWait
  dsimp only
  rw [meetQueued_bare]
  · rfl
  · cases a <;> exact none

theorem failAttempt_crash {st : Stroke} {m : Member} {f : LockFault} (job : st.job = none) :
    failAttempt st m f s = if (s.act m.act).attempts < 3 then enterCrashWait m.act f s else finalFailure m.act f s := by
  have owned : crashOwned st s = true := by simp [crashOwned, job]
  unfold failAttempt allowanceOf
  simp [owned]

theorem hushed_joinWaiting (a : Act) (s : State) : hushed s (joinWaiting a s) := by
  cases a <;> exact hushed_of_eq rfl rfl

theorem hushed_leaveSlot (a : Act) (s : State) : hushed s (leaveSlot a s) := by
  cases a <;> exact hushed_of_eq rfl rfl

theorem hushed_failCut {x : Stroke × Member} (job : x.1.job = none) : hushed s (failCut s x) := by
  have fault : Plain s (setFault x.2.act .OVERCURRENT s) := plain_setFault (.refl s)
  refine hushed_trans (hushed_of_plain fault) ?_
  rw [failCut, overcurrentMember, failAttempt_crash job]
  split
  · intro none
    rw [enterCrashWait_eq none]
    exact hushed_trans (hushed_of_plain (plain_setAct (.refl _))) (hushed_joinWaiting _ _) none
  · unfold finalFailure
    dsimp only
    exact hushed_trans (hushed_trans (hushed_of_plain (plain_setAct (plain_setFault (.refl _)))) (hushed_leaveSlot _ _))
      (hushed_of_plain (plain_resumeAs (.refl _)))

/-- The crash retry wait of a latch (R22). -/
def crashWaiting (s : State) (r : ActRec) : ActRec :=
  { r with
    activity := .RETRY_WAIT
    fault := .OVERCURRENT
    invalidT := none
    wait := some ⟨⟨s.now, crashWaitSpan⟩, .OVERCURRENT, none⟩ }

theorem failCut_crash {st : Stroke} {m : Member} {l : Latch} (job : st.job = none) (none : s.queue = []) (latch : m.act = .latch l)
    (again : (s.act m.act).attempts < 3) :
    (failCut s (st, m)).act m.act = crashWaiting s (s.act m.act) ∧ l ∈ (failCut s (st, m)).slot.waiting ∧
      l ∉ (failCut s (st, m)).slot.stroking := by
  have fault : Plain s (setFault m.act .OVERCURRENT s) := plain_setFault (.refl s)
  have still : ((setFault m.act .OVERCURRENT s).act m.act).attempts < 3 := by
    rw [act_setFault]
    exact again
  have entered : failCut s (st, m) = enterCrashWait m.act .OVERCURRENT (setFault m.act .OVERCURRENT s) :=
    (failAttempt_crash job).trans (if_pos still)
  rw [entered, enterCrashWait_eq (fault.queue.trans none), act_setFault, latch]
  refine ⟨?_, mem_addLatch.mpr (.inl rfl), fun k => (mem_dropLatch.mp k).2 rfl⟩
  rw [act_joinWaiting, act_setAct_same, outside_now (outside_setFault _ _ s)]
  rfl

/-- An open slot with nothing pending has nothing to serve (R109). -/
theorem serveSlot_idle (none : s.slot.pending = []) : serveSlot s = s := by
  have kept : ∀ ls : List Latch, ls.foldl (fun t l => dropPending l t) s = s := by
    intro ls
    induction ls with
    | nil => rfl
    | cons l ls ih =>
      have same : dropPending l s = s := if_neg (by simp [none])
      rw [List.foldl_cons, same, ih]
  have group : ∀ grp, serveGroup grp s = s := fun grp => if_pos (by simp [none])
  unfold serveSlot
  dsimp only
  rw [kept, group, group]

theorem finish_trigger_waiting (isOpen : s.slot.isOpen = true) (none : s.slot.pending = []) (waits : s.slot.waiting ≠ [])
    (due : s.attemptDue = false) (store : storeSteady s) : finish (trigger s) = s := by
  have busy : s.slotDone = false := by simp [State.slotDone, waits]
  have again : (trigger s).slotDone = false := (slotDone_congr rfl rfl).trans busy
  have first : closeDue (trigger s) = trigger s := if_neg (by simp [again])
  have served : attempt s = s := by
    unfold attempt
    dsimp only
    rw [if_pos isOpen, serveSlot_idle none, busy]
    rfl
  rw [finish, settle, first, settleFuel, if_pos (show (trigger s).attemptDue = true from rfl), takeTriggers_trigger due, served, settleFuel_still _ due,
    pump_steady store]

theorem calm_setPins (hc : calm s) (p : Pins) : calm { s with pins := p } := calm_congr rfl rfl rfl rfl rfl hc

/-- A cut whose jobs are ordinary leaves nothing over but an attempt, which finds nothing queued. -/
theorem exec_cut_ordinary (ho : operating s) (hc : calm s) (off : overcurrentLine s.pins g = false)
    (some : s.strokes.filter (fun st => st.group = g) ≠ []) (jobs : ∀ st ∈ s.strokes.filter (fun st => st.group = g), st.job ≠ none)
    (hb : bare s) :
    exec (.groupOvercurrent g true) s = .next (cutDone (s.strokes.filter (fun st => st.group = g)) (overloaded g s)) := by
  have plain := plain_cutDone (s := overloaded g s) hb jobs
  have after := plain.calm (outside_cutDone _ _) (bare_closed hb) (calm_setPins hc _)
  have done := plain.bare hb
  rw [exec_groupOvercurrent ho off, cutGroup_eq (s := overloaded g s) some]
  exact congrArg _ (finish_trigger_empty done.1 (bare_closed done) after)

theorem strokes_cutDone (g : Group) (s : State) :
    (cutDone (s.strokes.filter (fun st => st.group = g)) s).strokes = s.strokes.filter (fun st => st.group ≠ g) := by
  refine (cutDone_frame _ _).strokes.trans ?_
  show s.strokes.diff _ = _
  rw [diff_filter]
  exact List.filter_congr (fun st _ => by simp)

/-- The latches of a crash stroke that is cut wait in the slot (R22, R110). -/
theorem cutDone_crash {st : Stroke} {ls : List Latch} (job : st.job = none) (members : st.members.map (·.act) = ls.map Act.latch)
    (nodup : ls.Nodup) (young : ∀ l ∈ ls, (s.act (.latch l)).attempts < 3) (none : s.queue = []) :
    (cutDone [st] s).queue = [] ∧ (cutDone [st] s).attemptDue = s.attemptDue ∧ ∀ l ∈ ls,
      l ∈ (cutDone [st] s).slot.waiting ∧ l ∉ (cutDone [st] s).slot.stroking ∧
      (cutDone [st] s).act (.latch l) = crashWaiting s (s.act (.latch l)) := by
  have owned : ∀ x ∈ cutMembers [st], x.1.job = Option.none := by
    intro x hx
    rw [List.mem_singleton.mp (mem_cutMembers.mp hx).1, job]
  have keep : ∀ u, ∀ x ∈ cutMembers [st], u.queue = [] ∧ u.attemptDue = s.attemptDue →
      (failCut u x).queue = [] ∧ (failCut u x).attemptDue = s.attemptDue := by
    intro u x hx hu
    obtain ⟨queue, due⟩ := hushed_failCut (owned x hx) hu.1
    exact ⟨queue, due.trans hu.2⟩
  have acts : (cutMembers [st]).map (fun x => x.2.act) = ls.map Act.latch := by
    rw [cutMembers_acts, ← members]
    simp
  have start : (cutBase [st] s).queue = [] ∧ (cutBase [st] s).attemptDue = s.attemptDue := ⟨none, rfl⟩
  have whole := List.foldlRecOn (cutMembers [st]) failCut start (fun u hu x hx => keep u x hx hu)
  refine ⟨whole.1, whole.2, fun l hl => ?_⟩
  obtain ⟨m, hm, latch⟩ : ∃ m ∈ st.members, m.act = .latch l := List.mem_map.mp (members ▸ List.mem_map_of_mem hl)
  obtain ⟨u, A, B, hu, first, before, second, after⟩ := foldl_split (key := fun x : Stroke × Member => x.2.act)
    failCut_frame keep (acts ▸ nodup.map (fun _ _ e => Act.latch.inj e)) (mem_cutMembers.mpr ⟨List.mem_singleton_self st, hm⟩) start
  have record : u.act m.act = s.act (.latch l) := by
    rw [first.act _ before, ← latch]
    exact act_congr rfl _
  obtain ⟨own, waits, left⟩ := failCut_crash job hu.1 latch (by rw [record]; exact young l hl)
  simp only [latch] at after own record
  refine ⟨(second.waiting l after).mpr waits, fun k => left ((second.stroking l after).mp k), ?_⟩
  rw [act_cutDone, second.act _ after, own, record, crashWaiting, outside_now first.outside]
  rfl

/-- Settles O20, by the slot: closed, its members wait with reserved jobs or fail; open, they wait in it. -/
theorem groupOvercurrentCutsItsGroup : Obligations.GroupOvercurrentCutsItsGroup := by
  intro g ls s ho hc off
  dsimp only
  have row := exec_groupOvercurrent ho off
  have seen : ∀ a, (overloaded g s).sensed a = s.sensed a := sensed_setOvercurrent g true s
  have out := outside_cutDone (s.strokes.filter (fun st => st.group = g)) (overloaded g s)
  have frame := cutDone_frame (s.strokes.filter (fun st => st.group = g)) (overloaded g s)
  have strokes := strokes_cutDone g (overloaded g s)
  refine ⟨fun none => ?_, fun some nodup jobs queue slot => ?_, fun some nodup job members young queue isOpen pending => ?_, ?_⟩
  · have same : cutGroup g (overloaded g s) = overloaded g s := if_pos (by rw [show (overloaded g s).strokes = s.strokes from rfl, none]; rfl)
    rw [row, same, finish_calm (s := overloaded g s) (calm_setPins hc _)]
    rfl
  · have hb : bare (overloaded g s) := ⟨queue, slot⟩
    have plain := plain_cutDone hb jobs
    refine ⟨_, exec_cut_ordinary ho hc off some jobs ⟨queue, slot⟩, strokes, frame.units, ?_, fun st hst m hm => ⟨fun last => ?_,
      fun again j driving h goal => ?_⟩, fun a other => ?_, plain.queue.trans queue, plain.slot, frame.windows, (outside_fobs out :),
      (outside_search out :), (outside_crash out :), (outside_hold out :), fun full => ?_⟩
    · show List.filter _ _ = _
      rw [frame.admitted, frame.strokes, show (cutBase _ _).strokes = _ from frame.strokes.symm.trans strokes]
      rfl
    · obtain ⟨u, hu, same, -, record, found⟩ := cutDone_at hb jobs nodup hst hm
      rw [found, act_failAttempt_last hu (jobs st hst) (by rw [record, act_overloaded]; exact last), record, settled,
        resumed_congr same, act_overloaded, resumed, seen]
      rfl
    · obtain ⟨u, hu, same, admitted, record, found⟩ := cutDone_at hb jobs nodup hst hm
      have drives : drivingJob st m u = Option.some j := by
        rw [← driving]
        unfold drivingJob
        rw [admitted]
        rfl
      refine ⟨u.newId, ?_⟩
      rw [found, act_failAttempt_again hu (jobs st hst) (by rw [record, act_overloaded]; exact again) drives goal, record,
        act_overloaded, waitingRecord, outside_now same]
      rfl
    · exact (act_cutDone_other other).trans (act_overloaded g s a)
    · exact noticed_cutDone hb jobs full
  · obtain ⟨st, single, none⟩ := List.map_eq_singleton_iff.mp job
    have waits := cutDone_crash (s := overloaded g s) none (by rw [← members, single]; simp) nodup young queue
    have cuts : (overloaded g s).strokes.filter (fun st => st.group = g) = [st] := single
    rw [single] at out frame
    rw [cuts] at strokes
    rw [single]
    obtain ⟨l, hl⟩ := List.exists_mem_of_ne_nil ls some
    have idle : (cutDone [st] (overloaded g s)).slot.pending = [] :=
      List.eq_nil_iff_forall_not_mem.mpr (fun k hk => by
        have old : k ∈ s.slot.pending := frame.fewer k hk
        rw [pending] at old
        cases old)
    have isOpen' : (cutDone [st] (overloaded g s)).slot.isOpen = true := frame.isOpen.trans isOpen
    refine ⟨cutDone [st] (overloaded g s), ?_, strokes, isOpen', frame.units, ?_, ?_, frame.windows⟩
    · rw [row, cutGroup_eq (by rw [cuts]; nofun), cuts]
      have store := storeSteady_of_outside out (calm_setPins hc (setOvercurrent g true s.pins)).2.2
      exact congrArg _ (finish_trigger_waiting isOpen' idle (List.ne_nil_of_mem (waits.2.2 l hl).1) (waits.2.1.trans hc.1) store)
    · intro k hk
      obtain ⟨inside, left, record⟩ := waits.2.2 k hk
      rw [act_overloaded] at record
      exact ⟨inside, left, record⟩
    · exact fun a other => (act_cutDone_other (by simpa using other)).trans (act_overloaded g s a)
  · have still : ({ s with pins := setOvercurrent g false (setOvercurrent g true s.pins) } : State) = s := by
      rw [setOvercurrent_off off]
    show Host.Outcome.next _ = _
    rw [lineEvent_changed (by cases g <;> rfl), event_operating (operating_pins (operating_pins ho _) _)]
    exact congrArg _ ((congrArg finish still).trans (finish_calm hc))

end

end Sys2Proof.Machine

/-! ## One job that is admitted at once (R9, R28 to R31, R96 to R98, R100)

The attempt that follows a request finds its job alone in the queue, with no stroke running, and admits it. -/

namespace Sys2Proof.Machine

open Sys2Proof

section
variable {s t : State} {j : Job} {g : Goal} {as rem : List Act} {a : Act}

/-! ### What the operations of an admission keep -/

theorem plain_dropAct (h : Plain s t) : Plain s (dropAct a t) := by
  rw [dropAct_eq]
  exact plain_setAct h

theorem plain_beginMember (h : Plain s t) : Plain s (beginMember a t) := plain_setAct h

theorem plain_fold {α : Type} {op : State → α → State} (step : ∀ u x, Plain u (op u x)) (xs : List α) (s : State) :
    Plain s (xs.foldl op s) := by
  induction xs generalizing s with
  | nil => exact .refl s
  | cons x xs ih => exact (step s x).trans (ih _)

theorem plain_startStroke {job : Option Nat} {grp : Group} {n : Nat} (as : List Act) (s : State) :
    Plain s (startStroke job grp g n as s) := by
  rcases eq_or_ne as [] with rfl | some
  · exact .refl s
  · rw [startStroke_cons s some]
    have with_ : Plain s (withStroke (strokeRecord job grp g n as s) s) := ⟨rfl, rfl, rfl, fun _ h => h⟩
    exact with_.trans (plain_fold (fun _ _ => plain_beginMember (.refl _)) as _)

/-- A record whose actuator begins a stroke (R20, R24). -/
def begun (s : State) (r : ActRec) : ActRec :=
  { r with
    activity := .STROKING
    attempts := min 3 (r.attempts + 1)
    strokes := min strokeLimit (r.strokes + 1)
    decay := if r.strokes = 0 then some (s.timer decaySpan) else r.decay
    invalidT := none
    wait := none }

theorem begun_congr (h : outside t = outside s) (r : ActRec) : begun t r = begun s r := by
  simp [begun, State.timer, outside_now h]

theorem act_beginMember (a : Act) (s : State) : (beginMember a s).act a = begun s (s.act a) := act_setAct_same s a _

theorem act_startStroke {job : Option Nat} {grp : Group} {n : Nat} (nodup : as.Nodup) (ha : a ∈ as) :
    (startStroke job grp g n as s).act a = begun s (s.act a) := by
  rw [startStroke_cons s (List.ne_nil_of_mem ha)]
  obtain ⟨u, -, same, -, record, found⟩ := foldl_at (P := fun _ => True) (key := id)
    (op := fun t a => beginMember a t) (s := withStroke (strokeRecord job grp g n as s) s)
    (fun _ _ => actFrame_beginMember (.refl _ _)) (fun _ _ _ _ => trivial) (by simpa using nodup) ha trivial
  have before : u.act a = s.act a := record.trans (act_congr rfl a)
  have whole : outside u = outside s := same
  exact found.trans (by rw [id, act_beginMember, before, begun_congr whole])

theorem startStroke_other {job : Option Nat} {grp : Group} {n : Nat} (out : a ∉ as) :
    (startStroke job grp g n as s).act a = s.act a := by
  rcases eq_or_ne as [] with rfl | some
  · rfl
  · rw [(startStroke_frame s some).act a out]
    exact act_congr rfl a

theorem strokeRecord_congr {job : Option Nat} {grp : Group} {n : Nat} (now : t.now = s.now) (params : t.params = s.params)
    (state : ∀ a ∈ as, (t.act a).state = (s.act a).state) : strokeRecord job grp g n as t = strokeRecord job grp g n as s := by
  have members : as.map (memberOf g t) = as.map (memberOf g s) := by
    refine List.map_congr_left (fun a ha => ?_)
    unfold memberOf
    rw [state a ha, params]
  unfold strokeRecord
  rw [members, State.reading, State.reading, now]

/-- The stroke of a group, or none where no actuator is in it. -/
def strokesFor (j : Job) (grp : Group) (g : Goal) (as : List Act) (s : State) : List Stroke :=
  if as = [] then [] else [strokeRecord (some j.id) grp g 2 as s]

theorem startStroke_strokesFor (grp : Group) (as : List Act) (s : State) :
    (startStroke (some j.id) grp g 2 as s).strokes = s.strokes ++ strokesFor j grp g as s := by
  unfold strokesFor
  split
  · rename_i none
    simp [none, startStroke_nil]
  · rename_i some
    exact startStroke_strokes s some

theorem startStroke_units {job : Option Nat} {grp : Group} {n : Nat} (as : List Act) (s : State) :
    (startStroke job grp g n as s).units = s.units + unitsOf as := by
  rcases eq_or_ne as [] with rfl | some
  · rfl
  · exact (startStroke_frame s some).units

theorem startStroke_windows {job : Option Nat} {grp : Group} {n : Nat} (as : List Act) (s : State) :
    (startStroke job grp g n as s).windows = s.windows := by
  rcases eq_or_ne as [] with rfl | some
  · rfl
  · exact (startStroke_frame s some).windows

theorem startStroke_admitted {job : Option Nat} {grp : Group} {n : Nat} (as : List Act) (s : State) :
    (startStroke job grp g n as s).admitted = s.admitted := by
  rcases eq_or_ne as [] with rfl | some
  · rfl
  · exact (startStroke_frame s some).admitted

theorem nodup_ofGroup (grp : Group) (h : as.Nodup) : (ofGroup grp as).Nodup := h.filter _

theorem unitsOf_groups (as : List Act) : unitsOf (ofGroup .DOOR as) + unitsOf (ofGroup .TAIL as) = unitsOf as := by
  induction as with
  | nil => rfl
  | cons a as ih =>
    cases e : groupOf a <;> simp [ofGroup, unitsOf, e] at ih ⊢ <;> omega

/-! ### The job's admission -/

/-- A job waits alone, with no stroke running and the slot closed, and an attempt is due. -/
structure Ready (j : Job) (g : Goal) (as : List Act) (s : State) : Prop where
  queue : s.queue = [j]
  targets : j.targets = .lock g as
  priority : j.priority = .USER
  nodup : as.Nodup
  strokes : s.strokes = []
  closed : s.slot.isOpen = false
  due : s.attemptDue = true
  limit : ∀ a ∈ as, (s.act a).strokes < strokeLimit

theorem strokeOf_idle (h : s.strokes = []) (a : Act) : s.strokeOf a = none := by simp [State.strokeOf, h]

theorem remaining_idle (h : s.strokes = []) : remaining g as s = as.filter (fun a => !atTarget g a (s.act a).state) := by
  simp [remaining, strokeOf_idle h]

theorem matrixFree_idle (h : s.strokes = []) (limit : ∀ a ∈ as, (s.act a).strokes < strokeLimit) :
    matrixFree g as rem s = true := by
  have polarity : ∀ grp, s.polarity grp = .NONE := by simp [State.polarity, h]
  simp only [matrixFree, polarityFree, membersFree, polarity, strokeOf_idle h]
  simpa using limit

/-- What is left once the job's actuators are settled and its strokes run. -/
def driveAll (j : Job) (g : Goal) (as rem : List Act) (s : State) : State :=
  startStroke (some j.id) .TAIL g 2 (ofGroup .TAIL rem)
    (startStroke (some j.id) .DOOR g 2 (ofGroup .DOOR rem) (withAdmitted j rem (admitBase j as rem s)))

theorem checkOverload_idle {grp : Group} (h : overcurrentLine s.pins grp = false ∨ ∀ st ∈ s.strokes, st.group ≠ grp) :
    checkOverload grp s = s := by
  unfold checkOverload
  rcases h with off | none
  · simp [off]
  · split
    · exact if_pos (by simpa using none)
    · rfl

/-- What the admission of a job that waits alone leaves (R28, R31, R100). -/
structure Driven (j : Job) (g : Goal) (as rem : List Act) (s t : State) : Prop where
  outside : outside t = outside s
  strokes : t.strokes = strokesFor j .DOOR g (ofGroup .DOOR rem) s ++ strokesFor j .TAIL g (ofGroup .TAIL rem) s
  units : t.units = s.units + unitsOf rem
  queue : t.queue = []
  admitted : t.admitted = s.admitted ++ [{ j with cost := unitsOf rem }]
  windows : t.windows = s.windows
  slot : t.slot = s.slot
  due : t.attemptDue = false
  driven : ∀ a ∈ rem, t.act a = begun s (s.act a)
  dropped : ∀ a ∈ as, a ∉ rem → t.act a = { s.act a with activity := .IDLE, attempts := 0 }
  other : ∀ a, a ∉ as → t.act a = s.act a

/-- The state whose only job has left the queue. -/
def emptied (s : State) : State := (takeTriggers s).setQueue []

theorem outside_emptied (s : State) : outside (emptied s) = outside s := by simp [emptied]

theorem emptied_due (s : State) : (emptied s).attemptDue = false := by
  rw [emptied, setQueue_eq]
  rfl

theorem act_emptied (s : State) (a : Act) : (emptied s).act a = s.act a := (act_setQueue _ _ a).trans (act_congr rfl a)

/-- The base of the admission differs from the emptied queue in the records of the dropped actuators (R9). -/
structure Based (as rem : List Act) (s t : State) : Prop where
  frame : ActsFrame (as.filter (fun a => !rem.contains a)) (emptied s) t
  plain : Plain (emptied s) t
  dropped : ∀ a ∈ as, a ∉ rem → t.act a = { s.act a with activity := .IDLE, attempts := 0 }

theorem Ready.based (h : Ready j g as s) (rem : List Act) : Based as rem s (admitBase j as rem (takeTriggers s)) := by
  have base : takeFromQueue j.id (takeTriggers s) = emptied s := by
    unfold takeFromQueue emptied
    rw [show (takeTriggers s).queue = [j] from h.queue]
    simp
  have frame := admitBase_frame j as rem (takeTriggers s)
  rw [base] at frame
  have plain : Plain (emptied s) (admitBase j as rem (takeTriggers s)) := by
    unfold admitBase
    rw [base]
    exact plain_fold (fun _ _ => plain_dropAct (.refl _)) _ _
  refine ⟨frame, plain, fun a ha out => ?_⟩
  obtain ⟨u, -, -, -, record, found⟩ := foldl_at (P := fun _ => True) (key := id) (op := fun t a => dropAct a t)
    (s := emptied s) (xs := as.filter (fun a => !rem.contains a)) (fun _ _ => actFrame_dropAct (.refl _ _))
    (fun _ _ _ _ => trivial) (by simpa using h.nodup.filter _) (List.mem_filter.mpr ⟨ha, by simpa using out⟩) trivial
  have own : (dropAct a u).act a = { u.act a with activity := .IDLE, attempts := 0 } := by
    rw [dropAct_eq, act_setAct_same]
  have before : u.act a = s.act a := record.trans (act_emptied s a)
  unfold admitBase
  rw [base]
  exact found.trans (own.trans (by rw [before]))

theorem Based.other {t : State} (h : Based as rem s t) (out : a ∈ rem ∨ a ∉ as) : t.act a = s.act a :=
  (h.frame.act a (by simpa using fun ha => out.resolve_right (fun k => k ha))).trans (act_emptied s a)

theorem Ready.driveAll (h : Ready j g as s) (sub : ∀ a ∈ rem, a ∈ as) (nodup : rem.Nodup) :
    Driven j g as rem s (driveAll j g as rem (takeTriggers s)) := by
  have based := h.based rem
  unfold Machine.driveAll
  generalize admitBase j as rem (takeTriggers s) = u at based ⊢
  have o : outside (withAdmitted j rem u) = outside s := based.frame.outside.trans (outside_emptied s)
  have record : ∀ a, (withAdmitted j rem u).act a = u.act a := fun a => act_congr rfl a
  have plain : Plain (emptied s) (withAdmitted j rem u) := based.plain.trans ⟨rfl, rfl, rfl, fun _ h => h⟩
  have strokes : (withAdmitted j rem u).strokes = [] := by
    rw [show (withAdmitted j rem u).strokes = u.strokes from rfl, based.frame.strokes, emptied, setQueue_strokes]
    exact h.strokes
  have units : (withAdmitted j rem u).units = s.units := by
    rw [show (withAdmitted j rem u).units = u.units from rfl, based.frame.units, emptied, setQueue_units]
    rfl
  have windows : (withAdmitted j rem u).windows = s.windows := by
    rw [show (withAdmitted j rem u).windows = u.windows from rfl, based.frame.windows, emptied, setQueue_windows]
    rfl
  have admitted : (withAdmitted j rem u).admitted = s.admitted ++ [{ j with cost := unitsOf rem }] := by
    rw [show (withAdmitted j rem u).admitted = u.admitted ++ [{ j with cost := unitsOf rem }] from rfl, based.frame.admitted,
      emptied, setQueue_admitted]
    rfl
  have kept : ∀ a, a ∈ rem ∨ a ∉ as → (withAdmitted j rem u).act a = s.act a := fun a out => (record a).trans (based.other out)
  have dropped : ∀ a ∈ as, a ∉ rem → (withAdmitted j rem u).act a = { s.act a with activity := .IDLE, attempts := 0 } :=
    fun a ha out => (record a).trans (based.dropped a ha out)
  generalize withAdmitted j rem u = v at o plain strokes units windows admitted kept dropped ⊢
  have od : outside (startStroke (some j.id) .DOOR g 2 (ofGroup .DOOR rem) v) = outside s := (outside_startStroke ..).trans o
  have doors : ∀ a, groupOf a = .DOOR → a ∉ ofGroup .TAIL rem := fun a e k => nomatch e.symm.trans (mem_ofGroup.mp k).2
  have tails : ∀ a, groupOf a = .TAIL → a ∉ ofGroup .DOOR rem := fun a e k => nomatch e.symm.trans (mem_ofGroup.mp k).2
  have whole := (plain.trans (plain_startStroke (job := some j.id) (grp := .DOOR) (g := g) (n := 2) (ofGroup .DOOR rem) v)).trans
    (plain_startStroke (job := some j.id) (grp := .TAIL) (g := g) (n := 2) (ofGroup .TAIL rem) _)
  have rest : ∀ a, a ∉ rem → (startStroke (some j.id) .TAIL g 2 (ofGroup .TAIL rem)
      (startStroke (some j.id) .DOOR g 2 (ofGroup .DOOR rem) v)).act a = v.act a := by
    intro a out
    rw [startStroke_other (fun k => out (mem_ofGroup.mp k).1), startStroke_other (fun k => out (mem_ofGroup.mp k).1)]
  refine ⟨(outside_startStroke ..).trans od, ?_, ?_, ?_, ?_, ?_, ?_, ?_, fun a ha => ?_, fun a ha out => ?_, fun a out => ?_⟩
  · rw [startStroke_strokesFor, startStroke_strokesFor, strokes, List.nil_append]
    unfold strokesFor
    rw [strokeRecord_congr (outside_now o) (outside_params o) (fun a ha => by rw [kept a (.inl (mem_ofGroup.mp ha).1)]),
      strokeRecord_congr (outside_now od) (outside_params od) (fun a ha => by
        rw [startStroke_other (tails a (mem_ofGroup.mp ha).2), kept a (.inl (mem_ofGroup.mp ha).1)])]
  · rw [startStroke_units, startStroke_units, units, Nat.add_assoc, unitsOf_groups]
  · rw [whole.queue, emptied, setQueue_queue]
  · rw [startStroke_admitted, startStroke_admitted, admitted]
  · rw [startStroke_windows, startStroke_windows, windows]
  · rw [whole.slot, emptied, setQueue_slot]
    rfl
  · rw [whole.due, emptied_due]
  · have before := kept a (.inl ha)
    cases e : groupOf a with
    | DOOR => rw [startStroke_other (doors a e), act_startStroke (nodup_ofGroup _ nodup) (mem_ofGroup.mpr ⟨ha, e⟩), before, begun_congr o]
    | TAIL => rw [act_startStroke (nodup_ofGroup _ nodup) (mem_ofGroup.mpr ⟨ha, e⟩), startStroke_other (tails a e), before, begun_congr od]
  · rw [rest a out, dropped a ha out]
  · rw [rest a (fun k => out (sub a k)), kept a (.inr out)]

/-- The attempt of a job that waits alone admits it. -/
theorem Ready.settle (h : Ready j g as s) {D : List Act}
    (left : as.filter (fun a => !atTarget g a (s.act a).state) = D) (some : D ≠ [])
    (units : s.units + unitsOf D ≤ s.params.driveBudget)
    (door : s.pins.ocDoor = false ∨ ofGroup .DOOR D = []) (tail : s.pins.ocTail = false ∨ ofGroup .TAIL D = []) :
    Driven j g as D s (settle s) := by
  have driven : Driven j g as D s (Machine.driveAll j g as D (takeTriggers s)) :=
    h.driveAll (fun a ha => List.mem_of_mem_filter (left ▸ ha)) (left ▸ h.nodup.filter _)
  have idle : (takeTriggers s).strokes = [] := h.strokes
  have rem : remaining g as (takeTriggers s) = D := by
    rw [remaining_idle idle, ← left]
    exact List.filter_congr (fun a _ => by rw [show (takeTriggers s).act a = s.act a from act_congr rfl a])
  have groups : ∀ st ∈ (Machine.driveAll j g as D (takeTriggers s)).strokes,
      (st.group = .DOOR → ofGroup .DOOR D ≠ []) ∧ (st.group = .TAIL → ofGroup .TAIL D ≠ []) := by
    intro st hst
    rw [driven.strokes, List.mem_append] at hst
    unfold strokesFor at hst
    rcases hst with k | k
    · split at k
      · cases k
      · rename_i ne
        obtain rfl := List.mem_singleton.mp k
        exact ⟨fun _ => ne, nofun⟩
    · split at k
      · cases k
      · rename_i ne
        obtain rfl := List.mem_singleton.mp k
        exact ⟨nofun, fun _ => ne⟩
  have pins := outside_pins driven.outside
  have direct : admitLock j g as D (takeTriggers s) = Machine.driveAll j g as D (takeTriggers s) := by
    have line : ∀ grp, overcurrentLine s.pins grp = false ∨ ofGroup grp D = [] := fun grp => by cases grp <;> assumption
    have calm : ∀ grp, checkOverload grp (Machine.driveAll j g as D (takeTriggers s)) = Machine.driveAll j g as D (takeTriggers s) := by
      intro grp
      refine checkOverload_idle ((line grp).imp (fun e => by rw [pins, e]) (fun none st hst e => ?_))
      cases grp with
      | DOOR => exact (groups st hst).1 e none
      | TAIL => exact (groups st hst).2 e none
    rw [admitLock_eq, if_neg (by simpa using some)]
    exact (congrArg _ (calm .DOOR)).trans (calm .TAIL)
  have visited : visit j (takeTriggers s) = .passed (Machine.driveAll j g as D (takeTriggers s)) := by
    have limit : ∀ a ∈ as, ((takeTriggers s).act a).strokes < strokeLimit := fun a ha => by
      rw [show (takeTriggers s).act a = s.act a from act_congr rfl a]
      exact h.limit a ha
    have room : unitsFree (unitsOf D) (takeTriggers s) = true := by
      simpa [unitsFree] using .inr units
    unfold visit
    rw [h.targets]
    dsimp only
    unfold visitLock
    dsimp only
    rw [rem]
    have matrix : matrixFree g as D (takeTriggers s) = true := by
      rw [← rem]
      exact matrixFree_idle idle limit
    rw [matrix, room]
    exact congrArg Visit.passed direct
  have scanned : scanQueue (takeTriggers s) = Machine.driveAll j g as D (takeTriggers s) := by
    have queue : (takeTriggers s).queue = [j] := h.queue
    unfold scanQueue scanOrder
    rw [queue]
    simp [h.priority, scanJobs, queue, visited]
  have tried : attempt (takeTriggers s) = Machine.driveAll j g as D (takeTriggers s) := by
    unfold attempt
    rw [show (takeTriggers s).slot.isOpen = false from h.closed]
    exact scanned
  have first : closeDue s = s := if_neg (by simp [h.closed])
  have ended : Machine.settle s = Machine.driveAll j g as D (takeTriggers s) := by
    rw [Machine.settle, first, settleFuel, if_pos h.due, tried, settleFuel_still _ driven.due]
  rw [ended]
  exact driven

end

end Sys2Proof.Machine

/-! ## A request from rest that is driven at once -/

namespace Sys2Proof.Machine

open Sys2Proof

section
variable {s t : State} {o : Origin} {g : Goal} {as rem : List Act} {a : Act}

/-- What a request leaves that forms one job from rest (R9, R90), whatever else its event has changed. -/
structure Asked (o : Origin) (g : Goal) (as : List Act) (s t : State) : Prop where
  queue : t.queue = [freshJob o g as s]
  strokes : t.strokes = []
  slot : t.slot = s.slot
  due : t.attemptDue = true
  units : t.units = s.units
  windows : t.windows = s.windows
  admitted : t.admitted = s.admitted
  now : t.now = s.now
  params : t.params = s.params
  nextId : t.nextId = succId s.newId
  named : ∀ a ∈ as, t.act a = { s.act a with attempts := 0, activity := .QUEUED }
  other : ∀ a, a ∉ as → t.act a = s.act a

theorem formJob_rest (rest : restingLocks s) (some : as ≠ []) :
    (formJob o g as s).1 = .job s.newId ∧ Asked o g as s (formJob o g as s).2 := by
  obtain ⟨queue, strokes, -, -, -, -, acts⟩ := rest
  have free : ∀ a ∈ as, (s.act a).wait = none ∧ s.queuedFor a = none := fun a _ =>
    ⟨(acts a).2.1, by simp [State.queuedFor, queue]⟩
  have formed := formJob_merged (o := o) (mergeRequest_free (g := g) free) some (by simp [queue])
  have record : ∀ a, (formJob o g as s).2.act a = if a ∈ as then { s.act a with
      attempts := 0
      activity := if (s.act a).activity = .STROKING then .STROKING else .QUEUED } else s.act a := by
    intro a
    rw [formed, act_foldl_queueAct, enterQueue_fresh, act_trigger, act_setQueue, show s.tookId.act a = s.act a from act_congr rfl a]
  have out : outside (formJob o g as s).2 = outside s := outside_formJob o g as s
  have now := outside_now out
  have params := outside_params out
  refine ⟨by rw [formed], ?_⟩
  rw [formed] at now params record ⊢
  dsimp only at now params record ⊢
  rw [foldl_queueAct_eq, enterQueue_fresh, queue, setQueue_eq] at *
  refine ⟨rfl, strokes, rfl, rfl, rfl, rfl, rfl, now, params, rfl, fun a ha => ?_, fun a ha => ?_⟩
  · rw [record, if_pos ha, (acts a).1]
    rfl
  · rw [record, if_neg ha]

/-- What a job that is admitted at once leaves of the state it was asked in (R20, R28, R31, R95, R100). -/
structure Ran (o : Origin) (g : Goal) (as rem : List Act) (s t : State) : Prop where
  strokes : t.strokes = strokesFor (freshJob o g as s) .DOOR g (ofGroup .DOOR rem) s ++
    strokesFor (freshJob o g as s) .TAIL g (ofGroup .TAIL rem) s
  units : t.units = s.units + unitsOf rem
  queue : t.queue = []
  admitted : t.admitted = s.admitted ++ [{ freshJob o g as s with cost := unitsOf rem }]
  windows : t.windows = s.windows
  slot : t.slot = s.slot
  driven : ∀ a ∈ rem, (t.act a).activity = .STROKING ∧ (t.act a).state = (s.act a).state ∧ (t.act a).attempts = 1 ∧
    (t.act a).strokes = (s.act a).strokes + 1
  dropped : ∀ a ∈ as, a ∉ rem → t.act a = { s.act a with attempts := 0 }
  other : ∀ a, a ∉ as → t.act a = s.act a

/-- The start of a write changes nothing that is said of a job. -/
theorem Ran.pump (h : Ran o g as rem s t) : Ran o g as rem s (pump t) := by
  rw [pump_writer]
  exact ⟨h.strokes, h.units, h.queue, h.admitted, h.windows, h.slot, h.driven, h.dropped, h.other⟩

theorem outside_finish_steady (store : storeSteady t) : outside (finish t) = outside t := by
  rw [finish, pump_steady (storeSteady_of_outside (outside_settle t) store), outside_settle]

theorem Asked.finish (h : Asked o g as s t) (rest : restingLocks s) (nodup : as.Nodup)
    (left : as.filter (fun a => !atTarget g a (s.act a).state) = rem) (some : rem ≠ [])
    (units : s.units + unitsOf rem ≤ s.params.driveBudget)
    (door : t.pins.ocDoor = false ∨ ofGroup .DOOR rem = []) (tail : t.pins.ocTail = false ∨ ofGroup .TAIL rem = []) :
    Ran o g as rem s (finish t) := by
  obtain ⟨-, -, closed, -, -, -, acts⟩ := rest
  have state : ∀ a, (t.act a).state = (s.act a).state := fun a => by
    by_cases ha : a ∈ as
    · rw [h.named a ha]
    · rw [h.other a ha]
  have strokes : ∀ a, (t.act a).strokes = (s.act a).strokes := fun a => by
    by_cases ha : a ∈ as
    · rw [h.named a ha]
    · rw [h.other a ha]
  have ready : Ready (freshJob o g as s) g as t :=
    { queue := h.queue, targets := rfl, priority := rfl, nodup := nodup, strokes := h.strokes, closed := h.slot ▸ closed,
      due := h.due, limit := fun a _ => by rw [strokes]; exact (acts a).2.2 }
  have inside : ∀ a ∈ rem, a ∈ as := fun a ha => List.mem_of_mem_filter (left ▸ ha)
  have driven := ready.settle (D := rem) (by simpa only [state] using left) some (by rw [h.units, h.params]; exact units) door tail
  have record : ∀ grp, strokesFor (freshJob o g as s) grp g (ofGroup grp rem) t =
      strokesFor (freshJob o g as s) grp g (ofGroup grp rem) s := by
    intro grp
    unfold strokesFor
    rw [strokeRecord_congr h.now h.params (fun a _ => state a)]
  refine Ran.pump ⟨?_, ?_, driven.queue, ?_, driven.windows.trans h.windows, driven.slot.trans h.slot, fun a ha => ?_,
    fun a ha out => ?_, fun a out => ?_⟩
  · rw [driven.strokes, record, record]
  · rw [driven.units, h.units]
  · rw [driven.admitted, h.admitted]
  · rw [driven.driven a ha, h.named a (inside a ha)]
    have below := (acts a).2.2
    exact ⟨rfl, rfl, rfl, Nat.min_eq_right below⟩
  · rw [driven.dropped a ha out, h.named a ha]
    have idle := (acts a).1
    cases e : s.act a
    simp_all
  · rw [driven.other a out, h.other a out]

/-! ### CHILD_REQUEST (R13) -/

theorem childSetOf_none {b : Byte} (h : b = 0#8 ∨ 4 ≤ b.toNat) : childSetOf b = none := if_pos h

theorem childGoalOf_none {b : Byte} (h : 2 ≤ b.toNat) : childGoalOf b = none := List.getElem?_eq_none h

/-- The sides that a set names (R13, R160). -/
def sidesOf (b : Byte) : List Act :=
  (if b.getLsbD 0 then [Act.child .CRL] else []) ++ (if b.getLsbD 1 then [Act.child .CRR] else [])

theorem childSetOf_some {b : Byte} (some : b ≠ 0#8) (low : b.toNat < 4) :
    childSetOf b = Option.some (sidesOf b) ∧ sidesOf b ≠ [] ∧ (sidesOf b).Nodup ∧ ofGroup .DOOR (sidesOf b) = [] ∧
      ofGroup .TAIL (sidesOf b) = sidesOf b ∧ unitsOf (sidesOf b) = (sidesOf b).length ∧ (sidesOf b).length ≤ 2 := by
  have cases : ∀ x : Fin 4, x ≠ 0 → childSetOf (BitVec.ofNat 8 x.val) = Option.some (sidesOf (BitVec.ofNat 8 x.val)) ∧
      sidesOf (BitVec.ofNat 8 x.val) ≠ [] ∧ (sidesOf (BitVec.ofNat 8 x.val)).Nodup ∧
      ofGroup .DOOR (sidesOf (BitVec.ofNat 8 x.val)) = [] ∧
      ofGroup .TAIL (sidesOf (BitVec.ofNat 8 x.val)) = sidesOf (BitVec.ofNat 8 x.val) ∧
      unitsOf (sidesOf (BitVec.ofNat 8 x.val)) = (sidesOf (BitVec.ofNat 8 x.val)).length ∧
      (sidesOf (BitVec.ofNat 8 x.val)).length ≤ 2 := by decide
  have other : (⟨b.toNat, low⟩ : Fin 4) ≠ 0 := fun k => by
    have zero : b.toNat = 0 := congrArg Fin.val k
    exact some (BitVec.eq_of_toNat_eq zero)
  have found := cases ⟨b.toNat, low⟩ other
  rwa [BitVec.ofNat_toNat, BitVec.setWidth_eq] at found

/-- The goal that an action of CHILD_REQUEST names (R13). -/
def childGoal (action : Byte) : Goal := if action = 0#8 then .ENGAGE else .RELEASE

theorem childGoalOf_some {b : Byte} (h : b.toNat < 2) : childGoalOf b = some (childGoal b) := by
  have cases : ∀ x : Fin 2, childGoalOf (BitVec.ofNat 8 x.val) = some (childGoal (BitVec.ofNat 8 x.val)) := by decide
  have found := cases ⟨b.toNat, h⟩
  rwa [BitVec.ofNat_toNat, BitVec.setWidth_eq] at found

theorem restingLocks_arrived {p : Port} (h : restingLocks s) : restingLocks (arrived p s) := by
  obtain ⟨queue, strokes, closed, pending, stroking, waiting, acts⟩ := h
  exact ⟨queue, strokes, closed, pending, stroking, waiting, fun a => by rw [act_arrived]; exact acts a⟩

theorem exec_childRequest {sides action : Byte} (h : listening .M s) {as : List Act} {g : Goal} (named : childSetOf sides = some as)
    (goal : childGoalOf action = some g) {id : Nat} (formed : (formJob .PORT_M g as (arrived .M s)).1 = .job id) :
    exec (.childRequest .M sides action) s =
      .next (respond .M 0x12#8 (Answer.accepted id) (finish (formJob .PORT_M g as (arrived .M s)).2)) := by
  show commandRow .M 0x12#8 (acting (takeChildRequest sides action)) s = _
  rw [commandRow_listening h rfl]
  have taken : takeChildRequest sides action (arrived .M s) = (Answer.accepted id, (formJob .PORT_M g as (arrived .M s)).2) := by
    unfold takeChildRequest
    rw [named, goal]
    dsimp only
    generalize formJob .PORT_M g as (arrived .M s) = x at formed ⊢
    obtain ⟨answer, t⟩ := x
    dsimp only at formed
    rw [formed]
    rfl
  unfold acting
  dsimp only
  rw [taken]

/-- A stroke whose members have one duration lasts as long (R29). -/
theorem strokeRecord_even {job : Option Nat} {grp : Group} {n d : Nat} (some : as ≠ [])
    (even : ∀ a ∈ as, strokeDuration s.params g a (s.act a).state = d) :
    strokeRecord job grp g n as s =
      ⟨job, grp, goalPolarity g, as.map (fun a => ⟨a, strokeTarget g a, d⟩), d, s.reading, n, unitsOf as⟩ := by
  have members : as.map (memberOf g s) = as.map (fun a => ⟨a, strokeTarget g a, d⟩) :=
    List.map_congr_left (fun a ha => by rw [memberOf, even a ha])
  have longest : ∀ (xs : List Act) (k : Nat), k ≤ d → xs ≠ [] ∨ k = d →
      (xs.map (fun a => (⟨a, strokeTarget g a, d⟩ : Member))).foldl (fun d m => max d m.duration) k = d := by
    intro xs
    induction xs with
    | nil => exact fun k _ h => h.resolve_left (fun e => e rfl)
    | cons x xs ih =>
      intro k hk _
      rw [List.map_cons, List.foldl_cons, Nat.max_eq_right hk]
      exact ih d le_rfl (.inr rfl)
  unfold strokeRecord
  dsimp only
  rw [members, longest as 0 (Nat.zero_le d) (.inl some)]

theorem bridge_single {st : Stroke} (h : s.strokes = [st]) (a : Act) :
    s.bridge a = if st.has a then memberDrive st.polarity else .OFF := by
  unfold State.bridge State.strokeOf
  rw [h]
  by_cases e : st.has a <;> simp [e]

theorem commonBridge_single {st : Stroke} (h : s.strokes = [st]) (grp : Group) :
    s.commonBridge grp = if st.group = grp then commonDrive st.polarity else .OFF := by
  unfold State.commonBridge State.polarity
  rw [h]
  by_cases e : st.group = grp <;> simp [e, commonDrive]

theorem childGoal_facts (action : Byte) :
    goalPolarity (childGoal action) = (if action = 0#8 then .PLUS else .MINUS) ∧
      (∀ a, strokeTarget (childGoal action) a = if action = 0#8 then .ENGAGED else .RELEASED) ∧
      (∀ v a p, strokeDuration v (childGoal action) a p = v.strokeTime) ∧
      (∀ a, atTarget (childGoal action) a (if action = 0#8 then .RELEASED else .ENGAGED) = false) := by
  unfold childGoal
  split <;> exact ⟨rfl, fun _ => rfl, fun _ _ _ => rfl, fun _ => rfl⟩

/-- Settles O15. -/
theorem childRequestDrivesItsSides : Obligations.ChildRequestDrivesItsSides := by
  intro sides action s hl hc
  dsimp only
  refine ⟨fun bad => ?_, fun some low goal rest opposite units budget line => ?_⟩
  · refine commandRow_refused (f := takeChildRequest sides action) hl hc rfl ?_
    have none : childSetOf sides = none ∨ childGoalOf action = none := by
      rcases bad with k | k | k
      · exact .inl (childSetOf_none (.inl k))
      · exact .inl (childSetOf_none (.inr k))
      · exact .inr (childGoalOf_none k)
    unfold takeChildRequest
    rcases none with e | e
    · rw [e]
    · rw [e]
      cases childSetOf sides <;> rfl
  · obtain ⟨named, nonempty, nodup, doors, tails, cost, two⟩ := childSetOf_some some low
    obtain ⟨polarity, target, duration, away⟩ := childGoal_facts action
    change ∀ a ∈ sidesOf sides, _ at opposite
    have rests := restingLocks_arrived (p := .M) rest
    obtain ⟨answer, asked⟩ := formJob_rest (o := .PORT_M) (g := childGoal action) rests nonempty
    have row := exec_childRequest hl named (childGoalOf_some goal) answer
    have formed : outside (formJob .PORT_M (childGoal action) (sidesOf sides) (arrived .M s)).2 = outside (arrived .M s) :=
      outside_formJob ..
    have left : (sidesOf sides).filter (fun a => !atTarget (childGoal action) a ((arrived .M s).act a).state) = sidesOf sides :=
      List.filter_eq_self.mpr (fun a ha => by rw [act_arrived, opposite a ha, away]; rfl)
    have out := outside_finish_steady (storeSteady_of_outside formed (calm_arrived hc).2.2)
    have ran := asked.finish rests nodup left nonempty
      (by rw [cost]; exact (Nat.add_le_add units.le two).trans (by rwa [Nat.zero_add])) (.inr doors)
      (.inl (by rw [outside_pins formed]; exact line))
    have whole := out.trans formed
    generalize finish (formJob .PORT_M (childGoal action) (sidesOf sides) (arrived .M s)).2 = u at ran whole row
    have strokes : u.strokes = [⟨Option.some s.newId, .TAIL, if action = 0#8 then .PLUS else .MINUS,
        (sidesOf sides).map (fun a => ⟨a, if action = 0#8 then .ENGAGED else .RELEASED, s.params.strokeTime⟩),
        s.params.strokeTime, s.reading, 2, (sidesOf sides).length⟩] := by
      rw [ran.strokes, doors, tails, strokesFor, strokesFor, if_pos rfl, if_neg nonempty, List.nil_append,
        strokeRecord_even nonempty (fun a _ => duration _ a _), polarity, cost]
      simp only [target]
      rfl
    have has : ∀ a, (⟨Option.some s.newId, .TAIL, if action = 0#8 then .PLUS else .MINUS,
        (sidesOf sides).map (fun a => ⟨a, if action = 0#8 then .ENGAGED else .RELEASED, s.params.strokeTime⟩),
        s.params.strokeTime, s.reading, 2, (sidesOf sides).length⟩ : Stroke).has a = true ↔ a ∈ sidesOf sides := by
      intro a
      simp [has_iff]
    refine ⟨_, row, strokes, ?_, ran.queue, ?_, fun a ha => ?_, fun a ha => ?_, ?_, ?_, ?_, (outside_relock whole :), ran.windows,
      (outside_fobs whole :), (outside_search whole :), (outside_hold whole :), (outside_crash whole :), ran.slot,
      (outside_entry whole :), (outside_keyLock whole :), (outside_params whole :), (outside_store whole :)⟩
    · exact ran.units.trans (by rw [show (arrived .M s).units = s.units from rfl, units, Nat.zero_add, cost]; rfl)
    · exact ran.admitted.trans (by rw [cost]; rfl)
    · obtain ⟨activity, state, attempts, count⟩ := ran.driven a ha
      rw [act_arrived] at state count
      have bridge : u.bridge a = if action = 0#8 then .LOW else .HIGH := by
        rw [bridge_single strokes, if_pos ((has a).mpr ha)]
        split <;> rfl
      exact ⟨activity, state, attempts, count, bridge⟩
    · have bridge : u.bridge a = .OFF := by
        rw [bridge_single strokes, if_neg (mt (has a).mp ha)]
      exact ⟨(ran.other a ha).trans (act_arrived _ _ _), bridge⟩
    · refine (commonBridge_single strokes .TAIL).trans ?_
      rw [if_pos rfl]
      split <;> rfl
    · exact commonBridge_single strokes .DOOR
    · rw [respond, port_setPort_same]
      rfl

end

end Sys2Proof.Machine

/-! ## A COMFORT run that is shed for a LOCK (R98, R102, R103) -/

namespace Sys2Proof.Machine

open Sys2Proof

section
variable {s : State} {g : Goal} {as : List Act} {j x : Job} {w : Win} {k : WindowTask} {c : Commander}

/-- A job of the present moment enters the queue at its tail (R89). -/
theorem enterQueue_now (s : State) (now : j.enqueued = s.reading) (calm : j.blocking = false) :
    enterQueue j s = trigger (s.setQueue (s.queue ++ [j])) := by
  have young : decide (blockingAge ≤ ageAt s.now j.enqueued) = false := by rw [now, ageAt_reading]; decide
  unfold enterQueue
  dsimp only
  have same : ({ j with blocking := j.blocking || decide (blockingAge ≤ ageAt s.now j.enqueued) } : Job) = j := by
    rw [young, calm]
    exact congrArg (fun b => { j with blocking := b }) calm.symm
  rw [same, insertByAge_reading now s.queue]

/-- A job whose units do not suffice fails on them alone (R98). -/
theorem visit_short (targets : j.targets = .lock g as) (strokes : s.strokes = []) (limit : ∀ a ∈ as, (s.act a).strokes < strokeLimit)
    (left : as.filter (fun a => !atTarget g a (s.act a).state) = as) (some : unitsOf as ≠ 0)
    (short : s.params.driveBudget < s.units + unitsOf as) : visit j s = .failed (Option.some (unitsOf as)) := by
  have room : unitsFree (unitsOf as) s = false := by simp [unitsFree, some, short]
  unfold visit
  rw [targets]
  dsimp only
  unfold visitLock
  dsimp only
  rw [remaining_idle strokes, left, matrixFree_idle strokes limit, room]
  rfl

/-- The state in which one COMFORT run is the only window at work. -/
structure OneComfort (w : Win) (x : Job) (k : WindowTask) (c : Commander) (s : State) : Prop where
  others : ∀ v, v ≠ w → (s.win v).run = .IDLE
  running : (s.win w).run = .RUNNING
  mode : (s.win w).mode = .COMFORT
  commander : (s.win w).commander = some c
  job : (s.win w).job = some x.id
  admitted : s.admitted = [x]
  targets : x.targets = .window k
  window : k.win = w

theorem OneComfort.returning (h : OneComfort w x k c s) : returning s = 0 := by
  have none : ∀ v, ¬((s.win v).run = .BRAKING) := fun v => by
    by_cases e : v = w
    · rw [e, h.running]
      nofun
    · rw [h.others v e]
      nofun
  simp [Machine.returning, none]

theorem OneComfort.comfortRuns (h : OneComfort w x k c s) : comfortRuns s = [w] := by
  have task : x.task? = some k := by simp [Job.task?, h.targets]
  simp [Machine.comfortRuns, h.admitted, task, h.window, h.running, h.mode, h.job]

theorem OneComfort.shedFor (h : OneComfort w x k c s) {cost : Nat} (fresh : j.shed = false)
    (short : s.params.driveBudget < s.units + cost) : shedFor j cost s =
      changeQueued (fun y => y.id = j.id) (fun y => { y with shed := true }) (shedWindow w s) := by
  have need : ¬(s.units + cost - s.params.driveBudget ≤ 0) := by omega
  unfold Machine.shedFor
  dsimp only
  rw [h.returning, h.comfortRuns, if_neg (by simp [fresh, need])]
  dsimp only [shedRuns]
  rw [if_neg need]

theorem succId_facts (i : Nat) : succId i ≠ i ∧ succId (succId i) ≠ i ∧ succId (succId i) ≠ succId i := by
  unfold succId
  split <;> split <;> omega

/-- After an id, another one is free where one job besides is live (R88). -/
theorem freeId_ne (i p : Nat) : freeId [i, p] 255 (succId i) ≠ i := by
  obtain ⟨first, second, third⟩ := succId_facts i
  unfold freeId
  split
  · rename_i taken
    have same : succId i = p := by simpa [first] using taken
    unfold freeId
    rw [if_neg (by simp [second, ← same, third])]
    exact second
  · exact first

theorem liveIds_of_rest {y : Job} (queue : s.queue = [y]) (admitted : s.admitted = [x]) (waits : ∀ a, (s.act a).wait = none) :
    s.liveIds = [y.id, x.id] := by
  have reserved : s.reserved = [] := List.filterMap_eq_nil_iff.mpr (fun a _ => by rw [waits a])
  simp [State.liveIds, State.liveJobs, queue, admitted, reserved]

/-- The next id beside one queued and one admitted job depends on their ids and the counter (R88). -/
theorem newId_of_rest {t : State} {y z : Job} (id : z.id = y.id) (next : t.nextId = s.nextId) (queue : s.queue = [y])
    (admitted : s.admitted = [x]) (waits : ∀ a, (s.act a).wait = none) (queue' : t.queue = [z]) (admitted' : t.admitted = [x])
    (waits' : ∀ a, (t.act a).wait = none) : t.newId = s.newId := by
  unfold State.newId
  rw [liveIds_of_rest queue admitted waits, liveIds_of_rest queue' admitted' waits', id, next]

/-- The job that re-queues a shed COMFORT run (R103). -/
def comfortAgain (id : Nat) (w : Win) (c : Commander) (s : State) : Job :=
  ⟨id, c.origin, .window ⟨w, .COMFORT, .UP, none, c⟩, .COMFORT, s.reading, false, false, 0⟩

/-- A COMFORT run stops and is re-queued where the hold is open (R102, R103). -/
theorem shedWindow_eq {y : Job} (commander : (s.win w).commander = some c) (queue : s.queue = [y]) :
    shedWindow w s = if s.hold.isOpen then
      trigger { stopWindow w none s with
        queue := [y, comfortAgain (stopWindow w none s).newId w c s]
        nextId := succId (stopWindow w none s).newId }
      else stopWindow w none s := by
  have room : (stopWindow w none s).queueFull = false := by
    show decide (queueCapacity ≤ s.queue.length) = false
    rw [queue]
    rfl
  unfold shedWindow
  dsimp only
  rw [commander]
  dsimp only
  unfold requeueComfort
  have hold : (stopWindow w none s).hold.isOpen = s.hold.isOpen := rfl
  rw [room, hold]
  cases e : s.hold.isOpen with
  | false => simp
  | true =>
    simp only [Bool.true_eq_false, Bool.false_eq_true, or_self, if_false, if_true]
    refine (enterQueue_now _ rfl rfl).trans ?_
    rw [setQueue_plain]
    · show trigger _ = trigger _
      have stopped : (stopWindow w none s).tookId.queue = [y] := queue
      rw [stopped]
      rfl
    · have stopped : (stopWindow w none s).tookId.queue = [y] := queue
      rw [stopped]
      exact .inr (.inl ⟨by simp, .inl (by simp)⟩)

theorem changeQueued_eq (kind : Job → Bool) (f : Job → Job) (s : State) :
    changeQueued kind f s = { s with queue := s.queue.map (fun j => if kind j then f j else j) } :=
  setQueue_plain (.inl (List.length_map _))

/-- The state in which a COMFORT run has been shed for a job (R102, R103). -/
def shedState (j : Job) (w : Win) (c : Commander) (s : State) : State :=
  { stopWindow w none s with
    queue := { j with shed := true } ::
      (if s.hold.isOpen then [comfortAgain (stopWindow w none s).newId w c s] else [])
    nextId := if s.hold.isOpen then succId (stopWindow w none s).newId else s.nextId }

/-- A lock job that waits alone and does not fit beside one COMFORT run. -/
structure Crowded (j : Job) (g : Goal) (as : List Act) (w : Win) (x : Job) (k : WindowTask) (c : Commander) (s : State) : Prop
    extends OneComfort w x k c s where
  queue : s.queue = [j]
  jobTargets : j.targets = .lock g as
  priority : j.priority = .USER
  fresh : j.shed = false
  strokes : s.strokes = []
  limit : ∀ a ∈ as, (s.act a).strokes < strokeLimit
  left : as.filter (fun a => !atTarget g a (s.act a).state) = as
  cost : unitsOf as ≠ 0
  short : s.params.driveBudget < s.units + unitsOf as
  waits : ∀ a, (s.act a).wait = none
  fit : fits .COMFORT .UP none w s = .FIT
  counter : ∃ i, s.nextId = succId i ∧ i = j.id

theorem Crowded.newId (h : Crowded j g as w x k c s) : (stopWindow w none s).newId ≠ j.id := by
  obtain ⟨i, next, rfl⟩ := h.counter
  have live : (stopWindow w none s).liveIds = [j.id, x.id] := liveIds_of_rest (s := stopWindow w none s) h.queue h.admitted
    (fun a => by rw [show (stopWindow w none s).act a = s.act a from act_setWin _ _ _ a]; exact h.waits a)
  unfold State.newId
  rw [live, show (stopWindow w none s).nextId = succId j.id from next]
  exact freeId_ne _ _

theorem Crowded.scan (h : Crowded j g as w x k c s) :
    scanQueue s = if s.hold.isOpen then trigger (shedState j w c s) else shedState j w c s := by
  have failed := visit_short h.jobTargets h.strokes h.limit h.left h.cost h.short
  have scanned : scanQueue s = shedFor j (unitsOf as) s := by
    unfold scanQueue scanOrder
    rw [h.queue]
    simp [h.priority, scanJobs, h.queue, failed]
  rw [scanned, h.toOneComfort.shedFor h.fresh h.short, shedWindow_eq h.commander h.queue, changeQueued_eq]
  cases e : s.hold.isOpen with
  | false =>
    simp only [Bool.false_eq_true, if_false, shedState, e]
    rw [show (stopWindow w none s).queue = [j] from h.queue]
    simp
    rfl
  | true =>
    have other : (comfortAgain (stopWindow w none s).newId w c s).id ≠ j.id := h.newId
    simp only [if_true, shedState, e, trigger]
    simp [other]

theorem win_shedState (j : Job) (w : Win) (c : Commander) (s : State) :
    (shedState j w c s).win w = stopRecord s.now none (s.win w) := win_setWin_same s w _

theorem act_shedState (j : Job) (w : Win) (c : Commander) (s : State) (a : Act) : (shedState j w c s).act a = s.act a :=
  act_congr rfl a

theorem shedState_fit (h : Crowded j g as w x k c s) : fits .COMFORT .UP none w (shedState j w c s) = .FIT := by
  rw [← h.fit]
  simp only [fits, meetsHard, State.learned, win_shedState]
  rfl

/-- The attempt that the re-queued job calls for finds both jobs still waiting. -/
theorem Crowded.rescan (h : Crowded j g as w x k c s) (isOpen : s.hold.isOpen = true) :
    scanQueue (shedState j w c s) = shedState j w c s := by
  have queue : (shedState j w c s).queue =
      [{ j with shed := true }, comfortAgain (stopWindow w none s).newId w c s] := by
    simp [shedState, isOpen]
  have failed : visit { j with shed := true } (shedState j w c s) = .failed (some (unitsOf as)) :=
    visit_short h.jobTargets h.strokes (fun a ha => by rw [act_shedState]; exact h.limit a ha)
      (by simp only [act_shedState]; exact h.left) h.cost h.short
  have already : shedFor { j with shed := true } (unitsOf as) (shedState j w c s) = shedState j w c s := by
    unfold Machine.shedFor
    simp
  have braking : visit (comfortAgain (stopWindow w none s).newId w c s) (shedState j w c s) = .failed none := by
    show visitWindow _ ⟨w, .COMFORT, .UP, none, c⟩ (shedState j w c s) = _
    unfold visitWindow
    rw [show taskDir ⟨w, .COMFORT, .UP, none, c⟩ (shedState j w c s) = .UP from rfl]
    dsimp only
    rw [shedState_fit h, win_shedState]
    rfl
  have order : scanOrder (shedState j w c s).queue = [j.id, (comfortAgain (stopWindow w none s).newId w c s).id] := by
    simp [queue, scanOrder, h.priority, comfortAgain]
  have other : j.id ≠ (comfortAgain (stopWindow w none s).newId w c s).id := fun e => h.newId e.symm
  unfold scanQueue
  rw [order]
  simp [scanJobs, queue, failed, already, other, braking]

/-- How a run meets R44 depends on its window, the inputs, the parameters and the crash latch. -/
theorem fits_congr {t : State} {mode : RunMode} {dir : Dir} {target : Option Nat} (win : t.win w = s.win w) (pins : t.pins = s.pins)
    (params : t.params = s.params) (crash : t.crash = s.crash) : fits mode dir target w t = fits mode dir target w s := by
  unfold fits meetsHard State.learned lowSupply
  rw [win, pins, params, crash]

/-- The event of a lock job for which a COMFORT run is shed. -/
theorem Crowded.finish {t : State} (h : Crowded j g as w x k c (takeTriggers t)) (due : t.attemptDue = true)
    (closed : t.slot.isOpen = false) (store : storeSteady t) : Machine.finish t = shedState j w c (takeTriggers t) := by
  have first : closeDue t = t := if_neg (by simp [closed])
  have tried : attempt (takeTriggers t) = scanQueue (takeTriggers t) := if_neg (by simpa [takeTriggers] using closed)
  have still : ∀ n, settleFuel n (shedState j w c (takeTriggers t)) = shedState j w c (takeTriggers t) :=
    fun n => settleFuel_still n rfl
  have steady : pump (shedState j w c (takeTriggers t)) = shedState j w c (takeTriggers t) := pump_steady store
  rw [Machine.finish, settle, first, settleFuel, if_pos due, tried, h.scan]
  cases e : (takeTriggers t).hold.isOpen with
  | false => simp [still, steady]
  | true =>
    have again : attempt (shedState j w c (takeTriggers t)) = shedState j w c (takeTriggers t) :=
      (if_neg (by simpa [shedState, stopWindow, takeTriggers] using closed)).trans (h.rescan e)
    rw [if_pos rfl, settleFuel, if_pos (show (trigger _).attemptDue = true from rfl), takeTriggers_trigger rfl, again, still, steady]

end

end Sys2Proof.Machine

/-! ## LOCK, UNLOCK and DEADLOCK from rest (R10 to R13, R18) -/

namespace Sys2Proof.Machine

open Sys2Proof

section
variable {s t b : State} {o : Origin} {g : Goal} {as rem : List Act}

/-- The state less the inputs, the phase, the key-lock time, the relock timer and the ports. -/
def aside (s : State) : State :=
  { s with phase := .ACTIVE, pins := State.reset.pins, keyLock := none, relock := none, ports := State.reset.ports }

section
variable (h : aside t = aside s)
include h

theorem aside_newId : t.newId = s.newId := (congrArg State.newId h :)
theorem aside_reading : t.reading = s.reading := (congrArg State.reading h :)
theorem aside_params : t.params = s.params := (congrArg State.params h :)
theorem aside_act (a : Act) : t.act a = s.act a := (congrArg (fun x => x.act a) h :)
theorem aside_restingLocks (rest : restingLocks s) : restingLocks t := (congrArg restingLocks h :).mpr rest
theorem aside_storeSteady (store : storeSteady s) : storeSteady t := (congrArg storeSteady h :).mpr store

end

theorem Asked.aside (h : Asked o g as s t) (k : aside b = aside t) : Asked o g as s b :=
  { queue := (congrArg State.queue k :).trans h.queue
    strokes := (congrArg State.strokes k :).trans h.strokes
    slot := (congrArg State.slot k :).trans h.slot
    due := (congrArg State.attemptDue k :).trans h.due
    units := (congrArg State.units k :).trans h.units
    windows := (congrArg State.windows k :).trans h.windows
    admitted := (congrArg State.admitted k :).trans h.admitted
    now := (congrArg State.now k :).trans h.now
    params := (aside_params k).trans h.params
    nextId := (congrArg State.nextId k :).trans h.nextId
    named := fun a ha => (aside_act k a).trans (h.named a ha)
    other := fun a ha => (aside_act k a).trans (h.other a ha) }

theorem latches_groups : ofGroup .DOOR Act.latches = [Latch.FL, .FR, .RL, .RR].map Act.latch ∧
    ofGroup .TAIL Act.latches = [.latch .TG] ∧ unitsOf Act.latches = 10 := by decide

theorem latchSetOf_five : latchSetOf 0x1F#8 = some Act.latches := by decide

theorem mem_latches (l : Latch) : Act.latch l ∈ Act.latches := by cases l <;> decide

/-- The strokes of all five latches (R26 to R29). -/
def fiveStrokes (pol : Polarity) (after : Position) (s : State) : List Stroke :=
  [⟨some s.newId, .DOOR, pol, [Latch.FL, .FR, .RL, .RR].map (fun l => ⟨.latch l, after, s.params.strokeTime⟩), s.params.strokeTime,
      s.reading, 2, 8⟩,
    ⟨some s.newId, .TAIL, pol, [⟨.latch .TG, after, s.params.strokeTime⟩], s.params.strokeTime, s.reading, 2, 2⟩]

/-- A request that moves all five latches from one state to its target, and the state after its event. -/
structure AllRan (o : Origin) (g : Goal) (before after : Position) (pol : Polarity) (s u : State) : Prop where
  strokes : u.strokes = fiveStrokes pol after s
  units : u.units = 10
  queue : u.queue = []
  admitted : u.admitted = s.admitted ++ [⟨s.newId, o, .lock g Act.latches, .USER, s.reading, false, false, 10⟩]
  acts : ∀ l, (u.act (.latch l)).activity = .STROKING ∧ (u.act (.latch l)).state = before ∧
    (u.act (.latch l)).attempts = 1 ∧ (u.act (.latch l)).strokes = (s.act (.latch l)).strokes + 1
  children : ∀ c, u.act (.child c) = s.act (.child c)
  windows : u.windows = s.windows
  slot : u.slot = s.slot

/-- LOCK moves latches that are UNLOCKED, and UNLOCK latches that are LOCKED, with a stroke of STROKE_TIME (R9). -/
structure Moves (g : Goal) (before after : Position) (pol : Polarity) : Prop where
  away : ∀ l, atTarget g (.latch l) before = false
  target : ∀ l, strokeTarget g (.latch l) = after
  duration : ∀ v l, strokeDuration v g (.latch l) before = v.strokeTime
  polarity : goalPolarity g = pol

theorem moves_lock : Moves .LOCK .UNLOCKED .LOCKED .PLUS := ⟨fun _ => rfl, fun _ => rfl, fun _ _ => rfl, rfl⟩
theorem moves_unlock : Moves .UNLOCK .LOCKED .UNLOCKED .MINUS := ⟨fun _ => rfl, fun _ => rfl, fun _ _ => rfl, rfl⟩

theorem Asked.all {before after : Position} {pol : Polarity} (h : Asked o g Act.latches s t) (moves : Moves g before after pol)
    (rest : restingLocks s) (state : ∀ l, (s.act (.latch l)).state = before) (free : s.units = 0)
    (budget : 10 ≤ s.params.driveBudget) (door : t.pins.ocDoor = false) (tail : t.pins.ocTail = false) :
    AllRan o g before after pol s (Machine.finish t) := by
  obtain ⟨doors, tails, cost⟩ := latches_groups
  have latch : ∀ a ∈ Act.latches, ∃ l, a = .latch l := fun a ha => by
    obtain ⟨l, -, e⟩ := List.mem_map.mp (show a ∈ Latch.all.map Act.latch from ha)
    exact ⟨l, e.symm⟩
  have left : Act.latches.filter (fun a => !atTarget g a (s.act a).state) = Act.latches :=
    List.filter_eq_self.mpr (fun a ha => by
      obtain ⟨l, rfl⟩ := latch a ha
      rw [state, moves.away]
      rfl)
  have ran := h.finish rest (by decide) left (by decide) (by rw [cost, free]; exact budget) (.inl door) (.inl tail)
  have duration : ∀ a ∈ Act.latches, strokeDuration s.params g a (s.act a).state = s.params.strokeTime := fun a ha => by
    obtain ⟨l, rfl⟩ := latch a ha
    rw [state, moves.duration]
  refine ⟨?_, ran.units.trans (by rw [free, cost]), ran.queue, ran.admitted.trans (by rw [cost]; rfl), fun l => ?_, fun c => ?_,
    ran.windows, ran.slot⟩
  · rw [ran.strokes, doors, tails, strokesFor, strokesFor, if_neg (by decide), if_neg (by decide),
      strokeRecord_even (by decide) (fun a ha => duration a (by revert a; decide)),
      strokeRecord_even (by decide) (fun a ha => duration a (by revert a; decide)), moves.polarity]
    simp only [List.map_cons, List.map_nil, moves.target]
    rfl
  · obtain ⟨activity, same, attempts, count⟩ := ran.driven _ (mem_latches l)
    exact ⟨activity, same.trans (state l), attempts, count⟩
  · exact ran.other _ (by cases c <;> decide)

/-- An event from rest that moves all five latches: `b` is the state its request is formed in, `t` the one it leaves to
the attempt that follows, and `v` the one it ends in. -/
theorem all_from_rest {i : Instr} {v : State} {before after : Position} {pol : Polarity} (moves : Moves g before after pol)
    (rest : restingLocks s) (hc : calm s) (state : ∀ l, (s.act (.latch l)).state = before) (free : s.units = 0)
    (budget : 10 ≤ s.params.driveBudget) (base : aside b = aside s) (formed : aside t = aside (formJob o g Act.latches b).2)
    (door : t.pins.ocDoor = false) (tail : t.pins.ocTail = false) (row : exec i s = .next v)
    (ended : aside v = aside (Machine.finish t)) (relock : v.relock = none) :
    ∃ u, exec i s = .next u ∧ u.strokes = fiveStrokes pol after s ∧ u.units = 10 ∧ u.queue = [] ∧ u.relock = none ∧
      u.admitted = s.admitted ++ [⟨s.newId, o, .lock g Act.latches, .USER, s.reading, false, false, 10⟩] ∧
      (∀ l, (u.act (.latch l)).activity = .STROKING ∧ (u.act (.latch l)).state = before ∧
        (u.act (.latch l)).attempts = 1 ∧ (u.act (.latch l)).strokes = (s.act (.latch l)).strokes + 1) ∧
      (∀ c, u.act (.child c) = s.act (.child c)) ∧ u.windows = s.windows ∧ u.fobs = s.fobs ∧ u.search = s.search ∧
      u.hold = s.hold ∧ u.crash = s.crash ∧ u.slot = s.slot ∧ u.params = s.params ∧ u.store = s.store := by
  have rests := aside_restingLocks base rest
  have asked := (formJob_rest (o := o) (g := g) rests (by decide : Act.latches ≠ [])).2.aside formed
  have outer := outside_formJob o g Act.latches b
  have store := aside_storeSteady formed (storeSteady_of_outside outer (aside_storeSteady base hc.2.2))
  have out := outside_finish_steady store
  have ran := asked.all moves rests (fun l => by rw [aside_act base]; exact state l)
    ((congrArg State.units base :).trans free) (by rw [aside_params base]; exact budget) door tail
  have kept : ∀ {α : Type} (f : State → α), (∀ x, f (outside x) = f x) → (∀ x, f (aside x) = f x) → f v = f s := by
    intro α f ho ha
    rw [← ha v, ended, ha, ← ho, out, ho, ← ha t, formed, ha, ← ho, outer, ho, ← ha b, base, ha]
  have id := aside_newId base
  have reading := aside_reading base
  refine ⟨v, row, ?_, (congrArg State.units ended :).trans ran.units, (congrArg State.queue ended :).trans ran.queue, relock, ?_,
    fun l => ?_, fun c => ?_, ?_, kept _ (fun _ => rfl) (fun _ => rfl), kept _ (fun _ => rfl) (fun _ => rfl),
    kept _ (fun _ => rfl) (fun _ => rfl), kept _ (fun _ => rfl) (fun _ => rfl), ?_, kept _ (fun _ => rfl) (fun _ => rfl),
    kept _ (fun _ => rfl) (fun _ => rfl)⟩
  · refine (congrArg State.strokes ended :).trans (ran.strokes.trans ?_)
    unfold fiveStrokes
    rw [id, reading, aside_params base]
  · refine (congrArg State.admitted ended :).trans (ran.admitted.trans ?_)
    rw [id, reading, show b.admitted = s.admitted from (congrArg State.admitted base :)]
  · rw [aside_act ended, ← aside_act base]
    exact ran.acts l
  · rw [aside_act ended, ran.children, aside_act base]
  · exact (congrArg State.windows ended :).trans (ran.windows.trans (congrArg State.windows base :))
  · exact (congrArg State.slot ended :).trans (ran.slot.trans (congrArg State.slot base :))

/-- DEADLOCK drives the four doors, and drops TG, which is at its target (R9). -/
theorem Asked.doubled (h : Asked o .DEADLOCK Act.latches s t) (rest : restingLocks s)
    (locked : ∀ l, (s.act (.latch l)).state = .LOCKED) (free : s.units = 0)
    (budget : 10 ≤ s.params.driveBudget) (door : t.pins.ocDoor = false) :
    Ran o .DEADLOCK Act.latches (Latch.doors.map Act.latch) s (Machine.finish t) ∧ (Machine.finish t).strokes =
      [⟨some s.newId, .DOOR, .PLUS, Latch.doors.map (fun l => ⟨.latch l, .DEADLOCKED, s.params.deadlockStrokeTime⟩),
        s.params.deadlockStrokeTime, s.reading, 2, 8⟩] := by
  have state : ∀ a ∈ Act.latches, (s.act a).state = .LOCKED := fun a ha => by
    obtain ⟨l, -, e⟩ := List.mem_map.mp (show a ∈ Latch.all.map Act.latch from ha)
    rw [← e, locked]
  have left : Act.latches.filter (fun a => !atTarget .DEADLOCK a (s.act a).state) = Latch.doors.map Act.latch := by
    rw [List.filter_congr (fun a ha => by rw [state a ha]) (q := fun a => !atTarget .DEADLOCK a .LOCKED)]
    decide
  have ran := h.finish rest (by decide) left (by decide)
    (by rw [free]; exact (by decide : 0 + unitsOf (Latch.doors.map Act.latch) ≤ 10).trans budget) (.inl door) (.inr (by decide))
  have duration : ∀ a ∈ Latch.doors.map Act.latch, strokeDuration s.params .DEADLOCK a (s.act a).state = s.params.deadlockStrokeTime := by
    intro a ha
    exact if_neg (fun e => by subst e; revert ha; decide)
  have doors : ofGroup .DOOR (Latch.doors.map Act.latch) = Latch.doors.map Act.latch := by decide
  have tails : ofGroup .TAIL (Latch.doors.map Act.latch) = [] := by decide
  refine ⟨ran, ?_⟩
  rw [ran.strokes, doors, tails, strokesFor, strokesFor, if_neg (by decide), if_pos rfl, strokeRecord_even (by decide) duration]
  rfl

theorem finish_relock (s : State) : (Machine.finish s).relock = s.relock := (congrArg State.relock (outside_finish s) :)

theorem panelLatchRequest_job {id : Nat} (formed : (formJob o g as s).1 = .job id) :
    panelLatchRequest o g as s = cancelRelock (formJob o g as s).2 := by
  unfold panelLatchRequest
  generalize formJob o g as s = x at formed ⊢
  obtain ⟨answer, t⟩ := x
  dsimp only at formed
  rw [formed]

theorem exec_latchRequest {set target : Byte} (h : listening .M s) {id : Nat} (named : latchSetOf set = some as)
    (goal : latchGoalOf target = some g) (clear : g ≠ .UNLOCK → s.crash.latch = false)
    (shut : g = .DEADLOCK → s.anyAjar = false) (formed : (formJob .PORT_M g as (arrived .M s)).1 = .job id) :
    exec (.latchRequest .M set target) s =
      .next (respond .M 0x11#8 (Answer.accepted id) (Machine.finish (cancelRelock (formJob .PORT_M g as (arrived .M s)).2))) := by
  show commandRow .M 0x11#8 (acting (takeLatchRequest set target)) s = _
  rw [commandRow_listening h rfl]
  have first : ¬(g ≠ .UNLOCK ∧ (arrived .M s).crash.latch = true) := fun ⟨other, latch⟩ =>
    nomatch (clear other).symm.trans latch
  have second : ¬(g = .DEADLOCK ∧ (arrived .M s).anyAjar = true) := fun ⟨double, ajar⟩ =>
    nomatch (shut double).symm.trans ajar
  have taken : takeLatchRequest set target (arrived .M s) =
      (Answer.accepted id, cancelRelock (formJob .PORT_M g as (arrived .M s)).2) := by
    unfold takeLatchRequest
    rw [named, goal]
    dsimp only
    rw [if_neg first, if_neg second]
    generalize formJob .PORT_M g as (arrived .M s) = x at formed ⊢
    obtain ⟨answer, t⟩ := x
    dsimp only at formed
    rw [formed]
    rfl
  unfold acting
  dsimp only
  rw [taken]

/-- The pins of the state in which a request is formed are those that the attempt finds. -/
theorem pins_formJob (o : Origin) (g : Goal) (as : List Act) (b : State) : (formJob o g as b).2.pins = b.pins :=
  outside_pins (outside_formJob o g as b)

theorem aside_cancelRelock (s : State) : aside (cancelRelock s) = aside s := rfl

theorem aside_respond (p : Port) (c : Byte) (x : Answer) (s : State) : aside (respond p c x s) = aside s := rfl

theorem aside_arrived (p : Port) (s : State) : aside (arrived p s) = aside s := rfl

/-- The rocker asks for LOCK (R10). -/
def rocked (s : State) : State := { s with pins := { s.pins with rocker := some .LOCK }, phase := .ACTIVE }

/-- The key is turned to LOCK (R11). -/
def turned (s : State) : State := { s with pins := { s.pins with key := some .LOCK }, phase := .ACTIVE }

/-- The time of the key's LOCK (R11). -/
def timed (r : Reading) (s : State) : State := { s with keyLock := some r }

theorem aside_timed (r : Reading) (s : State) : aside (timed r s) = aside s := rfl

/-- A LOCK of all five that finds one COMFORT run in its way waits behind the shed (R102, R103). -/
theorem lock_sheds {w : Win} {k : WindowTask} {x : Job} {c : Commander} (hl : listening .M s) (hc : calm s) (rest : restingLocks s)
    (clear : s.crash.latch = false) (unlocked : ∀ l, (s.act (.latch l)).state = .UNLOCKED)
    (full : s.params.driveBudget < s.units + 10) (one : OneComfort w x k c s) (fit : fits .COMFORT .UP none w s = .FIT) :
    ∃ t, Asked .PORT_M .LOCK Act.latches (arrived .M s) t ∧ outside t = outside (cancelRelock (arrived .M s)) ∧
      exec (.latchRequest .M 0x1F#8 0#8) s = .next (respond .M 0x11#8 (Answer.accepted s.newId)
        (shedState (freshJob .PORT_M .LOCK Act.latches (arrived .M s)) w c (takeTriggers t))) := by
  have rests := aside_restingLocks (aside_arrived .M s) rest
  obtain ⟨answer, formed⟩ := formJob_rest (o := .PORT_M) (g := .LOCK) rests (by decide : Act.latches ≠ [])
  have row := exec_latchRequest (set := 0x1F#8) (target := 0#8) hl latchSetOf_five rfl (fun _ => clear) nofun answer
  have outer : outside (cancelRelock (formJob .PORT_M .LOCK Act.latches (arrived .M s)).2) = outside (cancelRelock (arrived .M s)) :=
    congrArg (fun x : State => { x with relock := none }) (outside_formJob .PORT_M .LOCK Act.latches (arrived .M s))
  have asked := formed.aside (aside_cancelRelock _)
  generalize cancelRelock (formJob .PORT_M .LOCK Act.latches (arrived .M s)).2 = t at outer row asked
  have win : ∀ v, (takeTriggers t).win v = s.win v := fun v => congrArg (fun y => y.get v) asked.windows
  obtain ⟨-, -, closed, -, -, -, acts⟩ := rest
  have named : ∀ a ∈ Act.latches, (takeTriggers t).act a = { s.act a with attempts := 0, activity := .QUEUED } := fun a ha => by
    rw [← act_arrived .M s a, ← asked.named a ha]
    exact act_congr rfl a
  have other : ∀ a, a ∉ Act.latches → (takeTriggers t).act a = s.act a := fun a ha =>
    (act_congr rfl a).trans ((asked.other a ha).trans (act_arrived ..))
  have latch : ∀ a ∈ Act.latches, (s.act a).state = .UNLOCKED := fun a ha => by
    obtain ⟨l, -, e⟩ := List.mem_map.mp (show a ∈ Latch.all.map Act.latch from ha)
    rw [← e, unlocked]
  have units : (takeTriggers t).units = s.units := asked.units
  have params : (takeTriggers t).params = s.params := asked.params
  have crowded : Crowded (freshJob .PORT_M .LOCK Act.latches (arrived .M s)) .LOCK Act.latches w x k c (takeTriggers t) :=
    { others := fun v hv => by rw [win]; exact one.others v hv
      running := by rw [win]; exact one.running
      mode := by rw [win]; exact one.mode
      commander := by rw [win]; exact one.commander
      job := by rw [win]; exact one.job
      admitted := asked.admitted.trans one.admitted
      targets := one.targets
      window := one.window
      queue := asked.queue
      jobTargets := rfl
      priority := rfl
      fresh := rfl
      strokes := asked.strokes
      limit := fun a ha => by rw [named a ha]; exact (acts a).2.2
      left := List.filter_eq_self.mpr (fun a ha => by rw [named a ha, latch a ha]; rfl)
      cost := by decide
      short := by rw [units, params]; exact full
      waits := fun a => by
        by_cases ha : a ∈ Act.latches
        · rw [named a ha]
          exact (acts a).2.1
        · rw [other a ha]
          exact (acts a).2.1
      fit := (fits_congr (win w) (outside_pins outer :) params (outside_crash outer :)).trans fit
      counter := ⟨_, asked.nextId, rfl⟩ }
  have ended := crowded.finish asked.due (by rw [asked.slot]; exact closed) (storeSteady_of_outside outer hc.2.2)
  exact ⟨t, asked, outer, by rw [row, ended]; rfl⟩

/-- Settles O16, by the row of each request: two strokes for LOCK and UNLOCK, one for DEADLOCK, and a shed where the
units do not suffice. -/
theorem lockFromRestDrivesAllFive : Obligations.LockFromRestDrivesAllFive := by
  intro t w k x c s hl hc rest clear door tail
  dsimp only
  have ho := hl.1
  obtain ⟨-, rocker, -, -, key, -⟩ := panelAndKeyFormTheirJobs .ROCKER s ho hc
  have formed : ∀ o g b, aside b = aside s → (formJob o g Act.latches b).1 = .job b.newId := fun o g b base =>
    (formJob_rest (aside_restingLocks base rest) (by decide)).1
  refine ⟨fun ⟨free, budget⟩ unlocked => ⟨?_, ?_, fun noTurn => ?_, fun runs due => ?_⟩, fun ⟨free, budget⟩ locked => ?_,
    fun ⟨free, budget⟩ locked shut => ?_, fun unlocked full idleWindows running mode commander job single task same fit => ?_⟩
  · have row : exec (.centralLockRocker .LOCK) s = .next (Machine.finish (panelLatchRequest .DRIVER_PANEL .LOCK Act.latches (rocked s))) :=
      rocker clear
    rw [panelLatchRequest_job (formed .DRIVER_PANEL .LOCK (rocked s) rfl)] at row
    exact all_from_rest moves_lock rest hc unlocked free budget (b := rocked s) rfl (aside_cancelRelock _)
      (by rw [cancelRelock_pins, pins_formJob]; exact door) (by rw [cancelRelock_pins, pins_formJob]; exact tail) row rfl
      (finish_relock _)
  · have row := exec_latchRequest (set := 0x1F#8) (target := 0#8) hl latchSetOf_five rfl (fun _ => clear) nofun (formed .PORT_M .LOCK _ (aside_arrived _ _))
    exact all_from_rest moves_lock rest hc unlocked free budget (aside_arrived _ _) (aside_cancelRelock _) (by rw [cancelRelock_pins, pins_formJob]; exact door)
      (by rw [cancelRelock_pins, pins_formJob]; exact tail) row (aside_respond _ _ _ _) (finish_relock _)
  · have row : exec (.keyCylinder .LOCK) s =
        .next (Machine.finish (timed ⟨s.now, false⟩ (panelLatchRequest .KEY_CYLINDER .LOCK Act.latches (turned s)))) :=
      key clear (fun ⟨⟨r, hr, _⟩, _⟩ => nomatch noTurn.symm.trans hr)
    rw [panelLatchRequest_job (formed .KEY_CYLINDER .LOCK (turned s) rfl)] at row
    have pins : (timed ⟨s.now, false⟩ (cancelRelock (formJob .KEY_CYLINDER .LOCK Act.latches (turned s)).2)).pins =
      (turned s).pins := pins_formJob ..
    exact all_from_rest moves_lock rest hc unlocked free budget (b := turned s) rfl
      ((aside_timed ⟨s.now, false⟩ _).trans (aside_cancelRelock _)) (by rw [pins]; exact door) (by rw [pins]; exact tail) row rfl
      (finish_relock _)
  · have row : exec .relockTimerExpiry s = .next (Machine.finish (formJob .RELOCK .LOCK Act.latches { s with relock := none }).2) :=
      congrArg _ (expiry_due ho runs due relockWork)
    exact all_from_rest moves_lock rest hc unlocked free budget (b := { s with relock := none }) rfl rfl (by rw [pins_formJob]; exact door)
      (by rw [pins_formJob]; exact tail) row rfl ((finish_relock _).trans (outside_relock (outside_formJob ..)))
  · have row := exec_latchRequest (set := 0x1F#8) (target := 2#8) hl latchSetOf_five rfl nofun nofun (formed .PORT_M .UNLOCK _ (aside_arrived _ _))
    exact all_from_rest moves_unlock rest hc locked free budget (aside_arrived _ _) (aside_cancelRelock _)
      (by rw [cancelRelock_pins, pins_formJob]; exact door) (by rw [cancelRelock_pins, pins_formJob]; exact tail) row
      (aside_respond _ _ _ _) (finish_relock _)
  · have base : aside (arrived .M s) = aside s := aside_arrived .M s
    have rests := aside_restingLocks base rest
    obtain ⟨answer, asked⟩ := formJob_rest (o := .PORT_M) (g := .DEADLOCK) rests (by decide : Act.latches ≠ [])
    have row := exec_latchRequest (set := 0x1F#8) (target := 1#8) hl latchSetOf_five rfl (fun _ => clear) (fun _ => anyAjar_false shut) answer
    obtain ⟨ran, strokes⟩ := (asked.aside (aside_cancelRelock _)).doubled rests (fun l => by rw [act_arrived]; exact locked l) free budget
      (by rw [cancelRelock_pins, pins_formJob]; exact door)
    have off := finish_relock (cancelRelock (formJob .PORT_M .DEADLOCK Act.latches (arrived .M s)).2)
    generalize Machine.finish (cancelRelock (formJob .PORT_M .DEADLOCK Act.latches (arrived .M s)).2) = u at ran row off strokes
    refine ⟨_, row, strokes, ran.units.trans (congrArg (· + 8) free), ran.queue, off, fun l hl => ?_, ?_, fun c => ?_, ?_, ran.windows, ran.slot⟩
    · obtain ⟨activity, state, attempts, -⟩ := ran.driven (.latch l) (List.mem_map_of_mem hl)
      rw [act_arrived, locked] at state
      exact ⟨activity, state, attempts⟩
    · exact (ran.dropped (.latch .TG) (by decide) (by decide)).trans (by rw [act_arrived])
    · exact (ran.other (.child c) (by cases c <;> decide)).trans (act_arrived ..)
    · rw [respond, port_setPort_same]
      rfl
  · have one : OneComfort w x k c s := ⟨idleWindows, running, mode, commander, job, single, task, same⟩
    obtain ⟨t, asked, outer, row⟩ := lock_sheds hl hc rest clear unlocked full one fit
    have win : ∀ v, t.win v = s.win v := fun v => congrArg (fun y => y.get v) asked.windows
    have now : t.now = s.now := asked.now
    have hold : t.hold = s.hold := (outside_hold outer :)
    refine ⟨_, row, asked.strokes, asked.units, ?_, fun v hv => ?_, asked.admitted.trans single, ?_, fun l => ?_, ?_, hold, asked.slot⟩
    · exact (win_shedState (freshJob .PORT_M .LOCK Act.latches (arrived .M s)) w c (takeTriggers t)).trans (congrArg₂ (fun n r => stopRecord n none r) now (win w))
    · exact (win_setWin_ne (takeTriggers t) _ hv).trans (win v)
    · have before : ∀ a, (s.act a).wait = none := fun a => by
        obtain ⟨-, -, -, -, -, -, acts⟩ := rest
        exact (acts a).2.1
      have waits : ∀ a, (t.act a).wait = none := fun a => by
        by_cases ha : a ∈ Act.latches
        · rw [asked.named a ha, act_arrived]
          exact before a
        · rw [asked.other a ha, act_arrived]
          exact before a
      have id : ∀ y : Job, y.id = s.newId → (stopWindow w none (takeTriggers t)).newId =
          ({ s with queue := [y], nextId := succId s.newId } : State).newId := fun y hy =>
        newId_of_rest (s := { s with queue := [y], nextId := succId s.newId })
          (z := freshJob .PORT_M .LOCK Act.latches (arrived .M s)) hy.symm asked.nextId rfl single
          (fun a => (congrArg ActRec.wait (act_congr rfl a)).trans (before a)) asked.queue (asked.admitted.trans single)
          (fun a => (congrArg ActRec.wait (act_congr rfl a)).trans (waits a))
      have reading : (takeTriggers t).reading = s.reading := congrArg (fun n => (⟨n, false⟩ : Reading)) now
      show _ :: (if (takeTriggers t).hold.isOpen then [comfortAgain _ w c (takeTriggers t)] else []) = _
      rw [show (takeTriggers t).hold = s.hold from hold, comfortAgain, id { freshJob .PORT_M .LOCK Act.latches (arrived .M s) with shed := true } rfl, reading]
      rfl
    · obtain ⟨activity, state⟩ : (t.act (.latch l)).activity = .QUEUED ∧ (t.act (.latch l)).state = .UNLOCKED := by
        rw [asked.named _ (mem_latches l), act_arrived]
        exact ⟨rfl, unlocked l⟩
      have record := (act_shedState (freshJob .PORT_M .LOCK Act.latches (arrived .M s)) w c (takeTriggers t) (.latch l)).trans
        (act_congr (s := t) rfl (.latch l))
      rw [← record] at activity state
      exact ⟨activity, state⟩
    · rw [respond, port_setPort_same]
      rfl

end

end Sys2Proof.Machine

/-! ## The gate of a switch and its release (R19, R43) -/

namespace Sys2Proof.Machine

open Sys2Proof

section
variable {s : State} {o : Origin} {sw : Switch}

/-- What a release leaves of a window (R43, R48). -/
def released (now : Time) (o : Origin) (r : Window) : Window :=
  if r.run = .RUNNING ∧ (r.mode = .MANUAL ∨ r.mode = .FORCED) ∧ r.commander.map (·.origin) = some o then stopRecord now none r
  else r

/-- A release at a window that is IDLE or RUNNING changes its record alone (R43). -/
theorem releaseAt_eq {w : Win} (h : (s.win w).run = .IDLE ∨ (s.win w).run = .RUNNING) :
    releaseAt o s w = s.setWin w (released s.now o (s.win w)) := by
  rcases h with e | e
  · have none : s.standing w = none := by simp [State.standing, e]
    simp [releaseAt, released, none, e]
  · have own : s.standing w = (s.win w).commander.map (fun c => ⟨(s.win w).mode, (s.win w).dir, c⟩) := by
      simp [State.standing, e]
    have drop : dropStanding w s = s.setWin w (stopRecord s.now none (s.win w)) := by simp [dropStanding, e, stopWindow]
    unfold releaseAt released
    rw [own, drop]
    cases (s.win w).commander with
    | none => simp
    | some c =>
      by_cases manual : ((s.win w).mode = .MANUAL ∨ (s.win w).mode = .FORCED) ∧ c.origin = o
      · simp [manual, e]
      · simp only [Option.map_some]
        rw [if_neg manual, if_neg (fun k => manual ⟨k.2.1, Option.some.inj k.2.2⟩), setWin_win]

theorem releaseAts_eq {ws : List Win} (nodup : ws.Nodup) (h : ∀ v ∈ ws, (s.win v).run = .IDLE ∨ (s.win v).run = .RUNNING) :
    ws.foldl (releaseAt o) s = { s with windows := (ws.foldl (releaseAt o) s).windows } ∧
      (∀ v ∈ ws, (ws.foldl (releaseAt o) s).win v = released s.now o (s.win v)) ∧
      ∀ v, v ∉ ws → (ws.foldl (releaseAt o) s).win v = s.win v := by
  induction ws generalizing s with
  | nil => exact ⟨rfl, nofun, fun _ _ => rfl⟩
  | cons w ws ih =>
    obtain ⟨out, rest⟩ := List.nodup_cons.mp nodup
    have other : ∀ v ∈ ws, (s.setWin w (released s.now o (s.win w))).win v = s.win v := fun v hv =>
      win_setWin_ne s _ (fun e => out (e ▸ hv))
    obtain ⟨whole, each, outside⟩ := ih (s := s.setWin w (released s.now o (s.win w))) rest
      (fun v hv => by rw [other v hv]; exact h v (List.mem_cons_of_mem _ hv))
    rw [List.foldl_cons, releaseAt_eq (h w List.mem_cons_self)]
    refine ⟨whole, fun v hv => ?_, fun v hv => ?_⟩
    · by_cases e : v = w
      · rw [e, outside w out, win_setWin_same]
      · have inside := (List.mem_cons.mp hv).resolve_left e
        rw [each v inside, other v inside]
        rfl
    · obtain ⟨ne, later⟩ := not_or.mp (mt List.mem_cons.mpr hv)
      rw [outside v later, win_setWin_ne s _ ne]

theorem nodup_releaseWindows (sw : Switch) : (releaseWindows sw).Nodup := by
  cases sw <;> simp [releaseWindows]

theorem stageMove_isSome {st : Stage} (h : st ≠ .NEUTRAL) : ∃ m, stageMove st = some m := by
  cases st with
  | NEUTRAL => exact absurd rfl h
  | UP1 => exact ⟨_, rfl⟩
  | UP2 => exact ⟨_, rfl⟩
  | DOWN1 => exact ⟨_, rfl⟩
  | DOWN2 => exact ⟨_, rfl⟩

/-- The state in which a change of stage is taken (R41, R184). -/
def switched (sw : Switch) (st : Stage) (s : State) : State :=
  { s with pins := { s.pins with switches := s.pins.switches.set sw st }, phase := .ACTIVE }

theorem exec_switch (ho : operating s) {st : Stage} (changed : s.pins.switches.get sw ≠ st) {work : State → State}
    (taken : ∀ t, switchWork sw (s.pins.switches.get sw) st t = work (wake t)) :
    exec (.windowSwitchChange sw st) s = .next (finish (work (switched sw st s))) := by
  show Host.Outcome.next _ = _
  rw [lineEvent_changed (by simpa using changed), event_operating (operating_pins ho _), taken,
    wake_operating (operating_pins ho _)]
  rfl

/-- Settles O23. -/
theorem switchGateAndRelease : Obligations.SwitchGateAndRelease := by
  intro sw st s ho hc
  refine ⟨fun neutral moved gate noAuto => ?_, fun moved standing => ?_⟩
  · obtain ⟨⟨d, two⟩, move⟩ := stageMove_isSome moved
    have taken : ∀ t, switchWork sw (s.pins.switches.get sw) st t = pressSwitch sw d two (wake t) := fun t => by
      unfold switchWork
      rw [neutral, move]
      rfl
    have gate' : gated sw (switched sw st s) = true := gate
    have noAuto' : autoOf sw (switched sw st s) = false := noAuto
    have still : pressSwitch sw d two (switched sw st s) = switched sw st s := by
      unfold pressSwitch
      simp [gate', noAuto']
    rw [exec_switch ho (by rw [neutral]; exact fun e => moved e.symm) taken, still,
      finish_calm (s := switched sw st s) (calm_woken hc _)]
    rfl
  · obtain ⟨move, from_⟩ := stageMove_isSome moved
    have taken : ∀ t, switchWork sw (s.pins.switches.get sw) .NEUTRAL t = releaseSwitch sw (wake t) := fun t => by
      unfold switchWork
      rw [from_]
      rfl
    obtain ⟨whole, each, other⟩ := releaseAts_eq (o := switchOrigin sw) (s := setSpent sw false (switched sw .NEUTRAL s))
      (nodup_releaseWindows sw) standing
    have row := exec_switch ho moved taken
    unfold releaseSwitch at row
    generalize (releaseWindows sw).foldl (releaseAt (switchOrigin sw)) (setSpent sw false (switched sw .NEUTRAL s)) = u at *
    have calm' : calm u := by
      rw [whole]
      exact calm_congr (s := s) rfl rfl rfl rfl rfl hc
    rw [finish_calm calm'] at row
    exact ⟨u, row, each, other, whole⟩

end

end Sys2Proof.Machine

/-! ## What an event's end leaves of the notices

A kind of notice that is pending stays pending to the end of its event (R8, R173). -/

namespace Sys2Proof.Machine

open Sys2Proof

section
variable {k : Notice} {s t : State} {a : Act}

/-! ### Records, queue and windows -/

theorem noticed_of_ports (h : noticed k s) (e : t.ports = s.ports) : noticed k t := by
  intro p
  rw [show t.port p = s.port p from congrArg (fun x : PerPort PortRec => x.get p) e]
  exact h p

theorem noticed_raised {n : Notice} (h : noticed k s) : noticed k (raise n s) := (plain_raise (.refl s)).notice k h

theorem noticed_setAct {r : ActRec} (h : noticed k s) : noticed k (s.setAct a r) := (plain_setAct (.refl s)).notice k h

theorem noticed_setWin {w : Win} {r : Window} (h : noticed k s) : noticed k (s.setWin w r) := noticed_of_ports h rfl

theorem noticed_tookId (h : noticed k s) : noticed k s.tookId := h

theorem noticed_setSlot {c : CrashSlot} (h : noticed k s) : noticed k { s with slot := c } := h

theorem noticed_setQueue {q : List Job} (h : noticed k s) : noticed k (s.setQueue q) := by
  unfold State.setQueue
  dsimp only
  split
  · exact noticed_raised (noticed_of_ports h rfl)
  · split <;> exact noticed_of_ports h rfl

theorem noticed_takeFromQueue {id : Nat} (h : noticed k s) : noticed k (takeFromQueue id s) := noticed_setQueue h

theorem noticed_enterQueue {j : Job} (h : noticed k s) : noticed k (enterQueue j s) :=
  noticed_of_ports (noticed_setQueue h) rfl

theorem noticed_dropQueued (h : noticed k s) : noticed k (dropQueued a s) := by
  unfold dropQueued
  dsimp only
  split
  · exact noticed_of_ports (noticed_setQueue h) rfl
  · exact noticed_setQueue h

theorem noticed_foldl {α : Type} {op : State → α → State} (step : ∀ u x, noticed k u → noticed k (op u x)) (xs : List α)
    (h : noticed k s) : noticed k (xs.foldl op s) := List.foldlRecOn xs op h (fun u hu x _ => step u x hu)

theorem noticed_stopWindow {w : Win} {c : Option Continuation} (h : noticed k s) : noticed k (stopWindow w c s) := noticed_setWin h

theorem noticed_idleWindow {w : Win} (h : noticed k s) : noticed k (idleWindow w s) := by
  unfold idleWindow
  dsimp only
  split
  · exact noticed_setWin h
  · exact noticed_raised (noticed_setWin h)

theorem noticed_rejectWindowJob {j : Job} {w : Win} (h : noticed k s) : noticed k (rejectWindowJob j w s) := by
  unfold rejectWindowJob
  dsimp only
  split
  · exact noticed_idleWindow (noticed_takeFromQueue h)
  · exact noticed_takeFromQueue h

theorem noticed_startRun {w : WindowTask} (h : noticed k s) : noticed k (startRun w s) := by
  unfold startRun startDrive
  dsimp only
  split
  · exact noticed_raised (noticed_setWin (noticed_stopWindow (noticed_setWin h)))
  · exact noticed_setWin h

theorem noticed_admitWindow {j : Job} {w : WindowTask} (h : noticed k s) : noticed k (admitWindow j w s) :=
  noticed_startRun (noticed_setWin (noticed_of_ports (noticed_takeFromQueue (id := j.id) h) rfl))

/-! ### Members -/

theorem noticed_resumeAs {x : Activity} (h : noticed k s) : noticed k (resumeAs a x s) := (plain_resumeAs (.refl s)).notice k h

theorem noticed_setFaulted {f : LockFault} (h : noticed k s) : noticed k (setFault a f s) := (plain_setFault (.refl s)).notice k h

theorem noticed_leaveSlot (h : noticed k s) : noticed k (leaveSlot a s) := by cases a <;> exact h

theorem noticed_failed {f : LockFault} (h : noticed k s) : noticed k (finalFailure a f s) :=
  noticed_resumeAs (noticed_leaveSlot (noticed_setAct (noticed_setFaulted h)))

theorem noticed_meetQueued (h : noticed k s) : noticed k (meetQueued a s) := by
  unfold meetQueued
  split
  · split
    · split
      · exact noticed_dropQueued h
      · exact noticed_resumeAs (noticed_leaveSlot (noticed_setAct h))
    · exact h
  · exact h

theorem noticed_joinWaiting (h : noticed k s) : noticed k (joinWaiting a s) := by cases a <;> exact h

theorem noticed_enterCrashWait {f : LockFault} (h : noticed k s) : noticed k (enterCrashWait a f s) := by
  exact noticed_meetQueued (noticed_joinWaiting (noticed_setAct h))

theorem noticed_failAttempt {st : Stroke} {m : Member} {f : LockFault} (h : noticed k s) : noticed k (failAttempt st m f s) := by
  unfold failAttempt
  split
  · split
    · exact noticed_enterCrashWait h
    · split
      · split
        · exact noticed_meetQueued (noticed_setAct (noticed_of_ports h rfl))
        · exact noticed_failed h
      · exact noticed_failed h
  · exact noticed_failed h

theorem noticed_settleJob {job : Option Nat} (h : noticed k s) : noticed k (settleJob job s) := by
  rw [settleJob_eq]
  exact noticed_of_ports h rfl

theorem noticed_checkOverload {g : Group} (h : noticed k s) : noticed k (checkOverload g s) := by
  unfold checkOverload cutGroup
  dsimp only
  split
  · split
    · exact h
    · have removed := noticed_foldl (op := fun t st => removeStroke st t) (fun _ _ h => noticed_of_ports h rfl)
        (s.strokes.filter (fun st => st.group = g)) h
      have cut := noticed_foldl (op := fun t (st : Stroke) => st.members.foldl (overcurrentMember st) t)
        (fun _ st h => noticed_foldl (fun _ _ h => noticed_failAttempt (noticed_setFaulted h)) st.members h)
        (s.strokes.filter (fun st => st.group = g)) removed
      exact noticed_of_ports (noticed_foldl (op := fun t (st : Stroke) => settleJob st.job t) (fun _ _ h => noticed_settleJob h)
        (s.strokes.filter (fun st => st.group = g)) cut) rfl
  · exact h

/-! ### Admission and shedding -/

theorem noticed_startStroke {job : Option Nat} {grp : Group} {g : Goal} {n : Nat} {as : List Act} (h : noticed k s) :
    noticed k (startStroke job grp g n as s) := (plain_startStroke as s).notice k h

theorem noticed_admitLock {j : Job} {g : Goal} {as rem : List Act} (h : noticed k s) : noticed k (admitLock j g as rem s) := by
  have base : noticed k (admitBase j as rem s) :=
    noticed_foldl (op := fun t a => dropAct a t) (fun _ _ h => noticed_setAct (noticed_setAct h)) _ (noticed_takeFromQueue h)
  rw [admitLock_eq]
  split
  · exact base
  · exact noticed_checkOverload (noticed_checkOverload (noticed_startStroke (noticed_startStroke (noticed_of_ports base rfl))))

theorem noticed_shedWindow {w : Win} (h : noticed k s) : noticed k (shedWindow w s) := by
  unfold shedWindow requeueComfort
  dsimp only
  split
  · split
    · exact noticed_stopWindow h
    · exact noticed_enterQueue (noticed_tookId (noticed_stopWindow h))
  · exact noticed_stopWindow h

theorem noticed_shedRuns {ws : List Win} {covered need : Nat} (h : noticed k s) : noticed k (shedRuns ws covered need s) := by
  induction ws generalizing covered s with
  | nil => exact h
  | cons w ws ih =>
    unfold shedRuns
    split
    · exact h
    · exact ih (noticed_shedWindow h)

theorem noticed_shedFor {j : Job} {cost : Nat} (h : noticed k s) : noticed k (shedFor j cost s) := by
  unfold shedFor
  dsimp only
  split
  · exact h
  · split
    · exact h
    · exact noticed_setQueue (noticed_shedRuns h)

theorem noticed_scanQueue (h : noticed k s) : noticed k (scanQueue s) := by
  have scan : ∀ (ids : List Nat) (b : Bool) (s : State), noticed k s → noticed k (scanJobs ids b s) := by
    intro ids
    induction ids with
    | nil => exact fun _ _ h => h
    | cons id ids ih =>
      intro b s h
      simp only [scanJobs]
      split
      · exact ih _ _ h
      · rename_i j found
        split
        · rename_i t passed
          refine ih _ _ ?_
          rcases visit_passed passed with ⟨g, as, -, -, rfl⟩ | ⟨w, -, rfl | rfl⟩
          · exact noticed_admitLock h
          · exact noticed_rejectWindowJob h
          · exact noticed_admitWindow h
        · have shed : ∀ o : Option Nat, noticed k (match b, o with | false, some cost => shedFor j cost s | _, _ => s) := by
            intro o
            split
            · exact noticed_shedFor h
            · exact h
          split
          · exact shed _
          · exact ih _ _ (shed _)
  exact scan _ _ _ h

/-! ### The end of an event -/

theorem noticed_serveSlot (h : noticed k s) : noticed k (serveSlot s) := by
  have pending : ∀ (t : State) (l : Latch), noticed k t → noticed k (dropPending l t) := by
    intro t l h
    unfold dropPending
    split
    · exact noticed_setAct (noticed_setAct (noticed_setSlot h))
    · exact h
  have group : ∀ (grp : Group) {t : State}, noticed k t → noticed k (serveGroup grp t) := by
    intro grp t h
    unfold serveGroup
    extract_lets ls as runs u
    split
    · exact h
    · have started : noticed k u := noticed_startStroke h
      generalize u = u at started
      exact noticed_checkOverload (noticed_setSlot started)
  exact group .TAIL (group .DOOR (noticed_foldl (op := fun t l => dropPending l t) pending Latch.all h))

theorem noticed_finish (h : noticed k s) : noticed k (finish s) := by
  have tried : ∀ {t : State}, noticed k t → noticed k (attempt t) := by
    intro t h
    unfold attempt
    dsimp only
    split
    · split
      · exact noticed_scanQueue (noticed_setSlot (noticed_serveSlot h))
      · exact noticed_serveSlot h
    · exact noticed_scanQueue h
  have settled : ∀ (n : Nat) {t : State}, noticed k t → noticed k (settleFuel n t) := by
    intro n
    induction n with
    | zero => exact fun h => noticed_of_ports h rfl
    | succ n ih =>
      intro t h
      unfold settleFuel
      split
      · exact ih (tried (noticed_of_ports h rfl))
      · exact h
  unfold finish
  rw [pump_writer]
  refine noticed_of_ports (settled 64 ?_) rfl
  unfold closeDue
  split
  · exact noticed_of_ports h rfl
  · exact h

end

end Sys2Proof.Machine

/-! ## PRESENT that is accepted (R115, R116, R138, R139)

`background s` is what a presentation's action leaves alone: the state less what the locks, the queue and the windows hold,
the relock timer, the hold and the entry action record. -/

namespace Sys2Proof.Machine

open Sys2Proof

def background (s : State) : State := { outside s with relock := none, hold := Hold.closed, entry := none }

section
variable {s t : State} {b : Button} {i : Fin 8} {p : Port} {c : Nat}

/-! ### The background of an acceptance -/

theorem background_of_outside (h : outside t = outside s) : background t = background s :=
  congrArg (fun x : State => { x with relock := none, hold := Hold.closed, entry := none }) h

section
variable (h : background t = background s)
include h

theorem background_fob (i : Fin 8) : t.fob i = s.fob i := (congrArg (fun x => x.fob i) h :)
theorem background_search : t.search = s.search := (congrArg State.search h :)
theorem background_params : t.params = s.params := (congrArg State.params h :)
theorem background_crash : t.crash = s.crash := (congrArg State.crash h :)
theorem background_now : t.now = s.now := (congrArg State.now h :)
theorem background_pins : t.pins = s.pins := (congrArg State.pins h :)

end

theorem background_cancelRelock (s : State) : background (cancelRelock s) = background s := rfl

theorem outside_stopComfort (s : State) (w : Win) : outside (stopComfort s w) = outside s := by
  have stopped : outside (if (s.win w).run = .RUNNING ∧ (s.win w).mode = .COMFORT then stopWindow w none s
      else if (s.win w).run = .BRAKING ∧ (s.win w).cont.any (fun c => !c.reversal && c.mode = .COMFORT) = true then
        dropContinuation w s else s) = outside s := by
    split
    · simp
    · split <;> simp
  unfold stopComfort
  dsimp only
  split
  · split
    · rw [outside_removeWindowJob, stopped]
    · exact stopped
  · exact stopped

theorem background_closeHold (s : State) : background (closeHold s) = background s := by
  unfold closeHold
  dsimp only
  split
  · split
    · exact (background_of_outside (outside_foldl stopComfort outside_stopComfort Win.all _)).trans rfl
    · rfl
  · rfl

theorem background_actedBy {x : Taken × State} (h : background x.2 = background s) : background (actedBy x).state = background s := by
  obtain ⟨answer, t⟩ := x
  cases answer <;> exact h

theorem background_cancelIfDone {x : Acted} (h : background x.state = background s) :
    background (cancelIfDone x).state = background s := by
  unfold cancelIfDone
  split
  · exact (background_cancelRelock _).trans h
  · exact h

theorem background_entryUnlock {second allowed : Bool} {x : Acted} (h : background x.state = background s) :
    background (entryUnlock second allowed x).state = background s := by
  unfold entryUnlock
  split
  · exact h
  · split
    · exact h
    · cases allowed
      · exact (background_cancelRelock _).trans h
      · exact h

theorem background_formed (o : Origin) (g : Goal) (as : List Act) (s : State) :
    background (actedBy (formJob o g as s)).state = background s :=
  background_actedBy (background_of_outside (outside_formJob o g as s))

theorem background_lockAction (i : Fin 8) (p : Port) (s : State) : background (lockAction i p s).state = background s := by
  unfold lockAction
  split
  · rfl
  · split
    · split
      · rfl
      · exact background_cancelIfDone (background_formed ..)
    · split
      · rfl
      · exact background_cancelIfDone (background_formed ..)

theorem background_actFor (b : Button) (i : Fin 8) (p : Port) (s : State) : background (actFor b i p s).state = background s := by
  cases b with
  | LOCK => exact background_lockAction i p s
  | LOCK_HELD => exact background_lockAction i p s
  | UNLOCK => exact background_entryUnlock (background_formed ..)
  | PASSIVE =>
    unfold actFor
    dsimp only
    split
    · split
      · exact background_entryUnlock (background_formed ..)
      · unfold passiveLock
        split
        · rfl
        · exact background_cancelIfDone (background_formed ..)
    · rfl

theorem background_accept (i : Fin 8) (c : Nat) (b : Button) (p : Port) (s : State) :
    background (accept i c b p s).state = background (consumeCounter i c b p s) := by
  have closed : background (closeByButton b (consumeCounter i c b p s)) = background (consumeCounter i c b p s) := by
    unfold closeByButton
    split
    · rfl
    · exact background_closeHold _
  have acted := (background_actFor b i p (closeByButton b (consumeCounter i c b p s))).trans closed
  unfold accept openByButton
  dsimp only
  split <;> exact acted

theorem accept_entry (i : Fin 8) (c : Nat) (b : Button) (p : Port) (s : State) :
    (accept i c b p s).state.entry = some ⟨entryButtonOf b, i, s.reading, p⟩ := by
  have now := background_now (background_accept i c b p s)
  have record : (accept i c b p s).state.entry = some ⟨entryButtonOf b, i, (accept i c b p s).state.reading, p⟩ := by
    unfold accept openByButton
    dsimp only
    split <;> rfl
  rw [record, State.reading, now]
  rfl

theorem accept_noticed (i : Fin 8) (c : Nat) (b : Button) (p : Port) (s : State) :
    noticed .ENTRY_ACCEPTED (accept i c b p s).state := noticed_raise _ _

/-! ### Verification (R115) -/

theorem verdict_accepted {resync : Bool} {k : Candidate} (window : resync = false → (s.fob i).C < c ∧ c ≤ (s.fob i).C + 64)
    (again : resync = true → (s.fob i).C + 64 < c ∧ c ≤ (s.fob i).C + 32768 ∧ (s.fob i).candidate = some k ∧
      k.counter < c ∧ c ≤ k.counter + 4) : verdict i c b p s = (.ACCEPTED, resync) := by
  have above : (s.fob i).C < c := by
    cases resync with
    | false => exact (window rfl).1
    | true => have := (again rfl).1; omega
  unfold verdict
  dsimp only
  rw [if_neg (by omega), if_neg (by omega), if_neg (by omega)]
  cases resync with
  | false => rw [if_pos (window rfl).2]
  | true =>
    obtain ⟨low, high, candidate, after, near⟩ := again rfl
    have confirmed : confirms (s.fob i) c = true := by simp [confirms, candidate, after, near]
    rw [if_neg (by omega), if_pos high, if_pos confirmed]

/-- What an accepted presentation answers. -/
def acceptedAs (resync : Bool) (i : Fin 8) (x : Acted) : Presented := ⟨.ACCEPTED, resync, some x.result, x.job, some i⟩

theorem verifyPresent_accepted {identity : BitVec 32} {resync : Bool} (active : activeSlot identity s = some i)
    (passed : verdict i c b p s = (.ACCEPTED, resync)) :
    verifyPresent identity c b p s = (acceptedAs resync i (accept i c b p s), (accept i c b p s).state) := by
  unfold verifyPresent
  rw [active]
  dsimp only
  rw [passed]
  rfl

/-- The state that an accepted presentation leaves to the end of its event. -/
def presented (x : Option OpenSearch) (resync : Bool) (i : Fin 8) (y : Acted) : State :=
  match x with
  | some _ => (closeByAnswer (acceptedAs resync i y, y.state)).2
  | none => y.state

theorem takePresent_accepted {identity : BitVec 32} {counter : BitVec 24} {button tag : Byte} {resync : Bool} {x : OpenSearch}
    (named : buttonOf button = some b) (active : activeSlot identity s = some i)
    (passed : verdict i counter.toNat b p s = (.ACCEPTED, resync))
    (passive : b = .PASSIVE → p = .E ∧ s.search.current = some x ∧ x.tag = tag.toNat) :
    takePresent p identity counter button tag s =
      (presentedAnswer (acceptedAs resync i (accept i counter.toNat b p s)),
        presented (if b = .PASSIVE then some x else none) resync i (accept i counter.toNat b p s)) := by
  have verified := verifyPresent_accepted active passed
  unfold takePresent
  rw [named]
  cases b with
  | PASSIVE =>
    obtain ⟨port, current, matches_⟩ := passive rfl
    have open_ : matchTag tag.toNat s = .OPEN := by simp [matchTag, current, matches_]
    dsimp only
    rw [if_neg (by rw [port]; nofun), passivePresent, open_]
    dsimp only
    rw [verified]
    rfl
  | LOCK => dsimp only; rw [verified]; rfl
  | LOCK_HELD => dsimp only; rw [verified]; rfl
  | UNLOCK => dsimp only; rw [verified]; rfl

/-! ### The end of the event -/

/-- An accepted answer closes the search x (R138, R139). -/
def foundBy (x : OpenSearch) (a : SearchAnswer) (s : State) : State :=
  raise .SEARCH_ENDED { s with search := { s.search with
    current := none
    last := some (closedRecord x s.reading .FOUND_ACCEPTED (some a)) } }

/-- A PASSIVE answer closes the search that it names. -/
theorem presented_closed {x : OpenSearch} {resync : Bool} {y : Acted} (current : y.state.search.current = some x) :
    presented (some x) resync i y =
      foundBy x ⟨some i, .ACCEPTED, some y.result, if y.job = 0 then none else some y.job⟩ y.state := by
  unfold presented closeByAnswer closeSearch closeQuietly acceptedAs foundBy
  simp [current, startsHoldOff]

/-- A presentation's end touches the search and the notices alone. -/
theorem presented_frame (x : Option OpenSearch) (resync : Bool) (i : Fin 8) (y : Acted) :
    ∃ search ports, presented x resync i y = { y.state with search := search, ports := ports } := by
  cases x with
  | none => exact ⟨y.state.search, y.state.ports, rfl⟩
  | some x =>
    cases current : y.state.search.current with
    | some z =>
      unfold presented closeByAnswer closeSearch closeQuietly acceptedAs
      simp only [current, startsHoldOff]
      exact ⟨_, _, rfl⟩
    | none =>
      unfold presented closeByAnswer closeSearch
      simp only [current]
      exact ⟨y.state.search, y.state.ports, rfl⟩

theorem presented_noticed {k : Notice} {x : Option OpenSearch} {resync : Bool} {y : Acted} (h : noticed k y.state) :
    noticed k (presented x resync i y) := by
  cases x with
  | none => exact h
  | some x =>
    unfold presented closeByAnswer closeSearch
    dsimp only
    split
    · refine noticed_raised (noticed_of_ports h ?_)
      unfold closeQuietly
      split <;> rfl
    · exact h

/-- A pending commit keeps the writer at work (R178). -/
theorem pump_running {t : State} (pending : (t.fob i).commitPending = true) : (pump t).writer.running.isSome = true := by
  unfold pump
  split
  next running => exact running
  next =>
    split
    · rfl
    · have found : (nextCommit t).isSome = true := by
        unfold nextCommit
        rw [List.find?_isSome]
        exact ⟨i, List.mem_finRange i, pending⟩
      obtain ⟨j, next⟩ := Option.isSome_iff_exists.1 found
      rw [next]
      rfl

theorem finish_running {t : State} (pending : (t.fob i).commitPending = true) : (finish t).writer.running.isSome = true := by
  refine pump_running (i := i) ?_
  rwa [show (settle t).fob i = t.fob i from congrArg (fun x => x.get i) (outside_fobs (outside_settle t))]

end

end Sys2Proof.Machine

/-! ## An accepted PRESENT on the port (R116, R120, R121) -/

namespace Sys2Proof.Machine

open Sys2Proof

section
variable {s t u : State} {b : Button} {i : Fin 8} {p : Port}

/-! ### The response -/

/-- The result's code and the resync indication are the low five bits of the response (R120). -/
theorem presentedAnswer_low (resync : Bool) (i : Fin 8) (x : Acted) :
    (presentedAnswer (acceptedAs resync i x)).data.extractLsb' 0 5 = if resync then 16#5 else 0#5 := by
  refine BitVec.eq_of_toNat_eq ?_
  let rest := packFields [(3, ((some x.result).map actionCode).getD 7), (8, x.job), (4, ((some i).map (·.val)).getD 15)]
  have fields : (presentedAnswer (acceptedAs resync i x)).data = packData ([(4, 0), (1, bit resync)] ++
      [(3, ((some x.result).map actionCode).getD 7), (8, x.job), (4, ((some i).map (·.val)).getD 15)]) := rfl
  have low : packFields ([(4, 0), (1, bit resync)] ++
      [(3, ((some x.result).map actionCode).getD 7), (8, x.job), (4, ((some i).map (·.val)).getD 15)]) =
      packFields [(4, 0), (1, bit resync)] + 2 ^ 5 * rest := packFields_append _ _
  rw [fields, packData, low, BitVec.extractLsb'_toNat, BitVec.toNat_ofNat, Nat.shiftRight_zero,
    Nat.mod_mod_of_dvd _ (by decide), Nat.add_mul_mod_self_left]
  cases resync <;> rfl

theorem permitted_present (p : Port) : permittedOn p 0x30#8 = true := by cases p <;> decide

theorem exec_present {identity : BitVec 32} {counter : BitVec 24} {button tag : Byte} {x : Presented} (h : listening p s)
    (e : takePresent p identity counter button tag (arrived p s) = (presentedAnswer x, t)) :
    exec (.present p identity counter button tag) s = .next (respond p 0x30#8 (presentedAnswer x) (finish t)) := by
  have row : exec (.present p identity counter button tag) s =
      commandRow p 0x30#8 (acting (takePresent p identity counter button tag)) s := rfl
  rw [row, commandRow_listening h (permitted_present p)]
  simp only [acting, e]

/-- A response keeps what is pending. -/
theorem noticed_respond {k : Notice} {code : Byte} {a : Answer} (h : noticed k t) : noticed k (respond p code a t) := by
  intro q
  have kept : ((respond p code a t).port q).pending = (t.port q).pending := by cases p <;> cases q <;> rfl
  rw [kept]
  exact h q

theorem slot_respond (p : Port) (code : Byte) (a : Answer) (t : State) :
    ((respond p code a t).port p).slot = ⟨code, a.status, a.data⟩ := by cases p <;> rfl

/-! ### What an accepted presentation leaves -/

/-- The end of an event and the response to it keep what no drive, queue or notice changes, the writer excepted. -/
theorem kept_respond_finish (p : Port) (code : Byte) (a : Answer) (t : State) :
    let u := respond p code a (finish t)
    u.fobs = t.fobs ∧ u.entry = t.entry ∧ u.search = t.search ∧ u.store = t.store ∧ u.params = t.params ∧ u.crash = t.crash ∧
      u.now = t.now ∧ u.pins = t.pins ∧ u.keyLock = t.keyLock ∧ u.hold = t.hold ∧ u.relock = t.relock := by
  have h := outside_finish t
  exact ⟨(congrArg State.fobs h :), (congrArg State.entry h :), (congrArg State.search h :), (congrArg State.store h :),
    (congrArg State.params h :), (congrArg State.crash h :), (congrArg State.now h :), (congrArg State.pins h :),
    (congrArg State.keyLock h :), (congrArg State.hold h :), (congrArg State.relock h :)⟩

/-- Settles O36, by the background that the action of an acceptance leaves alone. -/
theorem presentAcceptedConsumesCounter : Obligations.PresentAcceptedConsumesCounter := by
  intro p identity counter button tag b i resync k x s c C listens named active window again passive
  have passed : verdict i c b p (arrived p s) = (.ACCEPTED, resync) := verdict_accepted (s := s) (k := k) window again
  have taken := takePresent_accepted (s := arrived p s) named active passed passive
  have base := background_accept i c b p (arrived p s)
  have entry := accept_entry i c b p (arrived p s)
  have accepted := accept_noticed i c b p (arrived p s)
  generalize accept i counter.toNat b p (arrived p s) = y at base entry accepted taken
  have search_y : y.state.search = s.search := (background_search base :)
  have now_y : y.state.now = s.now := (background_now base :)
  obtain ⟨v, ports, frame⟩ := presented_frame (if b = .PASSIVE then some x else none) resync i y
  have notices {n : Notice} : noticed n y.state → noticed n (presented (if b = .PASSIVE then some x else none) resync i y) :=
    presented_noticed
  have only : b ≠ .PASSIVE → (presented (if b = .PASSIVE then some x else none) resync i y).search = s.search := by
    intro other
    rw [if_neg other]
    exact search_y
  have closes : b = .PASSIVE → presented (if b = .PASSIVE then some x else none) resync i y = presented (some x) resync i y := by
    intro answered
    rw [if_pos answered]
  generalize presented (if b = .PASSIVE then some x else none) resync i y = t at taken frame notices only closes
  obtain ⟨fobs, entries, search, store, params, crash, now, pins, keyLock, -, -⟩ :=
    kept_respond_finish p 0x30#8 (presentedAnswer (acceptedAs resync i y)) t
  have fob (j : Fin 8) : t.fob j = (consumeCounter i counter.toNat b p (arrived p s)).fob j := by
    rw [frame]
    exact background_fob base j
  have own : t.fob i = { s.fob i with
      C := counter.toNat
      candidate := none
      commitPending := true
      acceptance := some ⟨⟨s.now, false⟩, p, b⟩ } := by
    rw [fob, consumeCounter, fob_setFob_same]
    rfl
  have now_t : t.now = s.now := by rw [frame]; exact now_y
  let u := respond p 0x30#8 (presentedAnswer (acceptedAs resync i y)) (finish t)
  refine ⟨u, exec_present listens taken, ?_, fun j other => ?_, ?_, ?_, ?_, ?_, fun q => ?_, ?_, fun other => ?_, fun answered => ?_,
    ?_, ?_, ?_, ?_, ?_, ?_⟩
  · exact (congrArg (fun f => f.get i) fobs).trans own
  · refine (congrArg (fun f => f.get j) fobs).trans ((fob j).trans ?_)
    rw [consumeCounter, fob_setFob_ne _ _ other]
    rfl
  · rw [entries, frame]
    refine entry.trans ?_
    cases b <;> rfl
  · rw [slot_respond]
  · rw [slot_respond]; rfl
  · rw [slot_respond]; exact presentedAnswer_low resync i y
  · exact noticed_respond (noticed_finish (notices accepted)) q
  · exact finish_running (i := i) (by rw [own])
  · rw [search]; exact only other
  · obtain ⟨-, current, -⟩ := passive answered
    have open_ : y.state.search.current = some x := (congrArg SearchUnit.current search_y).trans current
    have at_ : y.state.reading = s.reading := congrArg (Reading.mk · false) now_y
    have closed := (closes answered).trans (presented_closed open_)
    have ended : noticed .SEARCH_ENDED t := by rw [closed]; exact noticed_raise _ _
    have last : u.search = { s.search with
        current := none
        last := some (closedRecord x s.reading .FOUND_ACCEPTED
          (some ⟨some i, .ACCEPTED, some y.result, if y.job = 0 then none else some y.job⟩)) } := by
      rw [search, closed, foundBy, ← search_y, ← at_]
      rfl
    rw [last]
    exact ⟨rfl, noticed_respond (noticed_finish ended), rfl, by simp [closedRecord]⟩
  · rw [store, frame]; exact (congrArg State.store base :)
  · rw [params, frame]; exact (background_params base :)
  · rw [crash, frame]; exact (background_crash base :)
  · rw [now, now_t]
  · rw [pins, frame]; exact (background_pins base :)
  · rw [keyLock, frame]; exact (congrArg State.keyLock base :)

end

end Sys2Proof.Machine

/-! ## First presses and a passive answer from rest (R14 to R17, R116, R126, R140) -/

namespace Sys2Proof.Machine

open Sys2Proof

section
variable {s t u b : State} {o : Origin} {g : Goal} {as rem : List Act} {i : Fin 8} {p : Port} {c : Nat} {l : Latch}

/-! ### What a press changes beside the locks -/

/-- `aside s` less the fob slots, the entry action record, the hold and the search. -/
def beside (s : State) : State :=
  { aside s with fobs := State.reset.fobs, entry := none, hold := Hold.closed, search := State.reset.search }

section
variable (h : beside t = beside s)
include h

theorem beside_newId : t.newId = s.newId := (congrArg State.newId h :)
theorem beside_reading : t.reading = s.reading := (congrArg State.reading h :)
theorem beside_params : t.params = s.params := (congrArg State.params h :)
theorem beside_act (a : Act) : t.act a = s.act a := (congrArg (fun x => x.act a) h :)
theorem beside_restingLocks (rest : restingLocks s) : restingLocks t := (congrArg restingLocks h :).mpr rest

end

theorem Asked.beside (h : Asked o g as s t) (k : beside b = beside t) : Asked o g as s b :=
  { queue := (congrArg State.queue k :).trans h.queue
    strokes := (congrArg State.strokes k :).trans h.strokes
    slot := (congrArg State.slot k :).trans h.slot
    due := (congrArg State.attemptDue k :).trans h.due
    units := (congrArg State.units k :).trans h.units
    windows := (congrArg State.windows k :).trans h.windows
    admitted := (congrArg State.admitted k :).trans h.admitted
    now := (congrArg State.now k :).trans h.now
    params := (beside_params k).trans h.params
    nextId := (congrArg State.nextId k :).trans h.nextId
    named := fun a ha => (beside_act k a).trans (h.named a ha)
    other := fun a ha => (beside_act k a).trans (h.other a ha) }

/-! ### An UNLOCK of one latch (R9, R15, R140) -/

/-- The stroke that unlocks one latch (R26 to R29). -/
def unlockStroke (l : Latch) (s : State) : Stroke :=
  ⟨some s.newId, groupOf (.latch l), .MINUS, [⟨.latch l, .UNLOCKED, s.params.strokeTime⟩], s.params.strokeTime, s.reading, 2, 2⟩

theorem Asked.unlocked (h : Asked o .UNLOCK [.latch l] s t) (rest : restingLocks s) (locked : (s.act (.latch l)).state = .LOCKED)
    (free : s.units = 0) (budget : 10 ≤ s.params.driveBudget) (door : t.pins.ocDoor = false) (tail : t.pins.ocTail = false) :
    Ran o .UNLOCK [.latch l] [.latch l] s (Machine.finish t) ∧ (Machine.finish t).strokes = [unlockStroke l s] := by
  have left : [Act.latch l].filter (fun a => !atTarget .UNLOCK a (s.act a).state) = [.latch l] :=
    List.filter_eq_self.mpr (fun a ha => by
      obtain rfl := List.mem_singleton.mp ha
      rw [locked]
      rfl)
  have cost : unitsOf [Act.latch l] = 2 := rfl
  have ran := h.finish rest (List.nodup_singleton _) left (List.cons_ne_nil _ _) (by rw [free, cost]; omega) (.inl door) (.inl tail)
  have duration : ∀ a ∈ [Act.latch l], strokeDuration s.params .UNLOCK a (s.act a).state = s.params.strokeTime := fun a ha => by
    obtain rfl := List.mem_singleton.mp ha
    rw [locked, moves_unlock.duration]
  refine ⟨ran, ran.strokes.trans ?_⟩
  have group : (groupOf (.latch l) = .DOOR ∧ ofGroup .DOOR [Act.latch l] = [.latch l] ∧ ofGroup .TAIL [Act.latch l] = []) ∨
      (groupOf (.latch l) = .TAIL ∧ ofGroup .DOOR [Act.latch l] = [] ∧ ofGroup .TAIL [Act.latch l] = [.latch l]) := by
    cases l <;> decide
  unfold unlockStroke
  rcases group with ⟨e, doors, tails⟩ | ⟨e, doors, tails⟩
  · rw [e, doors, tails, strokesFor, strokesFor, if_neg (List.cons_ne_nil _ _), if_pos rfl,
      strokeRecord_even (List.cons_ne_nil _ _) duration]
    rfl
  · rw [e, doors, tails, strokesFor, strokesFor, if_neg (List.cons_ne_nil _ _), if_pos rfl,
      strokeRecord_even (List.cons_ne_nil _ _) duration]
    rfl

/-! ### The actions of a first press -/

theorem freeId_pos {live : List Nat} {n k : Nat} (h : 1 ≤ k) : 1 ≤ freeId live n k := by
  induction n generalizing k with
  | zero => exact h
  | succ n ih =>
    unfold freeId
    split
    · refine ih ?_
      unfold succId
      split <;> omega
    · exact h

theorem newId_pos (h : 1 ≤ s.nextId) : 1 ≤ s.newId := freeId_pos h

theorem closeByButton_closed {k : Button} (h : s.hold.isOpen = false) : closeByButton k s = s := by
  unfold closeByButton closeHold
  rw [h]
  split <;> rfl

theorem secondPress_first {k : EntryButton} (h : s.entry = none) : secondPress k i s = false := by
  unfold secondPress
  rw [h]

theorem actedBy_job {x : Taken × State} {id : Nat} (h : x.1 = .job id) : actedBy x = ⟨.DONE, id, x.2⟩ := by
  obtain ⟨answer, t⟩ := x
  dsimp only at h
  rw [h]
  rfl

theorem relockAllowed_locked (locked : ∀ l, (s.act (.latch l)).state = .LOCKED) (time : s.params.relockTime ≠ 0)
    (clear : s.crash.latch = false) : relockAllowed s = true := by
  have each : ∀ l, (latchStates s).get l = .LOCKED := fun l => (latchStates_get s l).trans (locked l)
  have single : lockStatus (latchStates s) ≠ .DEADLOCKED := fun k => by
    obtain ⟨fl, -⟩ := lockStatus_deadlocked.mp k
    exact nomatch (each .FL).symm.trans fl
  have vehicle : s.vehicle = .ALL_LOCKED := lockStatus_allLocked.mpr ⟨fun l => .inl (each l), single⟩
  simp [relockAllowed, vehicle, time, clear]

theorem entryUnlock_job {id : Nat} (h : (formJob o g as s).1 = .job id) :
    entryUnlock false true (actedBy (formJob o g as s)) = ⟨.DONE, id, startRelock (formJob o g as s).2⟩ := by
  rw [actedBy_job h]
  rfl

/-- What an acceptance leaves of the state that its action left. -/
def entered (k : Button) (i : Fin 8) (p : Port) (s : State) : State :=
  raise .ENTRY_ACCEPTED { s with entry := some ⟨entryButtonOf k, i, s.reading, p⟩ }

/-- An acceptance with the hold closed, by its action in the state with the counter consumed. -/
theorem accept_closed {k : Button} (closed : s.hold.isOpen = false) {r : ActionResult} {job : Nat}
    (acted : actFor k i p (consumeCounter i c k p s) = ⟨r, job, t⟩) (kept : ¬((k = .LOCK ∨ k = .LOCK_HELD) ∧ r = .DONE)) :
    accept i c k p s = ⟨r, job, entered k i p t⟩ := by
  have hold : (consumeCounter i c k p s).hold.isOpen = false := closed
  unfold accept openByButton
  rw [closeByButton_closed hold, acted]
  dsimp only
  rw [if_neg kept]
  rfl

/-- What an accepted LOCK whose action is done leaves: the hold opens (R116, R126). -/
def opened (i : Fin 8) (c : Nat) (p : Port) (s : State) : State :=
  raise .ENTRY_ACCEPTED (openHold i c p { s with entry := some ⟨.LOCK, i, s.reading, p⟩ })

theorem hold_opened (now : t.now = s.now) (params : t.params = s.params) :
    (opened i c p t).hold =
      ⟨true, true, i, c, p, s.reading, s.reading, false, some ⟨s.now, s.params.comfortHoldStart⟩, some ⟨s.now, 300⟩⟩ := by
  unfold State.reading
  rw [← now, ← params]
  rfl

theorem accept_opens (closed : s.hold.isOpen = false) {job : Nat}
    (acted : actFor .LOCK i p (consumeCounter i c .LOCK p s) = ⟨.DONE, job, t⟩) :
    accept i c .LOCK p s = ⟨.DONE, job, opened i c p t⟩ := by
  have hold : (consumeCounter i c .LOCK p s).hold.isOpen = false := closed
  unfold accept openByButton
  rw [closeByButton_closed hold, acted]
  rfl

/-- A first UNLOCK with SELECTIVE_UNLOCK ON asks for the driver's latch (R15). -/
theorem unlockAction_first {id : Nat} (first : s.entry = none) (selective : s.params.selectiveUnlock = 1)
    (allowed : relockAllowed s = true)
    (formed : (formJob (portOrigin p) .UNLOCK [.latch (driverLatch s.params)] s).1 = .job id) :
    actFor .UNLOCK i p s = ⟨.DONE, id, startRelock (formJob (portOrigin p) .UNLOCK [.latch (driverLatch s.params)] s).2⟩ := by
  unfold actFor unlockAction unlockActs
  simp only [selective, secondPress_first first, allowed]
  exact entryUnlock_job formed

/-- A passive answer to an UNLOCK search of one latch asks for that latch (R140). -/
theorem passiveAction_one {id : Nat} {x : OpenSearch} (current : s.search.current = some x) (purpose : x.purpose = .UNLOCK)
    (latches : x.latches = [l]) (own : s.params.passiveUnlockAll = 0) (allowed : relockAllowed s = true)
    (formed : (formJob .SEARCH .UNLOCK [.latch l] s).1 = .job id) :
    actFor .PASSIVE i p s = ⟨.DONE, id, startRelock (formJob .SEARCH .UNLOCK [.latch l] s).2⟩ := by
  unfold actFor
  rw [current]
  dsimp only
  rw [if_pos purpose]
  unfold passiveUnlock
  dsimp only
  rw [if_pos own, latches, allowed]
  exact entryUnlock_job formed

theorem lockAction_ajar (clear : s.crash.latch = false) (first : s.entry = none) (ajar : s.anyAjar = true) :
    actFor .LOCK i p s = ⟨.DOOR_OPEN, 0, s⟩ := by
  unfold actFor lockAction
  simp [clear, secondPress_first first, ajar]

theorem lockAction_shut {id : Nat} (clear : s.crash.latch = false) (first : s.entry = none) (shut : s.anyAjar = false)
    (formed : (formJob (portOrigin p) .LOCK Act.latches s).1 = .job id) :
    actFor .LOCK i p s = ⟨.DONE, id, cancelRelock (formJob (portOrigin p) .LOCK Act.latches s).2⟩ := by
  unfold actFor lockAction
  dsimp only
  rw [actedBy_job formed]
  simp [clear, secondPress_first first, shut, cancelIfDone]

/-! ### The rows -/

/-- A presentation whose counter is in the window is accepted (R115). -/
theorem exec_firstPress {identity : BitVec 32} {counter : BitVec 24} {button tag : Byte} {k : Button} {x : OpenSearch} {y : Acted}
    (listens : listening p s) (named : buttonOf button = some k) (active : activeSlot identity s = some i)
    (low : (s.fob i).C < counter.toNat) (high : counter.toNat ≤ (s.fob i).C + 64)
    (passive : k = .PASSIVE → p = .E ∧ s.search.current = some x ∧ x.tag = tag.toNat)
    (accepted : accept i counter.toNat k p (arrived p s) = y) :
    exec (.present p identity counter button tag) s = .next (respond p 0x30#8 (presentedAnswer (acceptedAs false i y))
      (Machine.finish (presented (if k = .PASSIVE then some x else none) false i y))) := by
  have passed : verdict i counter.toNat k p (arrived p s) = (.ACCEPTED, false) :=
    verdict_accepted (s := s) (k := ⟨0, s.reading⟩) (fun _ => ⟨low, high⟩) nofun
  subst accepted
  exact exec_present listens (takePresent_accepted (s := arrived p s) named active passed passive)

/-- What an accepted unlock of one latch from rest leaves (R15, R17, R140). -/
def Unlocked (p : Port) (i : Fin 8) (l : Latch) (s u : State) : Prop :=
  u.strokes = [unlockStroke l s] ∧ u.units = 2 ∧ u.queue = [] ∧ u.relock = some ⟨s.now, s.params.relockTime * 1000⟩ ∧
    (u.act (.latch l)).activity = .STROKING ∧ (∀ b, b ≠ .latch l → u.act b = s.act b) ∧ u.windows = s.windows ∧ u.hold = s.hold ∧
    (u.port p).slot = ⟨0x30#8, .DONE, packData [(4, 0), (1, 0), (3, 0), (8, s.newId), (4, i.val)]⟩

theorem unlocked_from_rest (rest : restingLocks s) (locked : (s.act (.latch l)).state = .LOCKED) (free : s.units = 0)
    (budget : 10 ≤ s.params.driveBudget) (door : s.pins.ocDoor = false) (tail : s.pins.ocTail = false)
    (same : beside b = beside s) (asked : Asked o .UNLOCK [.latch l] b t) (pins : t.pins = s.pins)
    (relock : t.relock = some ⟨s.now, s.params.relockTime * 1000⟩) (hold : t.hold = s.hold) {y : Acted} (done : y.result = .DONE)
    (job : y.job = s.newId) :
    Unlocked p i l s (respond p 0x30#8 (presentedAnswer (acceptedAs false i y)) (Machine.finish t)) := by
  have rests := beside_restingLocks same rest
  obtain ⟨ran, strokes⟩ := asked.unlocked rests (by rw [beside_act same]; exact locked) ((congrArg State.units same :).trans free)
    (by rw [beside_params same]; exact budget) (by rw [pins]; exact door) (by rw [pins]; exact tail)
  obtain ⟨-, -, -, -, -, -, -, -, -, holds, relocks⟩ := kept_respond_finish p 0x30#8 (presentedAnswer (acceptedAs false i y)) t
  have units : (Machine.finish t).units = 2 := ran.units.trans (by rw [show b.units = 0 from (congrArg State.units same :).trans free]; rfl)
  have stroke : unlockStroke l b = unlockStroke l s := by
    unfold unlockStroke
    rw [beside_newId same, beside_params same, beside_reading same]
  refine ⟨strokes.trans (by rw [stroke]), units, ran.queue, relocks.trans relock, (ran.driven _ (List.mem_singleton_self _)).1,
    fun a other => ?_, ran.windows.trans (congrArg State.windows same :), holds.trans hold, ?_⟩
  · exact (ran.other a (by simpa using other)).trans (beside_act same a)
  · rw [slot_respond, ← job]
    unfold presentedAnswer acceptedAs
    rw [done]
    rfl

/-- The relock timer that an action starts runs from the moment of the press (R17). -/
theorem startRelock_of_outside (out : outside t = outside b) :
    (startRelock t).relock = some ⟨b.now, b.params.relockTime * 1000⟩ := by
  rw [← outside_now out, ← outside_params out]
  rfl

/-- With no trigger and the slot closed, an event's end begins a write at most. -/
theorem finish_still (due : s.attemptDue = false) (closed : s.slot.isOpen = false) :
    Machine.finish s = { s with writer := (pump s).writer } := by
  rw [Machine.finish, settle_still due (fun k => nomatch closed.symm.trans k)]
  exact pump_writer s

/-- Settles O37, by the action that each presentation calls for and the attempt that follows it. -/
theorem entryPressFromRest : Obligations.EntryPressFromRest := by
  intro p identity counter tag i l x s listens calm rest clear first closed active low high
  dsimp only
  have row {button : Byte} {k : Button} {y : Acted} (named : buttonOf button = some k) := exec_firstPress (tag := tag) (button := button) (k := k) (x := x) (y := y) listens named active low high
  refine ⟨fun ⟨free, budget, door, tail⟩ locked time => ⟨fun selective => ?_, fun port current tagged purpose latches own lo hi => ?_⟩,
    fun ajar => ?_, fun ⟨free, budget, door, tail⟩ shut unlocked => ?_⟩
  · let b := consumeCounter i counter.toNat .UNLOCK p (arrived p s)
    have same : beside b = beside s := rfl
    obtain ⟨formed, asked⟩ := formJob_rest (o := portOrigin p) (g := .UNLOCK) (beside_restingLocks same rest)
      (List.cons_ne_nil (Act.latch (driverLatch b.params)) [])
    have out : outside _ = outside b := outside_formJob (portOrigin p) .UNLOCK [.latch (driverLatch b.params)] b
    have allowed : relockAllowed b = true :=
      relockAllowed_locked (fun l => (congrArg ActRec.state (beside_act same _)).trans (locked l)) time clear
    have accepted := accept_closed (s := arrived p s) (c := counter.toNat) closed
      (unlockAction_first (s := b) (i := i) (p := p) first selective allowed formed) (by simp)
    have found := row (button := 1#8) rfl nofun accepted
    rw [if_neg (by decide)] at found
    generalize (formJob (portOrigin p) .UNLOCK [.latch (driverLatch b.params)] b).2 = t at asked out found
    exact ⟨_, found, unlocked_from_rest (t := entered .UNLOCK i p (startRelock t)) rest (locked _) free budget door tail same
      (asked.beside rfl) (outside_pins out :) (startRelock_of_outside out :) (outside_hold out :) rfl rfl⟩
  · let b := consumeCounter i counter.toNat .PASSIVE p (arrived p s)
    have same : beside b = beside s := rfl
    obtain ⟨formed, asked⟩ := formJob_rest (o := .SEARCH) (g := .UNLOCK) (beside_restingLocks same rest)
      (List.cons_ne_nil (Act.latch l) [])
    have out : outside _ = outside b := outside_formJob .SEARCH .UNLOCK [.latch l] b
    have allowed : relockAllowed b = true :=
      relockAllowed_locked (fun l => (congrArg ActRec.state (beside_act same _)).trans (locked l)) time clear
    have accepted := accept_closed (s := arrived p s) (c := counter.toNat) closed
      (passiveAction_one (s := b) (i := i) (p := p) current purpose latches own allowed formed) (by simp)
    have found := row (button := 3#8) rfl (fun _ => ⟨port, current, tagged⟩) accepted
    rw [if_pos rfl] at found
    generalize (formJob .SEARCH .UNLOCK [.latch l] b).2 = t at asked out found
    have searching : t.search = s.search := (outside_search out :)
    have reading : (entered .PASSIVE i p (startRelock t)).reading = ⟨s.now, false⟩ :=
      (congrArg (Reading.mk · false) (outside_now out) :)
    have live : b.newId ≠ 0 := Nat.ne_of_gt (newId_pos lo)
    have ended := presented_closed (i := i) (resync := false) (y := ⟨.DONE, b.newId, entered .PASSIVE i p (startRelock t)⟩)
      ((congrArg SearchUnit.current searching).trans current)
    dsimp only at ended
    rw [if_neg live] at ended
    rw [ended] at found
    have driven := unlocked_from_rest (p := p) (i := i)
      (t := foundBy x ⟨some i, .ACCEPTED, some .DONE, some b.newId⟩ (entered .PASSIVE i p (startRelock t)))
      (y := ⟨.DONE, b.newId, entered .PASSIVE i p (startRelock t)⟩) rest (locked _) free budget door tail same (asked.beside rfl)
      (outside_pins out :) (startRelock_of_outside out :) (outside_hold out :) rfl rfl
    refine ⟨_, found, driven, ?_⟩
    obtain ⟨-, -, search, -⟩ := kept_respond_finish p 0x30#8
      (presentedAnswer (acceptedAs false i ⟨.DONE, b.newId, entered .PASSIVE i p (startRelock t)⟩))
      (foundBy x ⟨some i, .ACCEPTED, some .DONE, some b.newId⟩ (entered .PASSIVE i p (startRelock t)))
    rw [search]
    refine congrArg some ?_
    rw [closedRecord, purpose, latches, reading]
    rfl
  · let b := consumeCounter i counter.toNat .LOCK p (arrived p s)
    have accepted := accept_closed (s := arrived p s) (c := counter.toNat) closed
      (lockAction_ajar (s := b) (i := i) (p := p) clear first (anyAjar_iff.mpr ajar)) (by simp)
    obtain ⟨queue, strokes, shut, -⟩ := rest
    have still := finish_still (s := entered .LOCK i p b) calm.1 shut
    have found := row (button := 0#8) rfl nofun accepted
    refine ⟨_, found, ?_⟩
    rw [show presented (if Button.LOCK = .PASSIVE then some x else none) false i ⟨.DOOR_OPEN, 0, entered .LOCK i p b⟩ =
      entered .LOCK i p b from rfl, still]
    exact ⟨rfl, strokes, queue, rfl, rfl, rfl, slot_respond ..⟩
  · let b := consumeCounter i counter.toNat .LOCK p (arrived p s)
    have same : beside b = beside s := rfl
    have rests := beside_restingLocks same rest
    obtain ⟨formed, asked⟩ := formJob_rest (o := portOrigin p) (g := .LOCK) rests (by decide : Act.latches ≠ [])
    have accepted := accept_opens (s := arrived p s) (c := counter.toNat) closed
      (lockAction_shut (s := b) (i := i) (p := p) clear first (anyAjar_false shut) formed)
    have found := row (button := 0#8) rfl nofun accepted
    have out : outside _ = outside b := outside_formJob (portOrigin p) .LOCK Act.latches b
    rw [if_neg (by decide)] at found
    generalize (formJob (portOrigin p) .LOCK Act.latches b).2 = t at asked out found
    have ran := (asked.beside (b := opened i counter.toNat p (cancelRelock t)) rfl).all moves_lock rests
      (fun l => (congrArg ActRec.state (beside_act same _)).trans (unlocked l)) free budget
      ((congrArg Pins.ocDoor (outside_pins out)).trans door) ((congrArg Pins.ocTail (outside_pins out)).trans tail)
    have hold : (opened i counter.toNat p (cancelRelock t)).hold = _ :=
      hold_opened (s := s) (t := cancelRelock t) (outside_now out :) (outside_params out :)
    obtain ⟨-, -, -, -, -, -, -, -, -, holds, relocks⟩ := kept_respond_finish p 0x30#8
      (presentedAnswer (acceptedAs false i ⟨.DONE, b.newId, opened i counter.toNat p (cancelRelock t)⟩))
      (opened i counter.toNat p (cancelRelock t))
    have strokes : fiveStrokes .PLUS .LOCKED b = fiveStrokes .PLUS .LOCKED s := by
      unfold fiveStrokes
      rw [beside_newId same, beside_params same, beside_reading same]
    exact ⟨_, found, ran.strokes.trans strokes, ran.units, ran.queue, relocks, ran.windows, slot_respond .., holds.trans hold⟩

end

end Sys2Proof.Machine

/-! ## What an operation on windows alone leaves

`windowless s` is s without its windows, triggers and pending notices: an operation that keeps it changes nothing else. -/

namespace Sys2Proof.Machine

open Sys2Proof

section
variable {s t : State} {w v : Win}

theorem foldl_keep {α β : Type} {op : State → α → State} {f : State → β} (keep : ∀ u x, f (op u x) = f u) (xs : List α)
    (s : State) : f (xs.foldl op s) = f s :=
  List.foldlRecOn (motive := fun u => f u = f s) xs op rfl (fun _ h x _ => (keep _ x).trans h)

/-- The state less the windows, the triggers and the pending sets. -/
def windowless (s : State) : State :=
  { s with
    attemptDue := false
    windows := State.reset.windows
    ports := ⟨s.ports.m.quiet, s.ports.e.quiet⟩ }

section
variable (h : windowless t = windowless s)
include h

theorem outside_of_windowless : outside t = outside s := (congrArg (fun x : State => outside x) h :)
theorem windowless_strokes : t.strokes = s.strokes := (congrArg State.strokes h :)
theorem windowless_queue : t.queue = s.queue := (congrArg State.queue h :)
theorem windowless_admitted : t.admitted = s.admitted := (congrArg State.admitted h :)
theorem windowless_units : t.units = s.units := (congrArg State.units h :)
theorem windowless_nearFull : t.nearFull = s.nearFull := (congrArg State.nearFull h :)
theorem windowless_slot : t.slot = s.slot := (congrArg State.slot h :)
theorem windowless_act (a : Act) : t.act a = s.act a := act_congr (congrArg State.table h :) a

end

@[simp] theorem windowless_setWin (w : Win) (r : Window) (s : State) : windowless (s.setWin w r) = windowless s := rfl
@[simp] theorem windowless_raise (k : Notice) (s : State) : windowless (raise k s) = windowless s := rfl
@[simp] theorem windowless_trigger (s : State) : windowless (trigger s) = windowless s := rfl

/-! ### The stop of every window (R39, R153, R182) -/

/-- A window at a crash or RESTART: its run stops, its braking loses its continuation. -/
def haltRecord (now : Time) (r : Window) : Window :=
  if driven r.run then stopRecord now none r
  else if r.run = .BRAKING then { r with cont := none }
  else r

theorem haltWindow_eq (w : Win) (s : State) : haltWindow w s = s.setWin w (haltRecord s.now (s.win w)) := by
  unfold haltWindow haltRecord
  dsimp only
  split
  · rfl
  · split
    · rfl
    · exact (setWin_win s w).symm

/-- The windows when each of them has stopped. -/
def haltedWindows (now : Time) (v : PerWin Window) : PerWin Window :=
  ⟨haltRecord now v.wfl, haltRecord now v.wfr, haltRecord now v.wrl, haltRecord now v.wrr⟩

theorem haltAllWindows_eq (s : State) : haltAllWindows s = { s with windows := haltedWindows s.now s.windows } := by
  simp only [haltAllWindows, Win.all, List.foldl, haltWindow_eq]
  rfl

theorem win_haltAllWindows (w : Win) (s : State) : (haltAllWindows s).win w = haltRecord s.now (s.win w) := by
  rw [haltAllWindows_eq]
  cases w <;> rfl

theorem windowless_haltAllWindows (s : State) : windowless (haltAllWindows s) = windowless s := by
  rw [haltAllWindows_eq]
  rfl

/-- A stopped window keeps what is no drive of it, but a FORCED run's tally. -/
structure Halted (r q : Window) : Prop where
  driven : driven r.run = true → q.run = .BRAKING ∧ q.cont = none
  idle : r.run = .IDLE → q = r
  queued : r.run = .QUEUED → q.run = .QUEUED
  braking : r.run = .BRAKING → q.run = .BRAKING ∧ q.cont = none
  P : q.P = r.P
  normalized : q.normalized = r.normalized
  profile : q.profile = r.profile
  H : q.H = r.H
  tally : q.tally = if Machine.driven r.run = true ∧ r.mode = .FORCED then 0 else r.tally
  tallyT : q.tallyT = if Machine.driven r.run = true ∧ r.mode = .FORCED then none else r.tallyT

theorem halted_haltRecord (now : Time) (r : Window) : Halted r (haltRecord now r) := by
  unfold haltRecord
  split
  · rename_i runs
    have moving : r.run = .RUNNING ∨ r.run = .REVERSING := by
      cases e : r.run <;> simp [e, Machine.driven] at runs ⊢
    refine ⟨fun _ => ⟨rfl, rfl⟩, ?_, ?_, ?_, rfl, rfl, rfl, rfl, ?_, ?_⟩
    · exact fun e => by simp [e] at moving
    · exact fun e => by simp [e] at moving
    · exact fun e => by simp [e] at moving
    · simp [stopRecord, runs]
    · simp [stopRecord, runs]
  · rename_i still
    split
    · rename_i brakes
      exact ⟨fun e => absurd e still, fun e => by simp [e] at brakes, fun e => by simp [e] at brakes, fun _ => ⟨brakes, rfl⟩,
        rfl, rfl, rfl, rfl, by simp [still], by simp [still]⟩
    · rename_i other
      exact ⟨fun e => absurd e still, fun _ => rfl, fun e => e, fun e => absurd e other, rfl, rfl, rfl, rfl, by simp [still],
        by simp [still]⟩

theorem halted_win (w : Win) (s : State) : Halted (s.win w) ((haltAllWindows s).win w) := by
  rw [win_haltAllWindows]
  exact halted_haltRecord _ _

/-- A stopped window is neither RUNNING nor REVERSING, and brakes for no continuation. -/
theorem Halted.still {r q : Window} (h : Halted r q) : (q.run = .IDLE ∨ q.run = .QUEUED ∨ q.run = .BRAKING) ∧
    (q.run = .BRAKING → q.cont = none) := by
  cases e : r.run with
  | IDLE => rw [h.idle e, e]; simp
  | QUEUED => rw [h.queued e]; simp
  | BRAKING => simp [h.braking e]
  | RUNNING => simp [h.driven (by rw [e]; rfl)]
  | REVERSING => simp [h.driven (by rw [e]; rfl)]

/-! ### Windows without a queued job -/

theorem removeWindowJob_none (none : s.queuedWindow w = none) : removeWindowJob w s = s := by
  unfold removeWindowJob
  rw [none]

end

end Sys2Proof.Machine

/-! ## RESTART (R38, R39, R182)

The strokes are cut, the records are emptied, the parameters are loaded again. Each part is followed by what it leaves of the
actuators, of the windows, and of all else. -/

namespace Sys2Proof.Machine

open Sys2Proof

section
variable {s t u : State} {a : Act} {w : Win}

/-! ### The cut of the strokes (R38) -/

/-- The stroke limiter's count is no business of the end of a stroke (R24). -/
theorem count_releaseAct (c : Act) (x : Activity) (s : State) (a : Act) :
    ((releaseAct c x s).act a).strokes = (s.act a).strokes := by
  rcases eq_or_ne a c with rfl | other
  · rw [releaseAct, act_resumeAs]
    simp [resumed, setAttempts]
  · rw [(actFrame_releaseAct (.refl _ s)).act a (by simpa using other)]

theorem restartMembers_frame (ms : List Member) (s : State) : ActsFrame (ms.map (·.act)) s (ms.foldl restartMember s) :=
  ActsFrame.foldl (op := restartMember) (fun _ _ => actFrame_releaseAct (.refl _ _)) ms s

/-- What the cut of a stroke keeps beside the records of its members (R38, R95). -/
structure StrokeCut (st : Stroke) (s t : State) : Prop where
  outside : outside t = outside s
  windows : t.windows = s.windows
  units : t.units = s.units - st.units
  count : ∀ a, (t.act a).strokes = (s.act a).strokes

theorem strokeCut_restartStroke (st : Stroke) (s : State) : StrokeCut st s (restartStroke s st) := by
  have f := restartMembers_frame st.members (removeStroke st s)
  unfold restartStroke
  rw [settleJob_eq]
  refine ⟨f.outside, f.windows, f.units, fun a => ?_⟩
  have kept := foldl_keep (op := restartMember) (f := fun u => (u.act a).strokes)
    (fun u m => count_releaseAct m.act .IDLE u a) st.members (removeStroke st s)
  rw [act_congr (s := s) (t := removeStroke st s) rfl] at kept
  exact (congrArg ActRec.strokes (act_congr rfl a)).trans kept

theorem restartStrokes_units (cut : List Stroke) (s : State) :
    (cut.foldl restartStroke s).units = s.units - (cut.map (·.units)).sum := by
  induction cut generalizing s with
  | nil => rfl
  | cons st cut ih => rw [List.foldl_cons, ih, (strokeCut_restartStroke st s).units, List.map_cons, List.sum_cons, Nat.sub_sub]

/-- What the cut of all strokes and the stop of all windows leave (R38, R39). -/
structure DrivesCut (s t : State) : Prop where
  outside : outside t = outside s
  windows : ∀ w, t.win w = haltRecord s.now (s.win w)
  units : t.units = s.units - (s.strokes.map (·.units)).sum
  count : ∀ a, (t.act a).strokes = (s.act a).strokes

theorem drivesCut_restartDrives (s : State) : DrivesCut s (restartDrives s) := by
  let c : State := { s with slot := CrashSlot.closed }
  have out : outside (s.strokes.foldl restartStroke c) = outside s :=
    foldl_keep (fun u st => (strokeCut_restartStroke st u).outside) s.strokes c
  have windows : (s.strokes.foldl restartStroke c).windows = s.windows :=
    foldl_keep (fun u st => (strokeCut_restartStroke st u).windows) s.strokes c
  have count : ∀ a, ((s.strokes.foldl restartStroke c).act a).strokes = (s.act a).strokes := fun a =>
    (foldl_keep (f := fun u => (u.act a).strokes) (fun u st => (strokeCut_restartStroke st u).count a) s.strokes c).trans
      (congrArg ActRec.strokes (act_congr rfl a))
  have units := restartStrokes_units s.strokes c
  have drives : restartDrives s = haltAllWindows (trigger (s.strokes.foldl restartStroke c)) := rfl
  rw [drives]
  generalize s.strokes.foldl restartStroke c = x at out windows count units
  have kept := windowless_haltAllWindows (trigger x)
  refine ⟨(outside_of_windowless kept).trans out, fun w => ?_, (windowless_units kept).trans units, fun a => ?_⟩
  · rw [win_haltAllWindows, trigger_now, win_trigger, State.win, windows, outside_now out]
    rfl
  · rw [windowless_act kept, act_trigger]
    exact count a

/-! ### The records (R182) -/

theorem count_restartAct (c : Act) (s : State) (a : Act) : ((restartAct s c).act a).strokes = (s.act a).strokes := by
  unfold restartAct
  split
  · exact count_releaseAct c .IDLE s a
  · rcases eq_or_ne a c with rfl | other
    · simp [setActivity, setAttempts]
    · rw [(actFrame_setActivity (actFrame_setAttempts (.refl _ s))).act a (by simpa using other)]

/-- Every record that RESTART resets is IDLE with attempts 0 (R1, R2, R182). -/
theorem idle_restartAct (s : State) (c : Act) :
    ((restartAct s c).act c).activity = .IDLE ∧ ((restartAct s c).act c).attempts = 0 := by
  unfold restartAct
  split
  · rw [releaseAct, act_resumeAs]
    simp [resumed, setAttempts]
  · simp [setActivity, setAttempts]

/-- A QUEUED window is IDLE with no job, continuation, target or commander (R39). -/
def unqueued (r : Window) : Window :=
  if r.run = .QUEUED then { r with run := .IDLE, job := none, cont := none, target := none, commander := none, brakeT := none }
  else r

theorem restartWindow_win (u : State) (w : Win) : (restartWindow u w).win w = unqueued (u.win w) := by
  unfold restartWindow unqueued
  split
  · unfold idleWindow
    dsimp only
    split <;> simp
  · rfl

theorem restartWindow_other {v : Win} (u : State) (other : v ≠ w) : (restartWindow u w).win v = u.win v := by
  unfold restartWindow
  split
  · unfold idleWindow
    dsimp only
    split <;> simp [win_setWin_ne _ _ other]
  · rfl

theorem windowless_restartWindow (u : State) (w : Win) : windowless (restartWindow u w) = windowless u := by
  unfold restartWindow idleWindow
  dsimp only
  split
  · split <;> rfl
  · rfl

/-- In a fold over the windows each is taken once. -/
theorem win_foldl_own {op : State → Win → State} {f : Window → Window} (own : ∀ u w, (op u w).win w = f (u.win w))
    (other : ∀ u w v, v ≠ w → (op u w).win v = u.win v) (s : State) (w : Win) : (Win.all.foldl op s).win w = f (s.win w) := by
  cases w <;> simp [Win.all, own, other]

/-- A window after RESTART (R39, R182). -/
structure Restarted (r q : Window) : Prop where
  run : q.run = .IDLE ∨ q.run = .BRAKING
  cont : (r.run = .IDLE → r.cont = none) → q.cont = none
  P : q.P = r.P
  normalized : q.normalized = r.normalized
  profile : q.profile = r.profile
  H : q.H = r.H
  tally : q.tally = if driven r.run = true ∧ r.mode = .FORCED then 0 else r.tally
  tallyT : q.tallyT = if driven r.run = true ∧ r.mode = .FORCED then none else r.tallyT

theorem Halted.restarted {r q : Window} (h : Halted r q) : Restarted r (unqueued q) := by
  obtain ⟨run, brakes⟩ := h.still
  unfold unqueued
  split
  · exact ⟨.inl rfl, fun _ => rfl, h.P, h.normalized, h.profile, h.H, h.tally, h.tallyT⟩
  · rename_i other
    refine ⟨by tauto, fun idle => ?_, h.P, h.normalized, h.profile, h.H, h.tally, h.tallyT⟩
    cases e : r.run with
    | IDLE => rw [h.idle e, idle e]
    | QUEUED => exact absurd (h.queued e) other
    | BRAKING => exact (h.braking e).2
    | RUNNING => exact (h.driven (by rw [e]; rfl)).2
    | REVERSING => exact (h.driven (by rw [e]; rfl)).2

/-- The records after RESTART: `s` is the state before it. -/
structure Emptied (s t : State) : Prop where
  outside : outside t = outside s
  strokes : t.strokes = []
  queue : t.queue = []
  slot : t.slot = CrashSlot.closed
  nearFull : t.nearFull = false
  units : t.units = s.units - (s.strokes.map (·.units)).sum
  acts : ∀ a, (t.act a).activity = .IDLE ∧ (t.act a).attempts = 0 ∧ (t.act a).strokes = (s.act a).strokes
  windows : ∀ w, Restarted (s.win w) (t.win w)

theorem nearFull_restartAct (s : State) (c : Act) : (restartAct s c).nearFull = s.nearFull := by
  unfold restartAct releaseAct resumeAs setPosition
  split
  · dsimp only
    split
    · split <;> simp [setAttempts]
    · simp [setAttempts]
  · simp [setActivity, setAttempts]

theorem emptied_restarted (s : State) : Emptied s (restarted s) := by
  have drives := drivesCut_restartDrives s
  obtain ⟨strokes, slot⟩ := restartDrives_keep s
  let x : State := { restartDrives s with queue := [], nearFull := false }
  let y := Act.all.foldl restartAct x
  have f : ActsFrame Act.all x y := restartActs_frame Act.all x
  obtain ⟨slots, queue⟩ := restartActs_keep Act.all x
  have windows : windowless (restarted s) = windowless y := foldl_keep windowless_restartWindow Win.all y
  have idle : ∀ a, (y.act a).activity = .IDLE ∧ (y.act a).attempts = 0 := fun a =>
    foldl_record (P := fun r => r.activity = .IDLE ∧ r.attempts = 0) (fun s x => actFrame_restartAct x s) idle_restartAct
      Act.all x (mem_actAll a)
  have count : ∀ a, (y.act a).strokes = (x.act a).strokes := fun a =>
    foldl_keep (f := fun u => (u.act a).strokes) (fun u c => count_restartAct c u a) Act.all x
  have nearFull : y.nearFull = false := foldl_keep nearFull_restartAct Act.all x
  refine
    { outside := (outside_of_windowless windows).trans (f.outside.trans drives.outside)
      strokes := (windowless_strokes windows).trans (f.strokes.trans strokes)
      queue := (windowless_queue windows).trans queue
      slot := (windowless_slot windows).trans (slots.trans slot)
      nearFull := (windowless_nearFull windows).trans nearFull
      units := (windowless_units windows).trans (f.units.trans drives.units)
      acts := fun a => ?_
      windows := fun w => ?_ }
  · rw [windowless_act windows]
    exact ⟨(idle a).1, (idle a).2, (count a).trans ((congrArg ActRec.strokes (act_congr rfl a)).trans (drives.count a))⟩
  · have before : y.win w = haltRecord s.now (s.win w) :=
      (congrArg (fun v : PerWin Window => v.get w) f.windows).trans (drives.windows w)
    have own : (restarted s).win w = _ := win_foldl_own (op := restartWindow) restartWindow_win
      (fun u w v other => restartWindow_other u other) y w
    rw [own, before]
    exact (halted_haltRecord s.now (s.win w)).restarted

/-! ### The parameters (R179, R182) -/

theorem queuedWindow_nil (none : s.queue = []) (w : Win) : s.queuedWindow w = Option.none := by
  unfold State.queuedWindow
  rw [none, List.find?_nil]

theorem windowless_testHold (none : s.queue = []) (w : Win) : windowless (testHold w s) = windowless s := by
  have kept : ∀ x : State, windowless x = windowless s → windowless (removeWindowJob w x) = windowless s := by
    intro x h
    rwa [removeWindowJob_none (queuedWindow_nil ((windowless_queue h).trans none) w)]
  unfold testHold thermalHold
  dsimp only
  split
  · refine kept _ ?_
    split
    · simp [stopWindow, setWindowFault]
    · split <;> simp [dropContinuation, setWindowFault]
  · split
    · simp [thermalClear]
    · rfl

/-- What a test of the hold does with a window that does not run: the hold's flag, the fault and the continuation (R57). -/
structure HoldTested (r q : Window) : Prop where
  rest : q = { r with held := q.held, fault := q.fault, cont := q.cont }
  cont : r.cont = none → q.cont = none

theorem HoldTested.restarted {r p q : Window} (h : HoldTested p q) (k : Restarted r p) : Restarted r q := by
  obtain ⟨rest, cont⟩ := h
  rw [rest]
  exact ⟨k.run, fun idle => cont (k.cont idle), k.P, k.normalized, k.profile, k.H, k.tally, k.tallyT⟩

theorem testHold_win {v : Win} (none : s.queue = []) (still : (s.win w).run ≠ .RUNNING) :
    HoldTested (s.win v) ((testHold w s).win v) := by
  rcases eq_or_ne v w with rfl | other
  · unfold testHold thermalHold
    dsimp only
    split
    · rw [removeWindowJob_none (queuedWindow_nil (by split <;> [exact none; split <;> exact none]) v)]
      simp only [setWindowFault, setWin_setWin, win_setWin_same, win_raise, still, if_false]
      split
      · simp only [dropContinuation, win_setWin_same, win_raise]
        exact ⟨rfl, fun _ => rfl⟩
      · simp only [win_raise, win_setWin_same]
        exact ⟨rfl, fun h => h⟩
    · split
      · simp only [thermalClear, win_trigger, win_setWin_same]
        exact ⟨rfl, fun h => h⟩
      · exact ⟨rfl, fun h => h⟩
  · have same : (testHold w s).win v = s.win v := by
      unfold testHold thermalHold
      dsimp only
      split
      · rw [removeWindowJob_none (queuedWindow_nil (by split <;> [exact none; split <;> exact none]) w)]
        split
        · simp [stopWindow, setWindowFault, win_setWin_ne _ _ other]
        · split <;> simp [dropContinuation, setWindowFault, win_setWin_ne _ _ other]
      · split
        · simp [thermalClear, win_setWin_ne _ _ other]
        · rfl
    rw [same]
    exact ⟨rfl, fun h => h⟩

theorem checkSearch_none (none : s.search.current = none) : checkSearch s = s := by
  simp [checkSearch, searchTimer, none]

theorem Restarted.still {r q : Window} (h : Restarted r q) : q.run ≠ .RUNNING := by
  rcases h.run with e | e <;> simp [e]

/-- The holds are tested one window after the other (R57). -/
theorem testHolds_restarted {r : Win → Window} (none : s.queue = []) (windows : ∀ w, Restarted (r w) (s.win w)) (ws : List Win) :
    windowless (ws.foldl (fun t w => testHold w t) s) = windowless s ∧
      ∀ w, Restarted (r w) ((ws.foldl (fun t w => testHold w t) s).win w) := by
  induction ws generalizing s with
  | nil => exact ⟨rfl, windows⟩
  | cons w ws ih =>
    have first := windowless_testHold none w
    obtain ⟨rest, all⟩ := ih (s := testHold w s) ((windowless_queue first).trans none)
      (fun v => (testHold_win none (windows w).still).restarted (windows v))
    exact ⟨rest.trans first, all⟩

/-- New parameters, where nothing is queued, no search is open and every window rests after RESTART (R179, R182). -/
theorem changeParams_restarted {r : Win → Window} (v : Params) (none : s.queue = []) (closed : s.search.current = Option.none)
    (windows : ∀ w, Restarted (r w) (s.win w)) :
    windowless (changeParams v s) = windowless { s with params := v } ∧ ∀ w, Restarted (r w) ((changeParams v s).win w) := by
  have triggered : ∃ x, windowless x = windowless { s with params := v } ∧ (∀ w, x.win w = s.win w) ∧
      x = (if v.driveBudget ≠ s.params.driveBudget then trigger { s with params := v } else { s with params := v }) := by
    refine ⟨_, ?_, fun w => ?_, rfl⟩ <;> split <;> rfl
  obtain ⟨x, rest, same, budget⟩ := triggered
  have queue : x.queue = [] := (windowless_queue rest).trans none
  have tested := testHolds_restarted queue (fun w => (same w).symm ▸ windows w) Win.all
  have ended : changeParams v s = if v.heatLimit ≠ s.params.heatLimit then Win.all.foldl (fun t w => testHold w t) x else x := by
    unfold changeParams
    dsimp only
    rw [← budget]
    have search : (if v.heatLimit ≠ s.params.heatLimit then Win.all.foldl (fun t w => testHold w t) x else x).search.current =
        Option.none := by
      split
      · rw [outside_search (outside_of_windowless (tested.1.trans rest))]
        exact closed
      · rw [outside_search (outside_of_windowless rest)]
        exact closed
    rw [checkSearch_none search, ite_self]
  rw [ended]
  split
  · exact ⟨tested.1.trans rest, tested.2⟩
  · exact ⟨rest, fun w => (same w).symm ▸ windows w⟩

/-! ### The whole of RESTART (R182) -/

/-- The close of a search changes the search's record alone (R138). -/
theorem closeQuietly_eq (o : SearchOutcome) (x : Option SearchAnswer) (s : State) :
    closeQuietly o x s = { s with search := (closeQuietly o x s).search } := by
  unfold closeQuietly
  split <;> rfl

/-- What RESTART makes of a state whose locks and windows are emptied: the search, the hold, the timers and the parameters. -/
def withRestart (y : SearchUnit) (e : State) : State :=
  { e with
    hold := Hold.closed
    relock := none
    keyLock := none
    entry := none
    spent := ⟨⟨false, false, false, false⟩, false, false, false⟩
    search := y
    writer := { e.writer with paramsFailed := !e.store.params.ok }
    params := loadedParams e.store.params }

/-- What RESTART leaves: `e` has the emptied locks and windows, `y` is the search unit after it (R182). -/
structure RestartDone (e : State) (y : SearchUnit) (s t : State) : Prop where
  emptied : Emptied s e
  closed : y.current = none
  rest : windowless t = windowless (withRestart y e)
  windows : ∀ w, Restarted (s.win w) (t.win w)
  pending : ∀ p, (t.port p).pending = startKinds (!s.store.params.ok)

theorem takeRestart_done (s : State) : ∃ e y, RestartDone e y s (takeRestart s).2 := by
  have emptied := emptied_restarted s
  have closed := closeQuietly_current .CANCELLED none (restarted s)
  have rest := closeQuietly_eq .CANCELLED none (restarted s)
  rw [takeRestart_eq, rest]
  generalize (closeQuietly .CANCELLED none (restarted s)).search = y at closed
  generalize restarted s = e at emptied
  have store : e.store = s.store := outside_store emptied.outside
  let x : State := { restartReset { e with search := y } with writer := { e.writer with paramsFailed := !e.store.params.ok } }
  have params := changeParams_restarted (s := x) (loadedParams e.store.params) emptied.queue closed emptied.windows
  have all : restartNotices (restartParams (restartReset { e with search := y })) =
      restartNotices (changeParams (loadedParams e.store.params) x) := rfl
  rw [all]
  have kept : (changeParams (loadedParams e.store.params) x).store = s.store :=
    (outside_store (outside_of_windowless params.1)).trans store
  refine ⟨e, y, emptied, closed, params.1, params.2, fun p => ?_⟩
  unfold restartNotices
  rw [kept]
  cases p <;> rfl

/-- With nothing queued and the slot closed, an attempt takes its trigger and does no more (R96). -/
theorem finish_bare (hb : bare s) : finish s = { takeTriggers s with writer := (pump (takeTriggers s)).writer } := by
  have closed := bare_closed hb
  have first : closeDue s = s := if_neg (by simp [closed])
  have tried : attempt (takeTriggers s) = takeTriggers s := attempt_empty hb.1 closed
  have settled : settle s = takeTriggers s := by
    rw [settle, first, settleFuel]
    split
    · rw [tried, settleFuel_still _ rfl]
    · rename_i still
      cases s
      simp_all [takeTriggers]
  rw [finish, settled]
  exact pump_writer _

/-- A response is a port's slot: the pending sets, masks and cursors stand (R162). -/
theorem respond_port (p q : Port) (code : Byte) (x : Answer) (s : State) :
    ((respond p code x s).port q).pending = (s.port q).pending ∧ ((respond p code x s).port q).mask = (s.port q).mask ∧
      ((respond p code x s).port q).cursor = (s.port q).cursor := by
  cases p <;> cases q <;> exact ⟨rfl, rfl, rfl⟩

theorem exec_restart (h : listening .M s) :
    exec (.restart .M) s = .next (respond .M 0x70#8 Answer.done (finish (takeRestart (arrived .M s)).2)) := by
  have row : exec (.restart .M) s = commandRow .M 0x70#8 (acting takeRestart) s := rfl
  have answer : ∀ x, (takeRestart x).1 = Answer.done := fun x => by unfold takeRestart; with_reducible rfl
  rw [row, commandRow_listening h rfl, acting]
  dsimp only
  rw [answer]

theorem RestartDone.bare {e : State} {y : SearchUnit} (h : RestartDone e y s t) : Machine.bare t :=
  ⟨(windowless_queue h.rest).trans h.emptied.queue, (windowless_slot h.rest).trans h.emptied.slot⟩

/-- Settles O52, from what RESTART leaves of the actuators, of the windows and of all else. -/
theorem restartClearsTheRecords : Obligations.RestartClearsTheRecords := by
  intro s listens
  have row := exec_restart listens
  obtain ⟨e, y, done⟩ := takeRestart_done (arrived .M s)
  rw [finish_bare done.bare] at row
  generalize (takeRestart (arrived .M s)).2 = t at row done
  obtain ⟨queue, slot⟩ := done.bare
  obtain ⟨emptied, closed, rest, windows, pending⟩ := done
  have before := emptied.outside
  have acts : ∀ a, t.act a = e.act a := fun a => (windowless_act rest a).trans (act_congr rfl a)
  have left : outside t = outside (withRestart y e) := outside_of_windowless rest
  have reset : ∀ sw, t.spent.get sw = false := fun sw => by
    rw [outside_spent left]
    rcases sw with (_ | _ | _ | _) | _ | _ | _ <;> rfl
  have arrived_port : ∀ p, ((arrived .M s).port p).mask = (s.port p).mask ∧ ((arrived .M s).port p).cursor = (s.port p).cursor := by
    rintro (_ | _) <;> exact ⟨rfl, rfl⟩
  have kinds : startKinds (!s.store.params.ok) = if s.store.params.ok then 0x0001#16 else 0x0801#16 := by
    cases s.store.params.ok <;> rfl
  refine ⟨_, row, (outside_phase left).trans (outside_phase before), (windowless_strokes rest).trans emptied.strokes, queue, slot,
    (congrArg SearchUnit.current (outside_search left)).trans closed, outside_hold left, outside_relock left, outside_keyLock left,
    outside_entry left, (windowless_nearFull rest).trans emptied.nearFull, fun a => ?_, (windowless_units rest).trans emptied.units,
    fun w => (windows w).cont, fun w => ?_, reset, ?_, (outside_store left).trans (outside_store before :),
    (outside_fobs left).trans (outside_fobs before :), (outside_crash left).trans (outside_crash before :),
    (outside_pins left).trans (outside_pins before :), (outside_now left).trans (outside_now before :), fun p => ⟨?_, ?_, ?_⟩, slot_respond .., ?_⟩
  · exact acts a ▸ emptied.acts a
  · obtain ⟨run, -, P, normalized, profile, H, tally, tallyT⟩ := windows w
    exact ⟨run, P, normalized, profile, H, tally, tallyT⟩
  · exact (outside_params left).trans (congrArg (fun x : Store => loadedParams x.params) (outside_store before :))
  · exact (respond_port ..).1.trans ((pending p).trans kinds)
  · exact (respond_port ..).2.1.trans ((outside_mask left p).trans ((outside_mask before p :).trans (arrived_port p).1))
  · exact (respond_port ..).2.2.trans ((outside_cursor left p).trans ((outside_cursor before p :).trans (arrived_port p).2))
  · exact (outside_slot left .E).trans (outside_slot before .E :)

end

end Sys2Proof.Machine

/-! ## The crash job from its launch to its strokes (R108, R109, R152)

With all five latches LOCKED and no stroke running, the crash set is all of them: a launch leaves them QUEUED and pending, and
the attempt that follows it starts a stroke in each group. -/

namespace Sys2Proof.Machine

open Sys2Proof

section
variable {s t : State} {a : Act} {j : Job}

/-! ### The launch -/

theorem without_unnamed (h : a ∉ j.acts) : j.without a = some j := by
  unfold Job.without
  split
  · rename_i g as e
    exact if_neg (by simpa [Job.acts, e] using h)
  · rfl

theorem setQueue_self (s : State) : s.setQueue s.queue = s := setQueue_plain (.inl rfl)

/-- An actuator that no job names is not taken from the queue. -/
theorem dropQueued_unnamed (h : ∀ j ∈ s.queue, a ∉ j.acts) : dropQueued a s = s := by
  have same : s.queue.filterMap (Job.without a) = s.queue := by
    rw [List.filterMap_congr (g := some) (fun j hj => without_unnamed (h j hj)), List.filterMap_some]
  unfold dropQueued
  dsimp only
  rw [same, setQueue_self]
  exact if_neg (Nat.lt_irrefl _)

/-- A latch of the crash set (R152). -/
def pendedRecord (r : ActRec) : ActRec := { r with attempts := 0, activity := .QUEUED }

def pendedLatches (v : PerLatch ActRec) : PerLatch ActRec :=
  ⟨pendedRecord v.fl, pendedRecord v.fr, pendedRecord v.rl, pendedRecord v.rr, pendedRecord v.tg⟩

/-- All five latches are pending in the open slot, and an attempt is due. -/
def launched (s : State) : State :=
  trigger { s with
    table := { s.table with latches := pendedLatches s.table.latches }
    slot := ⟨true, Latch.all, [], []⟩ }

theorem act_launched_latch (l : Latch) (s : State) : (launched s).act (.latch l) = pendedRecord (s.act (.latch l)) := by
  cases l <;> rfl

/-- No queued job names a latch. -/
def latchless (s : State) : Prop := ∀ j ∈ s.queue, ∀ l, Act.latch l ∉ j.acts

theorem foldl_pendedLatches (v : PerLatch ActRec) :
    Latch.all.foldl (fun v l => v.set l (pendedRecord (v.get l))) v = pendedLatches v := by
  cases v
  rfl

theorem foldl_pended (s : State) : Latch.all.foldl (fun u l => u.setAct (.latch l) (pendedRecord (u.act (.latch l)))) s =
    { s with table := { s.table with latches := pendedLatches s.table.latches } } := by
  have one : ∀ (ls : List Latch) (u : State), ls.foldl (fun u l => u.setAct (.latch l) (pendedRecord (u.act (.latch l)))) u =
      { u with table := { u.table with latches := ls.foldl (fun v l => v.set l (pendedRecord (v.get l))) u.table.latches } } := by
    intro ls
    induction ls with
    | nil => exact fun _ => rfl
    | cons l ls ih => exact fun u => by rw [List.foldl_cons, ih]; rfl
  rw [one, foldl_pendedLatches]

theorem launchCrash_locked (idle : s.strokes = []) (locked : ∀ l, (s.act (.latch l)).state = .LOCKED) (unnamed : latchless s) :
    launchCrash s = launched s := by
  have all : crashSet s = Latch.all := List.filter_eq_self.mpr (fun l _ => by simp [locked, unlocking, idle])
  have pended : ∀ (ls : List Latch) (u : State), u.queue = s.queue → ls.foldl pendLatch u =
      ls.foldl (fun u l => u.setAct (.latch l) (pendedRecord (u.act (.latch l)))) u := by
    intro ls
    induction ls with
    | nil => exact fun _ _ => rfl
    | cons l ls ih =>
      intro u queue
      have one : pendLatch u l = u.setAct (.latch l) (pendedRecord (u.act (.latch l))) := by
        have eq := pendAct_eq u (.latch l)
        rwa [dropQueued_unnamed (fun j hj => unnamed j (queue ▸ hj) l)] at eq
      rw [List.foldl_cons, List.foldl_cons, one]
      exact ih _ ((setAct_queue ..).trans queue)
  unfold launchCrash
  rw [all]
  dsimp only
  rw [pended Latch.all s rfl, foldl_pended]
  rfl

/-! ### The service of the slot (R109) -/

/-- The crash stroke of LOCKED latches in a group (R26 to R29, R154). -/
def crashStroke (grp : Group) (ls : List Latch) (s : State) : Stroke :=
  ⟨none, grp, .MINUS, ls.map (fun l => ⟨.latch l, .UNLOCKED, s.params.strokeTime⟩), s.params.strokeTime, s.reading, 3,
    unitsOf (ls.map Act.latch)⟩

theorem crashStroke_eq {grp : Group} {ls : List Latch} (some : ls ≠ []) (locked : ∀ l ∈ ls, (s.act (.latch l)).state = .LOCKED) :
    strokeRecord none grp .UNLOCK 3 (ls.map Act.latch) s = crashStroke grp ls s := by
  have even : ∀ a ∈ ls.map Act.latch, strokeDuration s.params .UNLOCK a (s.act a).state = s.params.strokeTime := by
    intro a ha
    obtain ⟨l, hl, rfl⟩ := List.mem_map.mp ha
    rw [locked l hl, moves_unlock.duration]
  rw [strokeRecord_even (by simpa using some) even, List.map_map]
  rfl

/-- What the service of one group leaves: its pending latches stroke (R109). -/
structure GroupServed (grp : Group) (ls : List Latch) (s t : State) : Prop where
  strokes : t.strokes = s.strokes ++ [crashStroke grp ls s]
  units : t.units = s.units + unitsOf (ls.map Act.latch)
  slot : t.slot = { s.slot with
    pending := s.slot.pending.filter (fun l => !ls.contains l)
    stroking := Latch.all.filter (fun l => s.slot.stroking.contains l || ls.contains l) }
  latches : ∀ l ∈ ls, t.act (.latch l) = begun s (s.act (.latch l))
  other : ∀ a, a ∉ ls.map Act.latch → t.act a = s.act a
  queue : t.queue = s.queue
  admitted : t.admitted = s.admitted
  windows : t.windows = s.windows
  due : t.attemptDue = s.attemptDue
  outside : outside t = outside s

/-- A group whose pending latches are LOCKED and free is served. -/
theorem serveGroup_served {grp : Group} {ls : List Latch} (awake : s.phase = .ACTIVE)
    (pending : s.slot.pending.filter (fun l => groupOf (.latch l) = grp) = ls) (some : ls ≠ []) (nodup : ls.Nodup)
    (locked : ∀ l ∈ ls, (s.act (.latch l)).state = .LOCKED) (idle : ∀ st ∈ s.strokes, st.group ≠ grp)
    (free : ∀ l ∈ ls, s.strokeOf (.latch l) = none) (units : s.units + unitsOf (ls.map Act.latch) ≤ s.params.driveBudget)
    (line : overcurrentLine s.pins grp = false) : GroupServed grp ls s (serveGroup grp s) := by
  have runs : s.strokes.any (fun st => st.job.isNone && st.group = grp) = false := by
    rw [List.any_eq_false]
    intro st hst
    simp [idle st hst]
  have pole : s.polarity grp = .NONE := by
    unfold State.polarity
    rw [List.find?_eq_none.mpr (fun st hst => by simpa using idle st hst)]
  have members : membersFree (ls.map Act.latch) s = true := by
    simp only [membersFree, List.all_map, List.all_eq_true]
    intro l hl
    simp [free l hl]
  have fits : unitsFree (unitsOf (ls.map Act.latch)) s = true := by simp [unitsFree, units]
  have out := outside_startStroke none grp .UNLOCK 3 (ls.map Act.latch) s
  have plain := plain_startStroke (job := none) (grp := grp) (g := .UNLOCK) (n := 3) (ls.map Act.latch) s
  have strokes := startStroke_strokes (job := none) (grp := grp) (g := .UNLOCK) (n := 3) s (by simpa using some : ls.map Act.latch ≠ [])
  have held := startStroke_units (job := none) (grp := grp) (g := .UNLOCK) (n := 3) (ls.map Act.latch) s
  have windows := startStroke_windows (job := none) (grp := grp) (g := .UNLOCK) (n := 3) (ls.map Act.latch) s
  have admitted := startStroke_admitted (job := none) (grp := grp) (g := .UNLOCK) (n := 3) (ls.map Act.latch) s
  have begins : ∀ l ∈ ls, (startStroke none grp .UNLOCK 3 (ls.map Act.latch) s).act (.latch l) = begun s (s.act (.latch l)) :=
    fun l hl => act_startStroke (nodup.map (fun _ _ e => by injection e)) (List.mem_map_of_mem hl)
  have other : ∀ a, a ∉ ls.map Act.latch → (startStroke none grp .UNLOCK 3 (ls.map Act.latch) s).act a = s.act a :=
    fun a out => startStroke_other out
  unfold serveGroup
  dsimp only
  rw [pending, if_neg (by simp [awake, some, runs, fits, polarityFree, pole, members])]
  generalize startStroke none grp .UNLOCK 3 (ls.map Act.latch) s = u at *
  rw [checkOverload_idle (.inl (by rw [← line]; exact congrArg (overcurrentLine · grp) (outside_pins out))), plain.slot]
  rw [crashStroke_eq some locked] at strokes
  exact ⟨strokes, held, rfl, fun l hl => (act_congr rfl _).trans (begins l hl), fun a ha => (act_congr rfl a).trans (other a ha),
    plain.queue, admitted, windows, plain.due, out⟩

/-- The crash strokes of all five latches. -/
def crashStrokes (s : State) : List Stroke := [crashStroke .DOOR [.FL, .FR, .RL, .RR] s, crashStroke .TAIL [.TG] s]

/-- All five latches are pending, and an attempt is due. -/
structure Pending (s : State) : Prop where
  strokes : s.strokes = []
  slot : s.slot = ⟨true, Latch.all, [], []⟩
  due : s.attemptDue = true
  locked : ∀ l, (s.act (.latch l)).state = .LOCKED

/-- The crash strokes run, and nothing else of the locks, the queue and the windows has changed. -/
structure Served (s t : State) : Prop where
  strokes : t.strokes = crashStrokes s
  slot : t.slot = ⟨true, [], Latch.all, []⟩
  units : t.units = s.units + 10
  latches : ∀ l, t.act (.latch l) = begun s (s.act (.latch l))
  children : ∀ c, t.act (.child c) = s.act (.child c)
  queue : t.queue = s.queue
  admitted : t.admitted = s.admitted
  windows : t.windows = s.windows
  due : t.attemptDue = s.attemptDue
  outside : outside t = outside s

/-- No pending latch is UNLOCKED already (R109). -/
theorem dropPendings_locked (locked : ∀ l, (s.act (.latch l)).state = .LOCKED) (ls : List Latch) :
    ls.foldl (fun t l => dropPending l t) s = s := by
  induction ls with
  | nil => rfl
  | cons l ls ih =>
    have same : dropPending l s = s := if_neg (by simp [locked])
    rw [List.foldl_cons, same, ih]

/-- Both groups are served, the door group first (R109). -/
theorem serveSlot_served (idle : s.strokes = []) (slot : s.slot = ⟨true, Latch.all, [], []⟩)
    (locked : ∀ l, (s.act (.latch l)).state = .LOCKED) (awake : s.phase = .ACTIVE)
    (units : s.units + 10 ≤ s.params.driveBudget) (door : s.pins.ocDoor = false) (tail : s.pins.ocTail = false) :
    Served s (serveSlot s) := by
  have doors : GroupServed .DOOR [.FL, .FR, .RL, .RR] s (serveGroup .DOOR s) :=
    serveGroup_served awake (by rw [slot]; rfl) (List.cons_ne_nil _ _) (by decide) (fun l _ => locked l) (by simp [idle])
      (fun l _ => strokeOf_idle idle _) (Nat.le_trans (Nat.add_le_add_left (by decide) _) units) door
  unfold serveSlot
  dsimp only
  rw [dropPendings_locked locked]
  generalize serveGroup .DOOR s = d at doors
  have strokes : d.strokes = [crashStroke .DOOR [.FL, .FR, .RL, .RR] s] := by rw [doors.strokes, idle]; rfl
  have held : d.units = s.units + 8 := doors.units
  have same : crashStroke .TAIL [.TG] d = crashStroke .TAIL [.TG] s := by
    unfold crashStroke State.reading
    rw [outside_params doors.outside, outside_now doors.outside]
  have kept : d.act (.latch .TG) = s.act (.latch .TG) := doors.other _ (by decide)
  have last : GroupServed .TAIL [.TG] d (serveGroup .TAIL d) := by
    refine serveGroup_served ((outside_phase doors.outside).trans awake) (by rw [doors.slot, slot]; rfl) (List.cons_ne_nil _ _)
      (by decide) ?_ ?_ ?_ ?_ ?_
    · intro l hl
      rw [List.mem_singleton.mp hl, kept]
      exact locked .TG
    · rw [strokes]
      simp [crashStroke]
    · intro l hl
      rw [List.mem_singleton.mp hl, strokeOf_eq_none, strokes]
      simp [crashStroke, Stroke.has]
    · rw [held, outside_params doors.outside]
      exact units
    · rw [outside_pins doors.outside]
      exact tail
  refine ⟨?_, ?_, ?_, ?_, fun c => ?_, last.queue.trans doors.queue, last.admitted.trans doors.admitted,
    last.windows.trans doors.windows, last.due.trans doors.due, last.outside.trans doors.outside⟩
  · rw [last.strokes, strokes, same]
    rfl
  · rw [last.slot, doors.slot, slot]
    rfl
  · rw [last.units, held]
    rfl
  · have four : ∀ l ∈ [Latch.FL, .FR, .RL, .RR], (serveGroup .TAIL d).act (.latch l) = begun s (s.act (.latch l)) := by
      intro l hl
      rw [last.other _ (by revert l; decide), doors.latches l hl]
    intro l
    cases l with
    | TG => rw [last.latches .TG (by decide), kept, begun_congr doors.outside]
    | _ => exact four _ (by decide)
  · rw [last.other _ (by simp), doors.other _ (by simp)]

/-- The attempt of the event starts the crash strokes (R96, R109). -/
theorem Pending.finish (h : Pending s) (awake : s.phase = .ACTIVE) (units : s.units + 10 ≤ s.params.driveBudget)
    (door : s.pins.ocDoor = false) (tail : s.pins.ocTail = false) :
    ∃ t, Served (takeTriggers s) t ∧ Machine.finish s = pump t := by
  have served := serveSlot_served (s := takeTriggers s) h.strokes h.slot h.locked awake units door tail
  refine ⟨_, served, ?_⟩
  have busy : s.slotDone = false := by simp [State.slotDone, h.slot, Latch.all]
  have still : (serveSlot (takeTriggers s)).slotDone = false := by simp [State.slotDone, served.slot, Latch.all]
  have first : closeDue s = s := if_neg (by simp [busy])
  have tried : attempt (takeTriggers s) = serveSlot (takeTriggers s) := by
    have isOpen : (takeTriggers s).slot.isOpen = true := congrArg CrashSlot.isOpen h.slot
    unfold attempt
    dsimp only
    rw [if_pos isOpen, still]
    rfl
  rw [Machine.finish, settle, first, settleFuel, if_pos h.due, tried, settleFuel_still _ served.due]

/-- In standby the crash job waits (R109, R184). -/
theorem Pending.finish_standby (h : Pending s) (asleep : s.phase = .STANDBY) : Machine.finish s = pump (takeTriggers s) := by
  have group : ∀ grp, serveGroup grp (takeTriggers s) = takeTriggers s := fun grp => if_pos (by
    have phase : (takeTriggers s).phase = .STANDBY := asleep
    simp [phase])
  have busy : s.slotDone = false := by simp [State.slotDone, h.slot, Latch.all]
  have still : (takeTriggers s).slotDone = false := (slotDone_congr rfl rfl).trans busy
  have first : closeDue s = s := if_neg (by simp [busy])
  have served : serveSlot (takeTriggers s) = takeTriggers s := by
    unfold serveSlot
    dsimp only
    rw [dropPendings_locked (s := takeTriggers s) h.locked, group, group]
  have tried : attempt (takeTriggers s) = takeTriggers s := by
    have isOpen : (takeTriggers s).slot.isOpen = true := congrArg CrashSlot.isOpen h.slot
    unfold attempt
    dsimp only
    rw [if_pos isOpen, served, still]
    rfl
  rw [Machine.finish, settle, first, settleFuel, if_pos h.due, tried, settleFuel_still _ rfl]

end

end Sys2Proof.Machine

/-! ## A crash indication up to its launch (R151 to R153, R157) -/

namespace Sys2Proof.Machine

open Sys2Proof

section
variable {s t c u : State} {src : CrashSource}

/-! ### Parts of an indication that find nothing (R152, R153) -/

theorem endLatchWaits_none (none : ∀ l, (s.act (.latch l)).activity ≠ .RETRY_WAIT) : endLatchWaits s = s := by
  have same : ∀ ls : List Latch, (ls.map Act.latch).foldl endRetryWait s = s := by
    intro ls
    induction ls with
    | nil => rfl
    | cons l ls ih =>
      have one : endRetryWait s (.latch l) = s := if_neg (none l)
      rw [List.map_cons, List.foldl_cons, one, ih]
  exact same Latch.all

/-- No lock job and no window job is queued. -/
def jobsSpared (s : State) : Prop := ∀ j ∈ s.queue, lockGoal j.goal? = false ∧ j.task? = none

theorem removeLockJobs_none (spared : jobsSpared s) : removeLockJobs s = s := by
  have none : s.queue.filter (fun j => lockGoal j.goal?) = [] :=
    List.filter_eq_nil_iff.mpr (fun j hj => by simp [(spared j hj).1])
  unfold removeLockJobs
  dsimp only
  rw [none]
  rfl

theorem queuedWindow_none (spared : jobsSpared s) (w : Win) : s.queuedWindow w = none := by
  refine List.find?_eq_none.mpr (fun j hj => ?_)
  have task := (spared j hj).2
  unfold Job.task? at task
  unfold Job.namesWindow
  split <;> simp_all

theorem removeAllWindowJobs_none (spared : jobsSpared s) : removeAllWindowJobs s = s := by
  have same : ∀ ws : List Win, ws.foldl (fun t w => removeWindowJob w t) s = s := by
    intro ws
    induction ws with
    | nil => rfl
    | cons w ws ih => rw [List.foldl_cons, removeWindowJob_none (queuedWindow_none spared w), ih]
  exact same Win.all

theorem crashWindows_spared (spared : jobsSpared s) : crashWindows s = haltAllWindows s := by
  have kept : jobsSpared (haltAllWindows s) := by
    unfold jobsSpared
    rw [windowless_queue (windowless_haltAllWindows s)]
    exact spared
  exact removeAllWindowJobs_none kept

/-- With the windows stopped, the close of the hold changes the hold alone (R129). -/
theorem closeHold_stopped (spared : jobsSpared s) (still : ∀ w, (s.win w).run ≠ .RUNNING ∧
    ((s.win w).run = .BRAKING → (s.win w).cont = none)) : closeHold s = { s with hold := (closeHold s).hold } := by
  unfold closeHold
  dsimp only
  split
  · split
    · generalize { s.hold with isOpen := false, startT := none, gapT := none } = o
      have same : ∀ ws : List Win, ws.foldl stopComfort { s with hold := o } = { s with hold := o } := by
        intro ws
        induction ws with
        | nil => rfl
        | cons w ws ih =>
          have queued : ({ s with hold := o } : State).queuedWindow w = none := queuedWindow_none spared w
          have win : ({ s with hold := o } : State).win w = s.win w := rfl
          obtain ⟨runs, brakes⟩ := still w
          have one : stopComfort { s with hold := o } w = { s with hold := o } := by
            unfold stopComfort
            dsimp only
            rw [win, if_neg (fun k => runs k.1), if_neg (fun k => by simp [brakes k.1] at k), queued]
            rfl
          rw [List.foldl_cons, one, ih]
      rw [same]
    · rfl
  · rfl

/-! ### The state at the launch -/

/-- From `c` on, an indication has stopped the windows and closed what it closes; the crash job is not yet launched. -/
structure Prelaunch (c t : State) : Prop where
  rest : windowless t = windowless { c with relock := t.relock, hold := t.hold, search := t.search }
  windows : t.windows = haltedWindows c.now c.windows
  notice : ∀ k, noticed k c → noticed k t

/-- The relock timer is off, and no hold and no search is open. -/
def firstEnds (s : State) : Prop := s.relock = none ∧ s.hold.isOpen = false ∧ s.search.current = none

/-- The close of a search changes the search and the notices (R138). -/
theorem closeSearch_rest (o : SearchOutcome) (x : Option SearchAnswer) (s : State) :
    windowless (closeSearch o x s) = windowless { s with search := (closeSearch o x s).search } ∧
      (closeSearch o x s).windows = s.windows ∧ ∀ k, noticed k s → noticed k (closeSearch o x s) := by
  have quietly := closeQuietly_eq o x s
  unfold closeSearch
  split
  · rw [quietly]
    exact ⟨rfl, rfl, fun k h => noticed_raised (noticed_of_ports h rfl)⟩
  · exact ⟨rfl, rfl, fun _ h => h⟩

/-- A first indication that finds no latch in a retry wait and no job to remove (R151 to R153). -/
theorem firstIndication_spared (cut : crashCut { s with crash := { s.crash with latch := true } } = c) (spared : jobsSpared c)
    (waits : ∀ l, (c.act (.latch l)).activity ≠ .RETRY_WAIT) :
    ∃ t, firstIndication s = launchCrash t ∧ Prelaunch c t ∧ firstEnds t := by
  have base : firstBase s = haltAllWindows c := by
    unfold firstBase
    rw [cut, endLatchWaits_none waits, removeLockJobs_none spared, crashWindows_spared spared]
  have halted := haltAllWindows_eq c
  have quiet : jobsSpared (cancelRelock (haltAllWindows c)) := by
    rw [halted]
    exact spared
  have still : ∀ w, ((cancelRelock (haltAllWindows c)).win w).run ≠ .RUNNING ∧
      (((cancelRelock (haltAllWindows c)).win w).run = .BRAKING → ((cancelRelock (haltAllWindows c)).win w).cont = none) := by
    intro w
    obtain ⟨run, brakes⟩ := (halted_win w c).still
    rw [show (cancelRelock (haltAllWindows c)).win w = (haltAllWindows c).win w from rfl]
    exact ⟨fun e => by simp [e] at run, brakes⟩
  have closed := closeHold_stopped quiet still
  have shut := closeHold_shut (cancelRelock (haltAllWindows c))
  rw [firstIndication_eq, base, closed]
  generalize (closeHold (cancelRelock (haltAllWindows c))).hold = o at shut
  obtain ⟨rest, windows, notice⟩ := closeSearch_rest .CANCELLED none { cancelRelock (haltAllWindows c) with hold := o }
  have current := closeSearch_current .CANCELLED none { cancelRelock (haltAllWindows c) with hold := o }
  refine ⟨_, rfl, ?_⟩
  generalize closeSearch .CANCELLED none { cancelRelock (haltAllWindows c) with hold := o } = t at rest windows notice current
  rw [halted] at rest windows notice
  have relock : t.relock = none := outside_relock (outside_of_windowless rest)
  have hold : t.hold = o := outside_hold (outside_of_windowless rest)
  refine ⟨⟨?_, windows, notice⟩, relock, hold ▸ shut, current⟩
  rw [relock, hold]
  exact rest

/-- A later indication that finds the slot closed (R157). -/
theorem relaunch_spared (spared : jobsSpared s) (waits : ∀ l, (s.act (.latch l)).activity ≠ .RETRY_WAIT) :
    ∃ t, relaunch s = launchCrash t ∧ Prelaunch s t ∧ t.relock = s.relock ∧ t.hold = s.hold ∧ t.search = s.search := by
  refine ⟨haltAllWindows s, ?_, ?_⟩
  · unfold relaunch
    rw [endLatchWaits_none waits, crashWindows_spared spared]
  · rw [haltAllWindows_eq]
    exact ⟨⟨rfl, rfl, fun _ h => h⟩, rfl, rfl, rfl⟩

end

end Sys2Proof.Machine

/-! ## What a crash indication leaves (R108, R109, R151 to R153, R157) -/

namespace Sys2Proof.Machine

open Sys2Proof

section
variable {s t c u v : State} {src : CrashSource} {k : CrashUnit}

/-! ### The windows and the records that stand -/

/-- The crash record is set by the indication, every window has stopped, CRASH is pending, and the records named are kept. -/
structure Indicated (src : CrashSource) (s t : State) : Prop where
  latch : t.crash.latch = true
  source : t.crash.lastSource = some src
  windows : t.windows = haltedWindows s.now s.windows
  notice : noticed .CRASH t
  fobs : t.fobs = s.fobs
  params : t.params = s.params
  store : t.store = s.store
  entry : t.entry = s.entry

theorem Indicated.win (h : Indicated src s t) (w : Win) : Halted (s.win w) (t.win w) := by
  have same : t.win w = (haltAllWindows s).win w := by
    rw [haltAllWindows_eq]
    exact congrArg (fun x : PerWin Window => x.get w) h.windows
  rw [same]
  exact halted_win w s

/-- The end of the event keeps what an indication has done. -/
theorem Indicated.keep {w : Writer} (h : Indicated src s t) (out : outside u = { outside t with writer := w })
    (windows : u.windows = t.windows) (notice : noticed .CRASH u) : Indicated src s u :=
  { latch := (congrArg (fun x : State => x.crash.latch) out :).trans h.latch
    source := (congrArg (fun x : State => x.crash.lastSource) out :).trans h.source
    windows := windows.trans h.windows
    notice := notice
    fobs := (congrArg State.fobs out :).trans h.fobs
    params := (congrArg State.params out :).trans h.params
    store := (congrArg State.store out :).trans h.store
    entry := (congrArg State.entry out :).trans h.entry }

/-- `t` is the state at the launch of the crash job by an indication in `s`; `c` has its locks and its queue. -/
structure AtLaunch (src : CrashSource) (s c t : State) : Prop where
  indicated : Indicated src s t
  table : t.table = c.table
  queue : t.queue = c.queue
  admitted : t.admitted = c.admitted
  units : t.units = c.units
  phase : t.phase = s.phase
  now : t.now = s.now
  pins : t.pins = s.pins
  strokes : t.strokes = []
  locked : ∀ l, (t.act (.latch l)).state = .LOCKED
  unnamed : latchless t

theorem AtLaunch.rebase {d : State} (h : AtLaunch src s c t) (table : c.table = d.table) (queue : c.queue = d.queue)
    (admitted : c.admitted = d.admitted) (units : c.units = d.units) : AtLaunch src s d t :=
  { h with
    table := h.table.trans table
    queue := h.queue.trans queue
    admitted := h.admitted.trans admitted
    units := h.units.trans units }

theorem Prelaunch.atLaunch (h : Prelaunch c t) (out : outside c = outside { s with crash := k }) (latch : k.latch = true)
    (source : k.lastSource = some src) (windows : c.windows = s.windows) (notice : noticed .CRASH c) (strokes : c.strokes = [])
    (locked : ∀ l, (c.act (.latch l)).state = .LOCKED) (unnamed : latchless c) : AtLaunch src s c t := by
  have left := outside_of_windowless h.rest
  have now : c.now = s.now := (outside_now out :)
  have queue : t.queue = c.queue := (windowless_queue h.rest :)
  have crash : t.crash = k := (outside_crash left :).trans (outside_crash out :)
  exact
    { indicated :=
        { latch := crash ▸ latch
          source := crash ▸ source
          windows := by rw [h.windows, now, windows]
          notice := h.notice _ notice
          fobs := (outside_fobs left :).trans (outside_fobs out :)
          params := (outside_params left :).trans (outside_params out :)
          store := (outside_store left :).trans (outside_store out :)
          entry := (outside_entry left :).trans (outside_entry out :) }
      table := (congrArg State.table h.rest :)
      queue := queue
      admitted := (windowless_admitted h.rest :)
      units := (windowless_units h.rest :)
      phase := (outside_phase left :).trans (outside_phase out :)
      now := (outside_now left :).trans now
      pins := (outside_pins left :).trans (outside_pins out :)
      strokes := (windowless_strokes h.rest :).trans strokes
      locked := fun l => by rw [windowless_act h.rest]; exact locked l
      unnamed := by unfold latchless; rw [queue]; exact unnamed }

/-! ### The crash strokes run -/

/-- All five latches stroke for the crash job that was launched in `s`. -/
structure Runs (s v : State) : Prop where
  phase : v.phase = .ACTIVE
  strokes : v.strokes = crashStrokes s
  slot : v.slot = ⟨true, [], Latch.all, []⟩
  latches : ∀ l, (v.act (.latch l)).activity = .STROKING ∧ (v.act (.latch l)).attempts = 1

theorem crashStrokes_congr (params : t.params = s.params) (now : t.now = s.now) : crashStrokes t = crashStrokes s := by
  unfold crashStrokes crashStroke State.reading
  rw [params, now]

theorem Served.runs (h : Served t v) (awake : t.phase = .ACTIVE) (params : t.params = s.params) (now : t.now = s.now)
    (fresh : ∀ l, (t.act (.latch l)).attempts = 0) : Runs s v where
  phase := (outside_phase h.outside).trans awake
  strokes := h.strokes.trans (crashStrokes_congr params now)
  slot := h.slot
  latches l := by
    rw [h.latches l]
    unfold begun
    dsimp only
    rw [fresh l]
    exact ⟨rfl, rfl⟩

theorem AtLaunch.pending (h : AtLaunch src s c t) : Pending (launched t) where
  strokes := h.strokes
  slot := rfl
  due := rfl
  locked l := by
    rw [act_launched_latch]
    exact h.locked l

/-- What the event of an indication leaves in a part that is ACTIVE. -/
structure Struck (src : CrashSource) (s c t u : State) : Prop where
  indicated : Indicated src s u
  runs : Runs s u
  units : u.units = c.units + 10
  queue : u.queue = c.queue
  admitted : u.admitted = c.admitted
  children : ∀ x, u.act (.child x) = c.act (.child x)
  relock : u.relock = t.relock
  hold : u.hold = t.hold
  search : u.search = t.search

theorem AtLaunch.struck (h : AtLaunch src s c t) (awake : s.phase = .ACTIVE) (units : c.units + 10 ≤ s.params.driveBudget)
    (door : s.pins.ocDoor = false) (tail : s.pins.ocTail = false) : Struck src s c t (finish (launchCrash t)) := by
  rw [launchCrash_locked h.strokes h.locked h.unnamed]
  have noted : noticed .CRASH (finish (launched t)) := noticed_finish (noticed_of_ports h.indicated.notice rfl)
  obtain ⟨v, served, ended⟩ := h.pending.finish (h.phase.trans awake)
    (by rw [show (launched t).units = t.units from rfl, h.units]; exact h.indicated.params ▸ units)
    (by rw [show (launched t).pins = t.pins from rfl, h.pins]; exact door)
    (by rw [show (launched t).pins = t.pins from rfl, h.pins]; exact tail)
  rw [ended, pump_writer] at noted ⊢
  have out : outside v = outside t := served.outside
  have runs : Runs s v := served.runs (h.phase.trans awake) h.indicated.params h.now (fun l => by
    rw [show (takeTriggers (launched t)).act (.latch l) = (launched t).act (.latch l) from rfl, act_launched_latch]
    rfl)
  refine ⟨h.indicated.keep (congrArg (fun x : State => { x with writer := (pump v).writer }) out) served.windows noted,
    ⟨runs.phase, runs.strokes, runs.slot, runs.latches⟩, ?_, ?_, ?_, fun x => ?_, (outside_relock out :), (outside_hold out :),
    (outside_search out :)⟩
  · exact served.units.trans (congrArg (· + 10) h.units)
  · exact served.queue.trans h.queue
  · exact served.admitted.trans h.admitted
  · exact (served.children x).trans (act_congr (s := c) (t := t) h.table (.child x) :)

/-- The answer of CRASH_NOTIFY is a port's slot. -/
theorem Struck.respond (h : Struck src s c t u) (p : Port) (code : Byte) (x : Answer) : Struck src s c t (respond p code x u) := by
  obtain ⟨⟨latch, source, windows, notice, fobs, params, store, entry⟩, ⟨phase, strokes, slot, latches⟩, units, queue, admitted,
    children, relock, hold, search⟩ := h
  exact ⟨⟨latch, source, windows, noticed_respond notice, fobs, params, store, entry⟩, ⟨phase, strokes, slot, latches⟩, units, queue,
    admitted, children, relock, hold, search⟩

/-! ### In standby (R184) -/

/-- What the event of an indication leaves in standby: the five latches wait for its end. -/
structure Held (src : CrashSource) (s c t u : State) : Prop where
  indicated : Indicated src s u
  phase : u.phase = .STANDBY
  strokes : u.strokes = []
  slot : u.slot = ⟨true, Latch.all, [], []⟩
  units : u.units = c.units
  queue : u.queue = c.queue
  latches : ∀ l, u.act (.latch l) = pendedRecord (c.act (.latch l))
  children : ∀ x, u.act (.child x) = c.act (.child x)
  relock : u.relock = t.relock
  hold : u.hold = t.hold
  search : u.search = t.search
  now : u.now = s.now
  pins : u.pins = s.pins

theorem AtLaunch.held (h : AtLaunch src s c t) (asleep : s.phase = .STANDBY) : Held src s c t (finish (launchCrash t)) := by
  have phase := h.phase.trans asleep
  have record : ∀ a, t.act a = c.act a := fun a => act_congr h.table a
  rw [launchCrash_locked h.strokes h.locked h.unnamed]
  have noted : noticed .CRASH (finish (launched t)) := noticed_finish (noticed_of_ports h.indicated.notice rfl)
  rw [h.pending.finish_standby phase, pump_writer] at noted ⊢
  exact ⟨h.indicated.keep (w := (pump (takeTriggers (launched t))).writer) rfl rfl noted, phase, h.strokes, rfl, h.units, h.queue,
    fun l => (act_launched_latch l t).trans (by rw [record]), fun x => (record (.child x) :), rfl, rfl, rfl, h.now, h.pins⟩

/-- The next transfer wakes the part, and the crash strokes start (R109, R184). -/
theorem Held.wakes (h : Held src s c t u) (locked : ∀ l, (c.act (.latch l)).state = .LOCKED)
    (units : c.units + 10 ≤ s.params.driveBudget) (door : s.pins.ocDoor = false) (tail : s.pins.ocTail = false) (p : Port) :
    ∃ v, exec (.transferBegin p) u = .next v ∧ Runs s v ∧ v.units = c.units + 10 := by
  let y : State := trigger { u with phase := .ACTIVE }
  have woken : wake u = y := by
    unfold wake
    rw [if_pos h.phase]
    exact if_pos (congrArg CrashSlot.isOpen h.slot)
  have awake : awaken u = finish y := by
    unfold awaken
    rw [if_pos ⟨h.phase, congrArg CrashSlot.isOpen h.slot⟩, woken]
  have record : ∀ l, y.act (.latch l) = pendedRecord (c.act (.latch l)) := fun l => h.latches l
  have pending : Pending y := ⟨h.strokes, h.slot, rfl, fun l => by rw [record]; exact locked l⟩
  obtain ⟨v, served, ended⟩ := pending.finish rfl
    (by rw [show y.units = u.units from rfl, h.units]; exact h.indicated.params ▸ units)
    (by rw [show y.pins = u.pins from rfl, h.pins]; exact door) (by rw [show y.pins = u.pins from rfl, h.pins]; exact tail)
  have runs : Runs s v := served.runs rfl h.indicated.params h.now (fun l => by
    rw [show (takeTriggers y).act (.latch l) = y.act (.latch l) from rfl, record]
    rfl)
  have row : exec (.transferBegin p) u = .next (beginTransfer p (pump v)) := by
    rw [← ended, ← awake]
    rfl
  have held : v.units = c.units + 10 := served.units.trans (congrArg (· + 10) h.units)
  refine ⟨_, row, ?_⟩
  rw [pump_writer]
  unfold beginTransfer
  dsimp only
  split <;> exact ⟨⟨runs.phase, runs.strokes, runs.slot, runs.latches⟩, held⟩

/-! ### From rest -/

/-- The state of an indication when it has set its source and raised CRASH (R151). -/
def alarmed (src : CrashSource) (s : State) : State := raise .CRASH { s with crash := { s.crash with lastSource := some src } }

theorem alarmed_noticed (src : CrashSource) (s : State) : noticed .CRASH (alarmed src s) := noticed_raise _ _

theorem indication_first (clear : s.crash.latch = false) : indication src s = firstIndication (alarmed src s) := if_pos clear

theorem indication_later (set : s.crash.latch = true) (closed : s.slot.isOpen = false) :
    indication src s = relaunch (alarmed src s) := by
  have latch : (alarmed src s).crash.latch = true := set
  have slot : (alarmed src s).slot.isOpen = false := closed
  unfold indication
  rw [show raise .CRASH { s with crash := { s.crash with lastSource := some src } } = alarmed src s from rfl]
  dsimp only
  rw [latch, slot]
  rfl

/-- What an indication from rest does up to its launch, and what the first and a later one differ in (R151, R152, R157). -/
theorem indication_rest (src : CrashSource) (rest : restingLocks s) (locked : ∀ l, (s.act (.latch l)).state = .LOCKED) :
    ∃ t, indication src s = launchCrash t ∧ AtLaunch src s s t ∧ (s.crash.latch = false → firstEnds t) ∧
      (s.crash.latch = true → t.relock = s.relock ∧ t.hold = s.hold ∧ t.search = s.search) := by
  obtain ⟨queue, strokes, closed, -, -, -, acts⟩ := rest
  have spared : ∀ x : State, x.queue = s.queue → jobsSpared x := fun x e j hj => by simp [e, queue] at hj
  have unnamed : latchless s := fun j hj => by simp [queue] at hj
  have waits : ∀ l, (s.act (.latch l)).activity ≠ .RETRY_WAIT := fun l => by simp [acts]
  cases latch : s.crash.latch with
  | false =>
    let c : State := { alarmed src s with crash := { (alarmed src s).crash with latch := true } }
    have cut : crashCut c = c := by
      unfold crashCut
      rw [show c.strokes = s.strokes from rfl, strokes]
      rfl
    obtain ⟨t, first, before, ends⟩ := firstIndication_spared (s := alarmed src s) cut (spared c rfl) waits
    have launch := before.atLaunch (s := s) (k := { s.crash with lastSource := some src, latch := true }) rfl rfl rfl rfl
      (alarmed_noticed src s) strokes locked unnamed
    exact ⟨t, (indication_first latch).trans first, launch.rebase rfl rfl rfl rfl, fun _ => ends, nofun⟩
  | true =>
    obtain ⟨t, later, before, kept⟩ := relaunch_spared (s := alarmed src s) (spared _ rfl) waits
    have launch := before.atLaunch (s := s) (k := { s.crash with lastSource := some src }) rfl latch rfl rfl
      (alarmed_noticed src s) strokes locked unnamed
    exact ⟨t, (indication_later latch closed).trans later, launch.rebase rfl rfl rfl rfl, nofun, fun _ => kept⟩

end

end Sys2Proof.Machine

/-! ## A child engage stroke that an indication cuts (R36, R37)

The stroke runs alone. Its members take their state from their contacts, and one fresh job of them enters the empty queue. -/

namespace Sys2Proof.Machine

open Sys2Proof

section
variable {s t c : State} {st : Stroke} {j : Job} {kids : List Child}

/-- The ids that live jobs hold come from the queue, the admitted jobs and the retry waits (R88). -/
theorem newId_of_waits (queue : t.queue = s.queue) (admitted : t.admitted = s.admitted)
    (waits : ∀ a, (t.act a).wait = (s.act a).wait) (next : t.nextId = s.nextId) : t.newId = s.newId := by
  have reserved : t.reserved = s.reserved := by
    unfold State.reserved
    exact List.filterMap_congr (fun a _ => by rw [waits])
  unfold State.newId State.liveIds State.liveJobs
  rw [queue, admitted, reserved, next]

/-! ### The members of the cut stroke -/

theorem nextId_resumeAs (a : Act) (x : Activity) (s : State) : (resumeAs a x s).nextId = s.nextId := by
  unfold resumeAs setPosition
  dsimp only
  split
  · split <;> simp
  · simp

theorem crashMember_bare (hb : bare s) (m : Member) : crashMember s m = releaseAct m.act .IDLE s := by
  unfold crashMember
  rw [restActivity_bare hb, ite_self]

/-- A record that a crash cut has released (R21). -/
def releasedRecord (s : State) (a : Act) (r : ActRec) : ActRec := resumed s a .IDLE { r with attempts := 0 }

theorem act_releaseAct (a : Act) (s : State) : (releaseAct a .IDLE s).act a = releasedRecord s a (s.act a) := by
  unfold releaseAct
  rw [act_resumeAs, resumed_congr (s := s) (by simp), setAttempts, act_setAct_same]
  rfl

/-- The members of a stroke that neither waited nor are named by a job are released, and nothing else is changed (R21, R36). -/
structure Released (as : List Act) (s t : State) : Prop where
  frame : ActsFrame as s t
  plain : Plain s t
  nextId : t.nextId = s.nextId
  acts : ∀ a ∈ as, t.act a = releasedRecord s a (s.act a)

theorem crashMembers_released (hb : bare s) {ms : List Member} (nodup : (ms.map (·.act)).Nodup) :
    Released (ms.map (·.act)) s (ms.foldl crashMember s) := by
  have keep : ∀ u, ∀ m ∈ ms, bare u → Plain u (crashMember u m) := fun u m _ hu => by
    rw [crashMember_bare hu]
    exact plain_resumeAs (plain_setAct (.refl u))
  refine ⟨crashMembers_frame ms s, plain_foldl ms keep hb, ?_, fun a ha => ?_⟩
  · refine foldl_keep (f := State.nextId) (fun u m => ?_) ms s
    unfold crashMember releaseAct
    rw [nextId_resumeAs]
    simp [setAttempts]
  · obtain ⟨m, hm, rfl⟩ := List.mem_map.mp ha
    obtain ⟨u, hu, out, -, before, found⟩ := foldl_at (key := Member.act) (P := bare) (op := crashMember)
      (fun _ _ => actFrame_releaseAct (.refl _ _)) (fun u m hm hu => (keep u m hm hu).bare hu) nodup hm hb
    rw [found, crashMember_bare hu, act_releaseAct, before]
    exact resumed_congr out

/-! ### Their return to the queue -/

/-- The job under which the members return (R37). -/
def returnedJob (id : Nat) (kids : List Child) (now : Time) (j : Job) : Job :=
  ⟨id, j.origin, .lock .ENGAGE (kids.map Act.child), .USER, j.enqueued, decide (2000 ≤ ageAt now j.enqueued), false, 0⟩

theorem foldl_setActivity_eq (x : Activity) (as : List Act) (s : State) :
    as.foldl (fun t a => setActivity a x t) s = { s with table := (as.foldl (fun t a => setActivity a x t) s).table } ∧
      ∀ a, (as.foldl (fun t a => setActivity a x t) s).act a = if a ∈ as then { s.act a with activity := x } else s.act a := by
  induction as generalizing s with
  | nil => exact ⟨rfl, fun a => (if_neg List.not_mem_nil).symm⟩
  | cons c as ih =>
    obtain ⟨rest, acts⟩ := ih (setActivity c x s)
    rw [List.foldl_cons]
    refine ⟨rest.trans (by cases c <;> rfl), fun a => ?_⟩
    rw [acts, setActivity]
    rcases eq_or_ne a c with rfl | other
    · rw [act_setAct_same, if_pos List.mem_cons_self]
      split <;> rfl
    · rw [act_setAct_ne _ _ other]
      simp [other]

/-- The first job of an empty queue (R89, R101). -/
theorem enterQueue_nil (none : s.queue = []) (j : Job) : enterQueue j s =
    trigger { s with queue := [{ j with blocking := j.blocking || decide (blockingAge ≤ ageAt s.now j.enqueued) }] } := by
  unfold enterQueue
  dsimp only
  rw [none, insertByAge, setQueue_plain (.inr (.inl ⟨by simp [none], .inl (by simp)⟩))]

/-- What the return of child members to an empty queue leaves (R37). -/
structure Returned (kids : List Child) (j : Job) (s t : State) : Prop where
  rest : outside t = outside s
  strokes : t.strokes = s.strokes
  windows : t.windows = s.windows
  units : t.units = s.units
  admitted : t.admitted = s.admitted
  notice : ∀ k, noticed k s → noticed k t
  queue : t.queue = [returnedJob s.newId kids s.now j]
  acts : ∀ a, t.act a = if a ∈ kids.map Act.child then { s.act a with activity := .QUEUED } else s.act a

theorem returnChildren_returned (none : s.queue = []) (members : st.members.map (·.act) = kids.map Act.child) (some : kids ≠ []) :
    Returned kids j s (returnChildren st (Option.some j) s) := by
  have back : (st.members.map (·.act)).filter (fun a => !isLatch a && !s.queue.any (·.names a)) = kids.map Act.child := by
    rw [members]
    refine List.filter_eq_self.mpr (fun a ha => ?_)
    obtain ⟨c, -, rfl⟩ := List.mem_map.mp ha
    simp [isLatch, none]
  have room : ¬(((kids.map Act.child).isEmpty = true) ∨ s.queueFull = true) := by
    simp [some, State.queueFull, none, queueCapacity]
  unfold returnChildren
  dsimp only
  rw [back, if_neg room, enterQueue_nil (s := s.tookId) none]
  change Returned kids j s ((kids.map Act.child).foldl (fun t a => setActivity a .QUEUED t)
    (trigger { s.tookId with queue := [returnedJob s.newId kids s.now j] }))
  obtain ⟨rest, acts⟩ := foldl_setActivity_eq .QUEUED (kids.map Act.child) (trigger { s.tookId with
    queue := [returnedJob s.newId kids s.now j] })
  generalize (kids.map Act.child).foldl (fun t a => setActivity a .QUEUED t) _ = x at rest acts
  rw [rest] at acts ⊢
  exact ⟨rfl, rfl, rfl, rfl, rfl, fun k h => noticed_of_ports h rfl, rfl, acts⟩

/-! ### The cut -/

/-- One child engage stroke runs, under the only admitted job (R26, R27, R87). -/
structure Engaging (st : Stroke) (j : Job) (kids : List Child) (s : State) : Prop where
  strokes : s.strokes = [st]
  plus : st.polarity = .PLUS
  job : st.job = some j.id
  members : st.members.map (·.act) = kids.map Act.child
  some : kids ≠ []
  nodup : kids.Nodup
  admitted : s.admitted = [j]
  bare : bare s
  law : strokesLaw s

/-- What the cut of the stroke leaves (R21, R36, R37). -/
structure CutBack (st : Stroke) (j : Job) (kids : List Child) (s t : State) : Prop where
  outside : outside t = outside s
  strokes : t.strokes = []
  windows : t.windows = s.windows
  units : t.units = s.units - st.units
  admitted : t.admitted = []
  notice : ∀ k, noticed k s → noticed k t
  queue : t.queue = [returnedJob s.newId kids s.now j]
  members : ∀ c ∈ kids, t.act (.child c) = { releasedRecord s (.child c) (s.act (.child c)) with activity := .QUEUED }
  other : ∀ a, a ∉ kids.map Act.child → t.act a = s.act a

/-- A member of the stroke waits for no retry. -/
theorem Engaging.no_wait (h : Engaging st j kids s) {a : Act} (ha : a ∈ kids.map Act.child) : (s.act a).wait = none := by
  obtain ⟨-, -, acts⟩ := h.law
  obtain ⟨stroking, waiting⟩ := acts a
  obtain ⟨m, hm, e⟩ := List.mem_map.mp (h.members.symm ▸ ha)
  have runs : (s.act a).activity = .STROKING :=
    stroking.mpr (strokeOf_isSome.mpr ⟨st, by simp [h.strokes], has_iff.mpr ⟨m, hm, e⟩⟩)
  by_contra k
  have waits := waiting.mpr (Option.isSome_iff_ne_none.mpr k)
  rw [runs] at waits
  cases waits

theorem crashCut_children (h : Engaging st j kids s) : CutBack st j kids s (crashCut s) := by
  have child : (kids.map Act.child).Nodup := h.nodup.map (fun _ _ e => by injection e)
  have cut : crashCut s = trigger (settleJob (Option.some j.id) (returnChildren st (Option.some j)
      (st.members.foldl crashMember (removeStroke st s)))) := by
    have admitted : s.admitted.find? (fun x => x.id = j.id) = Option.some j := by simp [h.admitted]
    unfold crashCut
    rw [h.strokes, List.filter_cons_of_pos (by simp [h.plus]), List.filter_nil, List.foldl_cons, List.foldl_nil]
    unfold crashCutStroke
    dsimp only
    rw [h.job, Option.bind_some, admitted]
  have record : ∀ a, (removeStroke st s).act a = s.act a := fun a => act_congr rfl a
  have released := crashMembers_released (s := removeStroke st s) (ms := st.members) h.bare (h.members ▸ child)
  rw [h.members] at released
  rw [cut]
  generalize st.members.foldl crashMember (removeStroke st s) = r at released
  have bare_ : bare r := released.plain.bare h.bare
  have waits : ∀ a, (r.act a).wait = (s.act a).wait := by
    intro a
    by_cases ha : a ∈ kids.map Act.child
    · rw [released.acts a ha, h.no_wait ha]
      rfl
    · rw [released.frame.act a ha, record]
  have id : r.newId = s.newId := newId_of_waits (bare_.1.trans h.bare.1.symm) released.frame.admitted waits released.nextId
  have now : r.now = s.now := outside_now released.frame.outside
  have returned := returnChildren_returned (s := r) (st := st) (j := j) bare_.1 h.members h.some
  generalize returnChildren st (Option.some j) r = x at returned
  have strokes : x.strokes = [] := by
    rw [returned.strokes, released.frame.strokes, removeStroke, h.strokes]
    simp
  have ended : settleJob (Option.some j.id) x = { x with admitted := [] } := by
    have admitted : x.admitted = [j] := returned.admitted.trans (released.frame.admitted.trans h.admitted)
    rw [settleJob_eq, strokes, admitted]
    simp
  rw [ended]
  refine ⟨returned.rest.trans released.frame.outside, strokes, returned.windows.trans released.frame.windows,
    returned.units.trans released.frame.units, rfl, fun k hk => returned.notice k (released.plain.notice k hk), ?_, fun c hc => ?_,
    fun a ha => ?_⟩
  · rw [← id, ← now]
    exact returned.queue
  · have mem : Act.child c ∈ kids.map Act.child := List.mem_map_of_mem hc
    have own := returned.acts (.child c)
    rw [if_pos mem, released.acts _ mem, record] at own
    exact own
  · have own := returned.acts a
    rw [if_neg ha, released.frame.act a ha, record] at own
    exact (act_congr rfl a).trans own

end

end Sys2Proof.Machine

/-! ## A crash with all five latches LOCKED -/

namespace Sys2Proof.Machine

open Sys2Proof

section
variable {s t c u : State} {src : CrashSource} {st : Stroke} {j : Job} {kids : List Child}

/-- The windows and the records that an indication keeps, and what it sets (R151 to R153). -/
theorem Indicated.said (h : Indicated src s u) :
    u.crash.latch = true ∧ u.crash.lastSource = some src ∧
      (∀ w, driven (s.win w).run = true → (u.win w).run = .BRAKING ∧ (u.win w).cont = none) ∧
      (∀ w, (u.win w).tally = (if driven (s.win w).run = true ∧ (s.win w).mode = .FORCED then 0 else (s.win w).tally) ∧
        (u.win w).tallyT = (if driven (s.win w).run = true ∧ (s.win w).mode = .FORCED then none else (s.win w).tallyT)) ∧
      (∀ w, (s.win w).run = .IDLE → u.win w = s.win w) ∧ (∀ q, (u.port q).pending &&& 0x0080#16 = 0x0080#16) ∧
      u.fobs = s.fobs ∧ u.params = s.params ∧ u.store = s.store ∧ u.entry = s.entry :=
  ⟨h.latch, h.source, fun w => (h.win w).driven, fun w => ⟨(h.win w).tally, (h.win w).tallyT⟩, fun w => (h.win w).idle, h.notice,
    h.fobs, h.params, h.store, h.entry⟩

theorem exec_crashNotify (h : listening .M s) :
    exec (.crashNotify .M) s = .next (respond .M 0x60#8 Answer.done (finish (indication .PORT_M (arrived .M s)))) := by
  have row : exec (.crashNotify .M) s = commandRow .M 0x60#8 (acting takeCrashNotify) s := rfl
  rw [row, commandRow_listening h rfl, acting]
  rfl

/-- The state in which a qualified line gives its indication (R149). -/
def qualifiedLine (s : State) : State := { s with crash := { s.crash with line := .ACTIVE, qualT := none } }

theorem exec_qualification {x : Timer} (ho : operating s) (running : s.crash.qualT = some x) (due : timerDue s.now x = true) :
    exec .qualificationTimerExpiry s = .next (finish (indication .LINE (qualifiedLine s))) :=
  congrArg Host.Outcome.next (expiry_due ho running due qualified)

/-- The state of a first indication as its crash cut finds it (R151, R152). -/
def firstAlarmed (src : CrashSource) (s : State) : State :=
  { alarmed src s with crash := { (alarmed src s).crash with latch := true } }

/-- A first indication that finds a child stroke alone, up to its launch (R36, R37, R108). -/
theorem indication_engaging (src : CrashSource) (h : Engaging st j kids s) (clear : s.crash.latch = false)
    (locked : ∀ l, (s.act (.latch l)).state = .LOCKED) (idle : ∀ l, (s.act (.latch l)).activity = .IDLE) :
    ∃ c t, indication src s = launchCrash t ∧ CutBack st j kids (firstAlarmed src s) c ∧ AtLaunch src s c t ∧ firstEnds t := by
  have same : ∀ a, (firstAlarmed src s).act a = s.act a := fun a => act_congr rfl a
  have cut := crashCut_children (s := firstAlarmed src s) { h with bare := h.bare, law := h.law }
  obtain ⟨c, made⟩ : ∃ c, crashCut (firstAlarmed src s) = c := ⟨_, rfl⟩
  rw [made] at cut
  have latch : ∀ l, c.act (.latch l) = s.act (.latch l) := fun l => (cut.other _ (by simp)).trans (same _)
  have only : ∀ x ∈ c.queue, x = returnedJob (firstAlarmed src s).newId kids s.now j := fun x hx => by
    rw [cut.queue] at hx
    exact List.mem_singleton.mp hx
  have spared : jobsSpared c := fun x hx => by rw [only x hx]; exact ⟨rfl, rfl⟩
  have unnamed : latchless c := fun x hx l => by
    rw [only x hx]
    simp [returnedJob, Job.acts]
  obtain ⟨t, first, before, ends⟩ := firstIndication_spared (s := alarmed src s) made spared (fun l => by simp [latch, idle])
  exact ⟨c, t, (indication_first clear).trans first, cut,
    before.atLaunch (k := { s.crash with lastSource := some src, latch := true }) cut.outside rfl rfl cut.windows
      (cut.notice _ (alarmed_noticed src s)) cut.strokes (fun l => latch l ▸ locked l) unnamed, ends⟩

theorem Struck.ends (h : Struck src s c t u) (ends : firstEnds t) : firstEnds u := by
  obtain ⟨relock, hold, search⟩ := ends
  exact ⟨h.relock.trans relock, h.hold ▸ hold, h.search ▸ search⟩

theorem Struck.stays (h : Struck src s c t u) (kept : t.relock = s.relock ∧ t.hold = s.hold ∧ t.search = s.search) :
    u.relock = s.relock ∧ u.hold = s.hold ∧ u.search = s.search :=
  ⟨h.relock.trans kept.1, h.hold.trans kept.2.1, h.search.trans kept.2.2⟩

theorem Runs.said (h : Runs s u) : u.phase = .ACTIVE ∧ u.strokes = crashStrokes s ∧ u.slot = ⟨true, [], Latch.all, []⟩ ∧
    ∀ l, (u.act (.latch l)).activity = .STROKING ∧ (u.act (.latch l)).attempts = 1 :=
  ⟨h.phase, h.strokes, h.slot, h.latches⟩

/-- Settles O42, by the indication up to its launch from rest or with a cut child stroke, and by the attempt that follows it,
in standby at the next transfer. -/
theorem crashFromRestUnlocksAllFive : Obligations.CrashFromRestUnlocksAllFive := by
  intro timer p st j kids s _ listens locked door tail
  refine ⟨fun rest free x hx active => ?_, fun rest free clear due asleep => ?_,
    fun clear queue slot admitted _ strokes _ plus job members some nodup idle free law => ?_⟩
  · simp only [List.mem_cons, List.not_mem_nil, or_false] at hx
    rcases hx with rfl | rfl
    · obtain ⟨t, launch, atLaunch, first, later⟩ := indication_rest .PORT_M (restingLocks_arrived (p := .M) rest) locked
      have row := exec_crashNotify listens
      rw [launch] at row
      have struck := (atLaunch.struck rfl free door tail).respond .M 0x60#8 Answer.done
      exact ⟨_, row, struck.indicated.said, ⟨struck.queue.trans rest.1, struck.children⟩, struck.runs.said, struck.units,
        fun e => struck.ends (first e), fun e => struck.stays (later e)⟩
    · obtain ⟨awake, running, due⟩ := active rfl
      obtain ⟨t, launch, atLaunch, first, later⟩ := indication_rest .LINE (s := qualifiedLine s) rest locked
      have row := exec_qualification listens.1 running due
      rw [launch] at row
      have struck := atLaunch.struck awake free door tail
      exact ⟨_, row, struck.indicated.said, ⟨struck.queue.trans rest.1, struck.children⟩, struck.runs.said, struck.units,
        fun e => struck.ends (first e), fun e => struck.stays (later e)⟩
  · obtain ⟨t, launch, atLaunch, first, -⟩ := indication_rest .LINE (s := qualifiedLine s) rest locked
    obtain ⟨relock, hold, search⟩ := first clear
    have row := exec_qualification listens.1 due.1 due.2
    rw [launch] at row
    have held := atLaunch.held asleep
    obtain ⟨v, woken, runs, units⟩ := held.wakes locked free door tail p
    refine ⟨_, row, held.indicated.said, ⟨held.queue.trans rest.1, held.children⟩,
      ⟨held.relock.trans relock, held.hold ▸ hold, held.search ▸ search⟩, held.phase, held.strokes, held.slot, held.units,
      fun l => ?_, v, woken, runs.said, units⟩
    rw [held.latches l]
    exact ⟨rfl, locked l⟩
  · have engaging : Engaging st j kids (arrived .M s) :=
      { strokes := strokes, plus := plus, job := job, members := members, some := some, nodup := nodup, admitted := admitted,
        bare := ⟨queue, slot⟩, law := law }
    obtain ⟨c, t, launch, cut, atLaunch, ends⟩ := indication_engaging .PORT_M engaging clear locked (fun l => (idle l).1)
    have row := exec_crashNotify listens
    rw [launch] at row
    have struck := (atLaunch.struck rfl (cut.units ▸ free) door tail).respond .M 0x60#8 Answer.done
    refine ⟨_, row, struck.indicated.said, struck.ends ends, struck.runs.said, struck.units.trans (congrArg (· + 10) cut.units),
      struck.admitted.trans cut.admitted, struck.queue.trans cut.queue, fun k hk => ?_, fun k hk => ?_⟩
    · rw [struck.children k, cut.members k hk]
      exact ⟨rfl, rfl, rfl, rfl, rfl⟩
    · exact (struck.children k).trans (cut.other _ (by simpa using hk))

end

end Sys2Proof.Machine

/-! ## What an operation keeps of the drives (R44, R50, R56, R61, R95)

`DriveKept s t`: on the way from `s` to `t` the law of units, its bound and the laws of each window record are kept. It
is transitive, so one lemma for each operation, in the order of the model, carries the laws of a step together. -/

namespace Sys2Proof.Machine

open Sys2Proof

/-- A braking timer runs on a BRAKING record alone (R48). -/
def Window.braked (r : Window) : Prop := r.brakeT.isSome = true → r.run = .BRAKING

/-- The law of window position of one record (R44, R50). -/
def Window.placed (r : Window) : Prop :=
  (∀ L, r.normalized = true → r.profile.L = some L → r.P ≤ L) ∧
    (r.normalized = false → r.run = .RUNNING → r.mode = .MANUAL ∨ r.mode = .FORCED)

/-- The ranges of heat and tally of one record (R56, R61). -/
def Window.inRange (r : Window) : Prop := r.H ≤ 900 ∧ r.tally ≤ 3

/-- A record's own laws are kept by a change of it. -/
structure WindowKept (r q : Window) : Prop where
  braked : r.braked → q.braked
  placed : r.placed → q.placed
  inRange : r.inRange → q.inRange

theorem WindowKept.refl (r : Window) : WindowKept r r := ⟨id, id, id⟩

theorem WindowKept.trans {r q p : Window} (h : WindowKept r q) (k : WindowKept q p) : WindowKept r p :=
  ⟨k.braked ∘ h.braked, k.placed ∘ h.placed, k.inRange ∘ h.inRange⟩

/-- The units held are within a drive budget of 16 or less (R95, R179). -/
def unitsBound (s : State) : Prop := s.params.driveBudget ≤ 16 ∧ s.units ≤ 16

structure DriveKept (s t : State) : Prop where
  units : unitsLaw s → (∀ w, (s.win w).braked) → unitsLaw t
  bound : unitsBound s → unitsBound t
  windows : ∀ w, WindowKept (s.win w) (t.win w)

/-- What the laws of the drives speak of. -/
def driveView (s : State) : PerWin Window × List Stroke × Nat × Params := (s.windows, s.strokes, s.units, s.params)

section
variable {s t u : State} {w : Win} {r q : Window}

theorem DriveKept.refl (s : State) : DriveKept s s := ⟨fun h _ => h, id, fun _ => .refl _⟩

theorem DriveKept.trans (h : DriveKept s t) (k : DriveKept t u) : DriveKept s u where
  units law brakes := k.units (h.units law brakes) (fun w => (h.windows w).braked (brakes w))
  bound := k.bound ∘ h.bound
  windows w := (h.windows w).trans (k.windows w)

/-- A change outside what the laws of the drives speak of. -/
theorem DriveKept.view (h : DriveKept s t) (e : driveView u = driveView t) : DriveKept s u := by
  simp only [driveView, Prod.mk.injEq] at e
  obtain ⟨windows, strokes, units, params⟩ := e
  have win : ∀ w, u.win w = t.win w := fun w => by rw [State.win, State.win, windows]
  refine h.trans ⟨fun law _ => ?_, fun b => ?_, fun w => win w ▸ .refl _⟩
  · rw [unitsLaw, runningUnits, units, strokes]
    simp only [win]
    exact law
  · rw [unitsBound, params, units]
    exact b

theorem DriveKept.ofView (e : driveView u = driveView s) : DriveKept s u := (DriveKept.refl s).view e

/-- An operation on actuators alone leaves the drives. -/
theorem DriveKept.acts {A : List Act} (h : DriveKept s t) (f : ActsFrame A t u) : DriveKept s u :=
  h.view (by rw [driveView, driveView, f.windows, f.strokes, f.units, outside_params f.outside])

theorem drive_foldl {α : Type} {f : State → α → State} (h : ∀ {u : State} (a : α), DriveKept s u → DriveKept s (f u a))
    (l : List α) (k : DriveKept s t) : DriveKept s (l.foldl f t) := by
  induction l generalizing t with
  | nil => exact k
  | cons a l ih => exact ih (h a k)

/-! ### The sum over the running set (R95) -/

/-- The units of a busy window's job. -/
def busyUnits (r : Window) : Nat := if busy r.run then 4 else 0

theorem runningUnits_eq (s : State) : runningUnits s = (s.strokes.map (·.units)).sum +
    (busyUnits (s.win .WFL) + busyUnits (s.win .WFR) + busyUnits (s.win .WRL) + busyUnits (s.win .WRR)) := by
  have four : ∀ ws : List Win, 4 * (ws.filter (fun w => busy (s.win w).run)).length =
      (ws.map (fun w => busyUnits (s.win w))).sum := by
    intro ws
    induction ws with
    | nil => rfl
    | cons w ws ih => cases e : busy (s.win w).run <;> simp [e, busyUnits] at ih ⊢ <;> omega
  rw [runningUnits, four]
  simp only [Win.all, List.map_cons, List.map_nil, List.sum_cons, List.sum_nil]
  omega

/-- A changed record changes the sum by its own units. -/
theorem runningUnits_windows (windows : t.windows = s.windows.set w q) (strokes : t.strokes = s.strokes) :
    runningUnits t + busyUnits (s.win w) = runningUnits s + busyUnits q := by
  have win : ∀ v, t.win v = (s.setWin w q).win v := fun v => by rw [State.win, windows]; rfl
  simp only [runningUnits_eq, strokes, win]
  cases w <;> simp [State.win, State.setWin, PerWin.get, PerWin.set] <;> omega

theorem busyUnits_le (s : State) (w : Win) : busyUnits (s.win w) ≤ runningUnits s := by
  rw [runningUnits_eq]
  cases w <;> omega

/-! ### The change of one record -/

/-- One record changes, and the units held with it. -/
theorem DriveKept.window (h : DriveKept s t) (windows : u.windows = t.windows.set w q) (strokes : u.strokes = t.strokes)
    (params : u.params = t.params) (kept : WindowKept (t.win w) q)
    (balance : unitsLaw t → (t.win w).braked → u.units + busyUnits (t.win w) = t.units + busyUnits q)
    (bound : unitsBound t → u.units ≤ 16) : DriveKept s u := by
  have win : ∀ v, u.win v = (t.setWin w q).win v := fun v => by rw [State.win, windows]; rfl
  refine h.trans ⟨fun law brakes => ?_, fun b => ⟨params ▸ b.1, bound b⟩, fun v => ?_⟩
  · have held := balance law (brakes w)
    have sum := runningUnits_windows windows strokes
    rw [unitsLaw] at law ⊢
    omega
  · rw [win]
    rcases eq_or_ne v w with rfl | other
    · rw [win_setWin_same]
      exact kept
    · rw [win_setWin_ne _ _ other]
      exact .refl _

/-- A record that stays busy, or stays at rest. -/
theorem drive_setWin (h : DriveKept s t) (kept : WindowKept (t.win w) q)
    (same : (t.win w).braked → busy q.run = busy (t.win w).run) : DriveKept s (t.setWin w q) :=
  h.window rfl rfl rfl kept (fun _ b => by rw [busyUnits, busyUnits, same b]; rfl) (fun b => b.2)

/-- A record changes in fields that the laws do not speak of. -/
theorem drive_detail (h : DriveKept s t) (run : q.run = (t.win w).run) (mode : q.mode = (t.win w).mode)
    (normalized : q.normalized = (t.win w).normalized) (P : q.P = (t.win w).P) (L : q.profile.L = (t.win w).profile.L)
    (H : q.H = (t.win w).H) (tally : q.tally = (t.win w).tally) (brakeT : q.brakeT = (t.win w).brakeT) :
    DriveKept s (t.setWin w q) := by
  refine drive_setWin h ⟨?_, ?_, ?_⟩ (fun _ => by rw [run])
  · rw [Window.braked, Window.braked, run, brakeT]
    exact id
  · rw [Window.placed, Window.placed, run, mode, normalized, P, L]
    exact id
  · rw [Window.inRange, Window.inRange, H, tally]
    exact id

theorem drive_raise {k : Notice} (h : DriveKept s t) : DriveKept s (raise k t) := h.view rfl
theorem drive_trigger (h : DriveKept s t) : DriveKept s (trigger t) := h.view rfl
theorem drive_setPort {p : Port} {x : PortRec} (h : DriveKept s t) : DriveKept s (t.setPort p x) := h.view rfl
theorem drive_setFob {i : Fin 8} {x : FobSlot} (h : DriveKept s t) : DriveKept s (t.setFob i x) := h.view rfl
theorem drive_setAct {a : Act} {x : ActRec} (h : DriveKept s t) : DriveKept s (t.setAct a x) :=
  h.acts (actFrame_setAct (.refl _ t))
theorem drive_setQueue {q : List Job} (h : DriveKept s t) : DriveKept s (t.setQueue q) :=
  h.view (by simp [driveView, outside_params (outside_setQueue q t)])
theorem drive_takeFromQueue {id : Nat} (h : DriveKept s t) : DriveKept s (takeFromQueue id t) := drive_setQueue h
theorem drive_removeFromQueue {id : Nat} (h : DriveKept s t) : DriveKept s (removeFromQueue id t) :=
  drive_trigger (drive_takeFromQueue h)
theorem drive_changeQueued {kind : Job → Bool} {f : Job → Job} (h : DriveKept s t) :
    DriveKept s (changeQueued kind f t) := drive_setQueue h
theorem drive_enterQueue {j : Job} (h : DriveKept s t) : DriveKept s (enterQueue j t) := drive_trigger (drive_setQueue h)
theorem drive_enterFresh {j : Job} (h : DriveKept s t) : DriveKept s (enterQueue j t.tookId) :=
  drive_enterQueue (h.view rfl)

/-! ### Window motion (R48 to R53, R55 to R60) -/

theorem drive_stopWindow {c : Option Continuation} (h : DriveKept s t) (runs : busy (t.win w).run = true) :
    DriveKept s (stopWindow w c t) := by
  refine drive_setWin h ⟨fun _ _ => rfl, fun ⟨travel, _⟩ => ⟨travel, nofun⟩, fun ⟨heat, tally⟩ => ⟨heat, ?_⟩⟩
    (fun _ => runs.symm)
  show (if _ then 0 else _) ≤ 3
  split <;> omega

theorem drive_stopRunning {c : Option Continuation} (h : DriveKept s t) (runs : (t.win w).run = .RUNNING) :
    DriveKept s (stopWindow w c t) := drive_stopWindow h (by rw [runs]; rfl)

theorem busy_of_driven {x : RunState} (h : driven x = true) : busy x = true := by
  cases x <;> simp_all [driven, busy]

theorem drive_dropContinuation (h : DriveKept s t) : DriveKept s (dropContinuation w t) :=
  drive_detail h rfl rfl rfl rfl rfl rfl rfl rfl

theorem drive_setWindowFault {f : WindowFault} (h : DriveKept s t) : DriveKept s (setWindowFault w f t) :=
  drive_raise (drive_detail h rfl rfl rfl rfl rfl rfl rfl rfl)

theorem drive_idleWindow (h : DriveKept s t) (rests : busy (t.win w).run = false) : DriveKept s (idleWindow w t) := by
  have idle : DriveKept s (t.setWin w { t.win w with
      run := .IDLE, job := none, cont := none, target := none, commander := none, brakeT := none }) :=
    drive_setWin h ⟨fun _ => nofun, fun ⟨travel, _⟩ => ⟨travel, nofun⟩, id⟩ (fun _ => rests.symm)
  unfold idleWindow
  dsimp only
  split
  · exact idle
  · exact drive_raise idle

theorem drive_removeWindowJob (h : DriveKept s t) : DriveKept s (removeWindowJob w t) := by
  unfold removeWindowJob
  split
  · exact h
  · dsimp only
    split
    · rename_i queued
      exact drive_idleWindow (drive_removeFromQueue h) (by rw [queued]; rfl)
    · exact drive_removeFromQueue h

/-- The mode of a run on a window that is not normalized (R44). -/
def modeAllowed (mode : RunMode) (normalized : Bool) : Prop := normalized = false → mode = .MANUAL ∨ mode = .FORCED

theorem modeAllowed_of_fits {mode : RunMode} {dir : Dir} {target : Option Nat} (h : fits mode dir target w t = .FIT) :
    modeAllowed mode (t.win w).normalized := by
  have hard : meetsHard mode dir target w t = true := by
    unfold fits at h
    split at h
    · assumption
    · cases h
  intro off
  cases mode <;> cases dir <;> simp [meetsHard, off] at hard ⊢

/-- A record as its drive starts keeps its laws where its mode may run. -/
theorem windowKept_driveRecord {now : Time} {blanking : Nat} {run : RunState} {mode : RunMode} {dir : Dir}
    {target : Option Nat} {cmd : Option Commander} (r : Window) (allowed : run = .RUNNING → modeAllowed mode r.normalized) :
    WindowKept r (driveRecord now blanking run mode dir target cmd r) :=
  ⟨fun _ => nofun, fun ⟨travel, _⟩ => ⟨travel, fun off runs => allowed runs off⟩, id⟩

theorem drive_overcurrentWindow (h : DriveKept s t) (runs : busy (t.win w).run = true) :
    DriveKept s (overcurrentWindow w t) := drive_setWindowFault (drive_stopWindow h runs)

/-- A window whose drive has just started, stopped where its comparator is active (R55). -/
theorem drive_started {run : RunState} {mode : RunMode} {dir : Dir} {target : Option Nat} {cmd : Option Commander}
    (runs : busy run = true)
    (h : DriveKept s (t.setWin w (driveRecord t.now t.params.blanking run mode dir target cmd (t.win w)))) :
    DriveKept s (startDrive w run mode dir target cmd t) := by
  unfold startDrive
  dsimp only
  split
  · exact drive_overcurrentWindow h (by rw [win_setWin_same]; exact runs)
  · exact h

/-- A braking window starts driving (R48, R59). -/
theorem drive_startDrive {run : RunState} {mode : RunMode} {dir : Dir} {target : Option Nat} {cmd : Option Commander}
    (h : DriveKept s t) (brakes : (t.win w).brakeT.isSome = true) (runs : busy run = true)
    (allowed : run = .RUNNING → modeAllowed mode (t.win w).normalized) :
    DriveKept s (startDrive w run mode dir target cmd t) :=
  drive_started runs (drive_setWin h (windowKept_driveRecord _ allowed) (fun b => by rw [b brakes]; exact runs))

/-- The job of a braking window ends and its units come back (R48, R95). -/
theorem drive_released (h : DriveKept s t) (brakes : (t.win w).brakeT.isSome = true) (windows : u.windows = t.windows.set w q)
    (strokes : u.strokes = t.strokes) (params : u.params = t.params) (units : u.units = t.units - 4)
    (rests : busy q.run = false) (kept : WindowKept (t.win w) q) : DriveKept s u := by
  refine h.window windows strokes params kept (fun law b => ?_) (fun b => ?_)
  · have four := busyUnits_le t w
    simp only [busyUnits, b brakes, rests] at four ⊢
    rw [← law] at four
    simp [busy] at four ⊢
    omega
  · exact units ▸ (Nat.sub_le _ _).trans b.2

theorem drive_endBraking (h : DriveKept s t) (brakes : (t.win w).brakeT.isSome = true) : DriveKept s (endBraking w t) := by
  have idle : ∀ u : State, u.windows = t.windows → u.strokes = t.strokes → u.params = t.params → u.units = t.units - 4 →
      DriveKept s (idleWindow w u) := by
    intro u windows strokes params units
    have same : u.win w = t.win w := by rw [State.win, State.win, windows]
    have ended : DriveKept s (u.setWin w { u.win w with
        run := .IDLE, job := none, cont := none, target := none, commander := none, brakeT := none }) :=
      drive_released (w := w) h brakes (by rw [← windows]; rfl) strokes params units rfl
        (by rw [← same]; exact ⟨fun _ => nofun, fun ⟨travel, _⟩ => ⟨travel, nofun⟩, id⟩)
    unfold idleWindow
    dsimp only
    split
    · exact ended
    · exact drive_raise ended
  simp only [endBraking]
  cases (t.win w).job
  all_goals
    simp only
    split
    · split
      · exact drive_released (w := w) h brakes rfl rfl rfl rfl rfl
          ⟨fun _ => nofun, fun ⟨travel, _⟩ => ⟨travel, nofun⟩, id⟩
      · exact idle _ rfl rfl rfl rfl
    · exact idle _ rfl rfl rfl rfl

/-- The end of a braking (R48, R59). -/
theorem drive_brakingOver (h : DriveKept s t) (brakes : (t.win w).brakeT.isSome = true) : DriveKept s (brakingOver w t) := by
  unfold brakingOver
  split
  · split
    · unfold startReversal
      exact drive_startDrive (drive_detail h rfl rfl rfl rfl rfl rfl rfl rfl) (by rw [win_setWin_same]; exact brakes) rfl nofun
    · split
      · rename_i fit
        exact drive_startDrive h brakes rfl (fun _ => modeAllowed_of_fits fit)
      · exact drive_endBraking h brakes
  · exact drive_endBraking h brakes

theorem drive_pinch {x : LastPinch} (h : DriveKept s t) (runs : busy (t.win w).run = true) : DriveKept s (pinch w x t) := by
  unfold pinch
  have stopped : DriveKept s (stopWindow w (some (reversalOf (t.win w)))
      (t.setWin w { t.win w with mon := declarePinch x (t.win w).mon })) :=
    drive_stopWindow (drive_detail h rfl rfl rfl rfl rfl rfl rfl rfl) (by rw [win_setWin_same]; exact runs)
  exact drive_raise (drive_setWin stopped ⟨id, id, fun ⟨heat, _⟩ => ⟨heat, Nat.min_le_left _ _⟩⟩ (fun _ => rfl))

theorem drive_stopAtTarget (h : DriveKept s t) (runs : busy (t.win w).run = true) : DriveKept s (stopAtTarget w t) :=
  drive_detail (drive_stopWindow h runs) rfl rfl rfl rfl rfl rfl rfl rfl

theorem running_of_targetReached {r : Window} (h : targetReached r = true) : r.run = .RUNNING := by
  simp only [targetReached, Bool.and_eq_true, decide_eq_true_eq] at h
  exact h.1

theorem reversing_of_reversalOver {r : Window} (h : reversalOver r = true) : r.run = .REVERSING := by
  simp only [reversalOver, Bool.and_eq_true, decide_eq_true_eq] at h
  exact h.1

/-- What a counted edge leads to is a stop of a driven window, or the monitor's count (R51, R60, R75). -/
theorem drive_edgeEffects {T : Nat} (h : DriveKept s t) : DriveKept s (edgeEffects w T t) := by
  unfold edgeEffects
  dsimp only
  split
  · rename_i monitored
    have runs : busy (t.win w).run = true := by rw [monitored.1]; rfl
    have seen : ∀ m, DriveKept s (t.setWin w { t.win w with mon := m }) :=
      fun m => drive_detail h rfl rfl rfl rfl rfl rfl rfl rfl
    have seenRuns : ∀ m, busy ((t.setWin w { t.win w with mon := m }).win w).run = true :=
      fun m => by rw [win_setWin_same]; exact runs
    split
    · split
      · split
        · exact drive_stopAtTarget (h.view rfl) runs
        · exact (drive_pinch (seen _) (seenRuns _)).view rfl
      · exact drive_pinch (seen _) (seenRuns _)
    · split
      · exact drive_stopAtTarget (seen _) (seenRuns _)
      · exact seen _
  · split
    · rename_i reached
      exact drive_stopAtTarget h (by rw [running_of_targetReached reached]; rfl)
    · split
      · rename_i done
        exact drive_stopWindow h (by rw [reversing_of_reversalOver done]; rfl)
      · exact h

/-- A counted edge keeps P within the travel (R50). -/
theorem countedPosition_le {r : Window} {L : Nat} (normalized : r.normalized = true) (travel : r.profile.L = some L)
    (h : r.P ≤ L) : countedPosition r ≤ L := by
  unfold countedPosition
  split
  · omega
  · rw [positionLimit, travel, normalized]
    exact Nat.min_le_right _ _

theorem drive_qualifiedEdge {i : HallInput} {since : Nat} (h : DriveKept s t) : DriveKept s (qualifiedEdge w i since t) := by
  unfold qualifiedEdge
  dsimp only
  split
  · refine drive_edgeEffects (drive_setWin h ⟨id, fun ⟨travel, mode⟩ => ⟨?_, mode⟩, id⟩ (fun _ => rfl))
    exact fun L normalized known => countedPosition_le normalized known (travel L normalized known)
  · exact drive_detail h rfl rfl rfl rfl rfl rfl rfl rfl

theorem drive_markProfile (h : DriveKept s t) : DriveKept s (markProfile w t) := by
  have marked : DriveKept s (t.setWin w { t.win w with mon := { (t.win w).mon with marked := true } }) :=
    drive_detail h rfl rfl rfl rfl rfl rfl rfl rfl
  simp only [markProfile]
  split
  · split
    · split
      · exact marked.view rfl
      · exact marked
    · exact marked
  · exact marked

theorem run_markProfile (w : Win) (s : State) : ((markProfile w s).win w).run = (s.win w).run := by
  have marked : ((s.setWin w { s.win w with mon := { (s.win w).mon with marked := true } }).win w).run = (s.win w).run := by simp
  simp only [markProfile]
  split
  · split
    · split <;> exact marked
    · exact marked
  · exact marked

theorem drive_askBackground (h : DriveKept s t) : DriveKept s (askBackground w t) := by
  unfold askBackground
  split
  · exact h
  · exact h.view rfl

theorem win_askBackground (w v : Win) (s : State) : (askBackground w s).win v = s.win v := by
  unfold askBackground
  split <;> rfl

/-- The top: P 0 on a window that has stopped (R52). -/
theorem drive_topReached (h : DriveKept s t) (runs : busy (t.win w).run = true) : DriveKept s (topReached w t) := by
  have learned : DriveKept s (learnAtTop w t) ∧ ((learnAtTop w t).win w).run = (t.win w).run := by
    unfold learnAtTop
    dsimp only
    split
    · exact ⟨drive_markProfile (drive_detail h rfl rfl rfl rfl rfl rfl rfl rfl),
        (run_markProfile w _).trans (by rw [win_setWin_same])⟩
    · exact ⟨drive_detail h rfl rfl rfl rfl rfl rfl rfl rfl, by rw [win_setWin_same]⟩
  unfold topReached
  refine drive_stopWindow (drive_setWin learned.1 ⟨id, fun _ => ⟨fun _ _ _ => Nat.zero_le _, nofun⟩,
    fun ⟨heat, tally⟩ => ⟨heat, ?_⟩⟩ (fun _ => rfl)) ?_
  · show (if _ then 0 else _) ≤ 3
    split <;> omega
  · rw [win_setWin_same]
    exact (congrArg busy learned.2).trans runs

theorem drive_stallFault (h : DriveKept s t) (runs : busy (t.win w).run = true) : DriveKept s (stallFault w t) :=
  drive_setWindowFault (drive_stopWindow h runs)

/-- The bottom: P is the travel, learned or known, on a window that has stopped (R53). -/
theorem drive_stallWindow (h : DriveKept s t) : DriveKept s (stallWindow w t) := by
  unfold stallWindow
  dsimp only
  split
  · rename_i driven
    have runs := busy_of_driven driven
    split
    · unfold stallUp
      dsimp only
      split
      · exact drive_topReached h runs
      · split
        · exact drive_stallFault h runs
        · exact drive_pinch h runs
    · unfold stallDown
      dsimp only
      split
      · exact drive_stopWindow h runs
      · split
        · split
          · unfold learnTravel
            refine drive_stopWindow (drive_askBackground (drive_markProfile (drive_setWin h
              ⟨id, fun ⟨_, mode⟩ => ⟨fun L _ known => ?_, mode⟩, id⟩ (fun _ => rfl)))) ?_
            · exact (Option.some.inj known).le
            · rw [win_askBackground, run_markProfile, win_setWin_same]
              exact runs
          · exact drive_stallFault h runs
        · rename_i L known
          split
          · unfold bottomReached
            refine drive_stopWindow (drive_setWin h ⟨id, fun ⟨_, mode⟩ => ⟨fun x _ e => ?_, mode⟩, id⟩ (fun _ => rfl)) ?_
            · exact (Option.some.inj (known.symm.trans e)).le
            · rw [win_setWin_same]
              exact runs
          · exact drive_stallFault h runs
  · exact h

theorem drive_testHold (h : DriveKept s t) : DriveKept s (testHold w t) := by
  unfold testHold
  dsimp only
  split
  · unfold thermalHold
    dsimp only
    have held : DriveKept s (setWindowFault w .THERMAL (t.setWin w { t.win w with held := true })) :=
      drive_setWindowFault (drive_detail h rfl rfl rfl rfl rfl rfl rfl rfl)
    refine drive_removeWindowJob ?_
    split
    · exact drive_stopRunning held ‹_›
    · split
      · exact drive_dropContinuation held
      · exact held
  · split
    · exact drive_trigger (drive_detail h rfl rfl rfl rfl rfl rfl rfl rfl)
    · exact h

theorem drive_haltWindow (h : DriveKept s t) : DriveKept s (haltWindow w t) := by
  unfold haltWindow
  dsimp only
  split
  · exact drive_stopWindow h (busy_of_driven ‹_›)
  · split
    · exact drive_dropContinuation h
    · exact h

theorem drive_haltAllWindows (h : DriveKept s t) : DriveKept s (haltAllWindows t) :=
  drive_foldl (f := fun t w => haltWindow w t) (fun _ => drive_haltWindow) _ h
theorem drive_removeAllWindowJobs (h : DriveKept s t) : DriveKept s (removeAllWindowJobs t) :=
  drive_foldl (f := fun t w => removeWindowJob w t) (fun _ => drive_removeWindowJob) _ h
theorem drive_crashWindows (h : DriveKept s t) : DriveKept s (crashWindows t) :=
  drive_removeAllWindowJobs (drive_haltAllWindows h)

theorem drive_undervoltageStop (h : DriveKept s t) : DriveKept s (undervoltageStop w t) := by
  unfold undervoltageStop
  dsimp only
  split
  · rename_i runs
    exact drive_stopRunning h runs.1
  · exact h

end

end Sys2Proof.Machine

/-! ## Strokes, admission and requests keep the drives' laws (R31 to R38, R90 to R103, R109) -/

namespace Sys2Proof.Machine

open Sys2Proof

section
variable {s t u : State} {w : Win}

/-! ### Strokes -/

/-- The units that running strokes hold. -/
def strokeUnits (q : List Stroke) : Nat := (q.map (·.units)).sum

/-- The list of strokes changes, and the units held with it. -/
theorem DriveKept.strokes (h : DriveKept s t) (windows : u.windows = t.windows) (params : u.params = t.params)
    (balance : unitsLaw t → u.units + strokeUnits t.strokes = t.units + strokeUnits u.strokes)
    (bound : unitsBound t → u.units ≤ 16) : DriveKept s u := by
  have win : ∀ w, u.win w = t.win w := fun w => by rw [State.win, State.win, windows]
  refine h.trans ⟨fun law _ => ?_, fun b => ⟨params ▸ b.1, bound b⟩, fun w => win w ▸ .refl _⟩
  have held := balance law
  simp only [unitsLaw, runningUnits_eq, strokeUnits, win] at law held ⊢
  omega

theorem drive_removeStroke {st : Stroke} (h : DriveKept s t) (running : st ∈ t.strokes) :
    DriveKept s (removeStroke st t) := by
  refine h.strokes rfl rfl (fun law => ?_) (fun b => (Nat.sub_le _ _).trans b.2)
  have erased : st.units + strokeUnits (t.strokes.erase st) = strokeUnits t.strokes := List.sum_map_erase _ running
  simp only [unitsLaw, runningUnits_eq, strokeUnits] at law erased
  show t.units - st.units + strokeUnits t.strokes = t.units + strokeUnits (t.strokes.erase st)
  simp only [strokeUnits]
  omega

theorem drive_startStroke {job : Option Nat} {grp : Group} {g : Goal} {n : Nat} {as : List Act} (h : DriveKept s t)
    (within : unitsBound t → t.units + unitsOf as ≤ 16) : DriveKept s (startStroke job grp g n as t) := by
  rcases eq_or_ne as [] with rfl | some
  · exact h
  · refine h.strokes (startStroke_windows as t) (outside_params (outside_startStroke job grp g n as t)) (fun _ => ?_) (fun b => ?_)
    · rw [startStroke_units, startStroke_strokes t some]
      simp [strokeUnits, strokeRecord]
      omega
    · rw [startStroke_units]
      exact within b

theorem drive_settleJob {job : Option Nat} (h : DriveKept s t) : DriveKept s (settleJob job t) := by
  unfold settleJob
  split
  · exact h
  · split
    · exact h
    · exact h.view rfl

theorem drive_members {f : State → Member → State} (frame : ∀ u m, ActFrame m.act u (f u m)) (ms : List Member)
    (h : DriveKept s t) : DriveKept s (ms.foldl f t) := h.acts (ActsFrame.foldl frame ms t)

theorem drive_endStroke {st : Stroke} (h : DriveKept s t) (running : st ∈ t.strokes) : DriveKept s (endStroke st t) :=
  drive_trigger (drive_settleJob (drive_members (fun _ _ => actFrame_verifyMember (.refl _ _)) _
    (drive_removeStroke h running)))

/-- Running strokes that go one by one. -/
theorem drive_foldStrokes {op : State → Stroke → State} (keeps : ∀ u st, st ∈ u.strokes → DriveKept u (op u st))
    (erases : ∀ u st, (op u st).strokes = u.strokes.erase st) {cut : List Stroke} (sub : cut.Subperm t.strokes)
    (h : DriveKept s t) : DriveKept s (cut.foldl op t) := by
  induction cut generalizing t with
  | nil => exact h
  | cons st cut ih =>
    refine ih ?_ (h.trans (keeps t st (sub.subset List.mem_cons_self)))
    have erased := sub.erase st
    rwa [List.erase_cons_head, ← erases t st] at erased

theorem drive_cutGroup {g : Group} (h : DriveKept s t) : DriveKept s (cutGroup g t) := by
  unfold cutGroup
  dsimp only
  split
  · exact h
  · have removed := drive_foldStrokes (op := fun t st => removeStroke st t) (fun u _ => drive_removeStroke (.refl u))
      (fun _ _ => rfl) (List.filter_sublist (p := fun st : Stroke => decide (st.group = g))).subperm h
    exact drive_trigger (drive_foldl (f := fun t (st : Stroke) => settleJob st.job t) (fun _ => drive_settleJob) _
      (drive_foldl (f := fun t (st : Stroke) => st.members.foldl (overcurrentMember st) t)
        (fun st => drive_members (fun _ _ => actFrame_overcurrentMember (.refl _ _)) st.members) _ removed))

theorem drive_checkOverload {g : Group} (h : DriveKept s t) : DriveKept s (checkOverload g t) := by
  unfold checkOverload
  split
  · exact drive_cutGroup h
  · exact h

theorem drive_returnChildren {st : Stroke} {job : Option Job} (h : DriveKept s t) :
    DriveKept s (returnChildren st job t) := by
  unfold returnChildren
  split
  · exact h
  · dsimp only
    split
    · exact h
    · exact (drive_enterFresh h).acts (foldl_setQueued_frame _ _)

theorem drive_crashCut (h : DriveKept s t) : DriveKept s (crashCut t) :=
  drive_foldStrokes
    (fun u _ running => drive_trigger (drive_settleJob (drive_returnChildren
      (drive_members (fun _ _ => actFrame_releaseAct (.refl _ _)) _ (drive_removeStroke (.refl u) running)))))
    (fun u st => crashCutStroke_strokes st u) (List.filter_sublist (p := fun st : Stroke => decide (st.polarity = .PLUS))).subperm h

theorem drive_restartStrokes (h : DriveKept s t) : DriveKept s (t.strokes.foldl restartStroke t) :=
  drive_foldStrokes
    (fun u _ running => drive_settleJob (drive_members (fun _ _ => actFrame_releaseAct (.refl _ _)) _
      (drive_removeStroke (.refl u) running)))
    (fun u st => restartStroke_strokes st u) (List.Subperm.refl _) h

/-! ### Admission (R97 to R100) -/

theorem units_within {n : Nat} (free : unitsFree n t = true) (b : unitsBound t) : t.units + n ≤ 16 := by
  obtain ⟨budget, held⟩ := b
  simp only [unitsFree, Bool.or_eq_true, decide_eq_true_eq] at free
  omega

theorem drive_admitLock {j : Job} {g : Goal} {as rem : List Act} (h : DriveKept s t) (free : unitsFree (unitsOf rem) t = true) :
    DriveKept s (admitLock j g as rem t) := by
  have kept := admitBase_frame j as rem t
  have base : DriveKept s (admitBase j as rem t) := (drive_takeFromQueue (id := j.id) h).acts kept
  have units : (admitBase j as rem t).units = t.units := kept.units.trans (setQueue_units ..)
  have params : (admitBase j as rem t).params = t.params :=
    (outside_params kept.outside).trans (outside_params (outside_takeFromQueue j.id t))
  have groups := unitsOf_groups rem
  rw [admitLock_eq]
  split
  · exact base
  · have admitted : DriveKept s (withAdmitted j rem (admitBase j as rem t)) := base.view rfl
    have held : (withAdmitted j rem (admitBase j as rem t)).units = t.units := units
    have door := startStroke_units (job := some j.id) (grp := .DOOR) (g := g) (n := 2) (ofGroup .DOOR rem)
      (withAdmitted j rem (admitBase j as rem t))
    refine drive_checkOverload (drive_checkOverload (drive_startStroke (drive_startStroke admitted ?_) ?_))
    · rintro ⟨budget, _⟩
      have := units_within free ⟨params ▸ budget, by omega⟩
      omega
    · rintro ⟨budget, _⟩
      rw [outside_params (outside_startStroke ..)] at budget
      have := units_within free ⟨params ▸ budget, by omega⟩
      omega

theorem drive_rejectWindowJob {j : Job} (h : DriveKept s t) : DriveKept s (rejectWindowJob j w t) := by
  unfold rejectWindowJob
  dsimp only
  split
  · rename_i queued
    exact drive_idleWindow (drive_takeFromQueue h) (by rw [queued]; rfl)
  · exact drive_takeFromQueue h

/-- The state at the admission of a window job, its units held and its run not started (R100). -/
def tookWindow (j : Job) (s : State) : State :=
  { takeFromQueue j.id s with
    admitted := (takeFromQueue j.id s).admitted ++ [{ j with cost := 4 }]
    units := (takeFromQueue j.id s).units + 4 }

theorem win_tookWindow (j : Job) (s : State) (w : Win) : (tookWindow j s).win w = s.win w := by
  show (takeFromQueue j.id s).win w = s.win w
  rw [State.win, takeFromQueue, setQueue_windows]
  rfl

theorem outside_tookWindow (j : Job) (s : State) : outside (tookWindow j s) = outside s :=
  Eq.trans (b := outside (takeFromQueue j.id s)) rfl (outside_takeFromQueue j.id s)

/-- The record of a window whose job has just been admitted. -/
def jobRecord (id : Nat) (r : Window) : Window := { r with job := some id }

theorem admitWindow_eq (j : Job) (k : WindowTask) (s : State) :
    admitWindow j k s = startDrive k.win .RUNNING k.mode (taskDir k (tookWindow j s)) k.target (some k.commander)
      ((tookWindow j s).setWin k.win (jobRecord j.id ((tookWindow j s).win k.win))) := rfl

/-- A window at rest takes up its 4 units as its run starts (R100). -/
theorem drive_admitWindow {j : Job} {k : WindowTask} (h : DriveKept s t) (rests : busy (t.win k.win).run = false)
    (free : unitsFree 4 t = true) (allowed : modeAllowed k.mode (t.win k.win).normalized) :
    DriveKept s (admitWindow j k t) := by
  have params : (tookWindow j t).params = t.params := outside_params (outside_tookWindow j t)
  have units : (tookWindow j t).units = t.units + 4 := congrArg (· + 4) (setQueue_units ..)
  have strokes : (tookWindow j t).strokes = t.strokes := setQueue_strokes ..
  have windows : (tookWindow j t).windows = t.windows := setQueue_windows ..
  rw [admitWindow_eq]
  refine drive_started rfl ?_
  rw [setWin_setWin, win_setWin_same, win_tookWindow]
  refine h.window (w := k.win) (congrArg (fun v : PerWin Window => v.set k.win _) windows) strokes params ?_
    (fun _ _ => ?_) (fun b => ?_)
  · exact WindowKept.trans (q := jobRecord j.id (t.win k.win)) ⟨id, id, id⟩ (windowKept_driveRecord _ (fun _ => allowed))
  · rw [busyUnits, rests]
    exact units
  · exact units.trans_le (units_within free b)

/-- A visit that passes a job (R97 to R99). -/
theorem drive_visit {j : Job} (passed : visit j t = .passed u) : DriveKept t u := by
  unfold visit at passed
  split at passed
  · simp only [visitLock] at passed
    split at passed
    · split at passed
      · cases passed
        exact drive_admitLock (.refl t) ‹_›
      · cases passed
    · cases passed
  · unfold visitWindow at passed
    split at passed
    · cases passed
      exact drive_rejectWindowJob (.refl t)
    · cases passed
    · rename_i fit
      split at passed
      · cases passed
      · rename_i rests
        split at passed
        · cases passed
          exact drive_rejectWindowJob (.refl t)
        · split at passed
          · cases passed
            exact drive_admitWindow (.refl t) (by simpa using rests) ‹_› (modeAllowed_of_fits fit)
          · cases passed

/-! ### Shedding (R102, R103) -/

theorem shedWindow_view (w : Win) (s : State) : driveView (shedWindow w s) = driveView (stopWindow w none s) := by
  unfold shedWindow
  dsimp only
  split
  · unfold requeueComfort
    split
    · rfl
    · simp [driveView, enterQueue, trigger, State.tookId, outside_params (outside_setQueue _ _)]
  · rfl

theorem drive_shedWindow (h : DriveKept s t) (runs : busy (t.win w).run = true) : DriveKept s (shedWindow w t) :=
  (drive_stopWindow h runs).view (shedWindow_view w t)

/-- A shed stops runs, and stops no window's being busy. -/
theorem busy_shedWindow (w v : Win) (runs : busy (t.win v).run = true) : busy ((shedWindow w t).win v).run = true := by
  have windows : (shedWindow w t).windows = (stopWindow w none t).windows := (congrArg Prod.fst (shedWindow_view w t) :)
  rw [State.win, windows]
  show busy ((stopWindow w none t).win v).run = true
  rcases eq_or_ne v w with rfl | other
  · rw [stopWindow, win_setWin_same]
    rfl
  · rw [stopWindow, win_setWin_ne _ _ other]
    exact runs

theorem drive_shedRuns {ws : List Win} {covered need : Nat} (h : DriveKept s t) (runs : ∀ w ∈ ws, busy (t.win w).run = true) :
    DriveKept s (shedRuns ws covered need t) := by
  induction ws generalizing covered t with
  | nil => exact h
  | cons w ws ih =>
    unfold shedRuns
    split
    · exact h
    · exact ih (drive_shedWindow h (runs w List.mem_cons_self))
        (fun v hv => busy_shedWindow w v (runs v (List.mem_cons_of_mem _ hv)))

theorem running_of_comfortRuns (mem : w ∈ comfortRuns t) : (t.win w).run = .RUNNING := by
  obtain ⟨j, -, e⟩ := List.mem_filterMap.mp mem
  split at e
  · split at e
    · rename_i runs
      cases e
      exact runs.1
    · cases e
  · cases e

theorem drive_shedFor {j : Job} {cost : Nat} (h : DriveKept s t) : DriveKept s (shedFor j cost t) := by
  unfold shedFor
  dsimp only
  split
  · exact h
  · split
    · exact h
    · rename_i runs
      refine drive_changeQueued (drive_shedRuns h (fun v hv => ?_))
      rw [running_of_comfortRuns (runs ▸ hv)]
      rfl

/-! ### The scan and the attempts (R96, R97, R109, R110) -/

theorem drive_scanJobs {ids : List Nat} {b : Bool} (h : DriveKept s t) : DriveKept s (scanJobs ids b t) := by
  induction ids generalizing b t with
  | nil => exact h
  | cons id ids ih =>
    simp only [scanJobs]
    split
    · exact ih h
    · rename_i j _
      split
      · exact ih (h.trans (drive_visit ‹_›))
      · have shed : ∀ o : Option Nat, DriveKept s (match b, o with | false, some cost => shedFor j cost t | _, _ => t) := by
          intro o
          split
          · exact drive_shedFor h
          · exact h
        split
        · exact shed _
        · exact ih (shed _)

theorem drive_dropPending {l : Latch} (h : DriveKept s t) : DriveKept s (dropPending l t) := by
  unfold dropPending
  split
  · exact (h.view (by rfl)).acts (actFrame_dropAct (.refl _ _))
  · exact h

theorem drive_serveGroup {grp : Group} (h : DriveKept s t) : DriveKept s (serveGroup grp t) := by
  unfold serveGroup
  dsimp only
  split
  · exact h
  · rename_i free
    simp only [Bool.or_eq_true, not_or, Bool.not_eq_true, Bool.not_eq_false'] at free
    obtain ⟨⟨⟨-, units⟩, -⟩, -⟩ := free
    exact drive_checkOverload ((drive_startStroke h (units_within units)).view rfl)

theorem drive_serveSlot (h : DriveKept s t) : DriveKept s (serveSlot t) :=
  drive_serveGroup (drive_serveGroup (drive_foldl (f := fun t l => dropPending l t) (fun _ => drive_dropPending) _ h))

theorem drive_scanQueue (h : DriveKept s t) : DriveKept s (scanQueue t) := drive_scanJobs h

theorem drive_closeSlot (h : DriveKept s t) : DriveKept s (closeSlot t) := h.view rfl

theorem drive_attempt (h : DriveKept s t) : DriveKept s (attempt t) := by
  unfold attempt
  dsimp only
  split
  · split
    · exact drive_scanQueue (drive_closeSlot (drive_serveSlot h))
    · exact drive_serveSlot h
  · exact drive_scanQueue h

theorem drive_settle (h : DriveKept s t) : DriveKept s (settle t) := by
  have attempts : ∀ (n : Nat) {t : State}, DriveKept s t → DriveKept s (settleFuel n t) := by
    intro n
    induction n with
    | zero => exact fun h => h.view rfl
    | succ n ih =>
      intro t h
      unfold settleFuel
      split
      · exact ih (drive_attempt (h.view rfl))
      · exact h
  unfold settle closeDue
  refine attempts _ ?_
  split
  · exact drive_trigger h
  · exact h

theorem drive_finish (h : DriveKept s t) : DriveKept s (finish t) :=
  (drive_settle h).view (by rw [finish, pump_writer]; rfl)

/-! ### Requests for locks (R9, R23, R90 to R92) -/

theorem drive_forming {step : Forming → Act → Forming} (keeps : ∀ f a, DriveKept f.state (step f a).state) (as : List Act)
    {f : Forming} (h : DriveKept s f.state) : DriveKept s (as.foldl step f).state := by
  induction as generalizing f with
  | nil => exact h
  | cons a as ih => exact ih (h.trans (keeps f a))

theorem drive_meetWait (g : Goal) (f : Forming) (a : Act) : DriveKept f.state (meetWait g f a).state := by
  unfold meetWait
  split
  · split
    · split <;> exact .refl _
    · exact (DriveKept.refl _).acts (actFrame_abandonRetry (.refl _ _))
  · exact .refl _

theorem drive_meetJob (g : Goal) (f : Forming) (a : Act) : DriveKept f.state (meetJob g f a).state := by
  cases queued : f.state.queuedFor a with
  | some j =>
    rcases meetJob_cases g queued with ⟨x, e⟩ | e
    · rw [e]
      exact .refl _
    · rw [e]
      exact (DriveKept.refl _).acts (actFrame_dropQueued (.refl _ _))
  | none =>
    rw [meetJob_free g queued]
    exact .refl _

theorem drive_formJob {o : Origin} {g : Goal} {as : List Act} (h : DriveKept s t) : DriveKept s (formJob o g as t).2 := by
  have merged : DriveKept s (mergeRequest g as t).state := drive_forming (drive_meetJob g) _ (drive_forming (drive_meetWait g) _ h)
  unfold formJob
  dsimp only
  split
  · exact merged
  · split
    · exact merged.acts (ActsFrame.foldl (key := id) (fun _ _ => actFrame_keepOut (.refl _ _)) _ _)
    · exact (drive_enterFresh merged).acts (ActsFrame.foldl (key := id) (fun _ _ => actFrame_queueAct (.refl _ _)) _ _)

/-! ### Requests for windows (R45, R94) -/

theorem drive_newWindowJob {k : WindowTask} {p : Priority} (h : DriveKept s t) : DriveKept s (newWindowJob k p t).2 := by
  unfold newWindowJob
  dsimp only
  split
  · exact h
  · split
    · rename_i idle
      exact drive_setWin (drive_enterFresh h) ⟨fun b on => by simpa [idle] using b on, fun ⟨travel, _⟩ => ⟨travel, nofun⟩, id⟩
        (fun _ => by rw [idle]; rfl)
    · exact drive_enterFresh h

theorem drive_replaceJob {j : Job} {k : WindowTask} {p : Priority} (h : DriveKept s t) : DriveKept s (replaceJob j k p t).2 := by
  unfold replaceJob
  dsimp only
  split
  · rename_i queued
    exact drive_setWin (drive_trigger (drive_changeQueued h))
      ⟨id, fun ⟨travel, _⟩ => ⟨travel, fun _ runs => nomatch queued.symm.trans runs⟩, id⟩ (fun _ => rfl)
  · exact drive_trigger (drive_changeQueued h)

theorem drive_takeOver {k : WindowTask} (h : DriveKept s t) (allowed : modeAllowed k.mode (t.win k.win).normalized) :
    DriveKept s (takeOver k t) := by
  refine drive_setWin h
    ⟨id, fun ⟨travel, _⟩ => ⟨travel, fun off _ => allowed off⟩, fun ⟨heat, tally⟩ => ⟨heat, ?_⟩⟩ (fun _ => rfl)
  show (if _ then 0 else _) ≤ 3
  split <;> omega

theorem drive_requestWindow {k : WindowTask} {p : Priority} (h : DriveKept s t)
    (allowed : modeAllowed k.mode (t.win k.win).normalized) : DriveKept s (requestWindow k p t).2 := by
  unfold requestWindow
  dsimp only
  split
  · exact drive_newWindowJob h
  · split
    · exact h
    · split
      · exact drive_replaceJob h
      · exact drive_newWindowJob h
  · split
    · exact h
    · split
      · exact drive_takeOver h allowed
      · exact drive_stopRunning h ‹_›
  · split
    · exact h
    · split
      · exact h
      · split
        · exact drive_detail h rfl rfl rfl rfl rfl rfl rfl rfl
        · split
          · exact drive_replaceJob h
          · exact drive_newWindowJob h
  · exact h

end

end Sys2Proof.Machine

/-! ## Events of the locks, the windows, the fobs and the store keep the drives' laws -/

namespace Sys2Proof.Machine

open Sys2Proof

section
variable {s t u : State} {w : Win}

/-! ### Wake, contacts and timers of the lock table -/

theorem drive_wake (h : DriveKept s t) : DriveKept s (wake t) := by
  unfold wake
  split
  · dsimp only
    split
    · exact h.view rfl
    · exact h.view rfl
  · exact h

theorem drive_awaken (h : DriveKept s t) : DriveKept s (awaken t) := by
  unfold awaken
  split
  · exact drive_finish (drive_wake h)
  · exact drive_wake h

theorem drive_contactWork {c : Contact} (h : DriveKept s t) : DriveKept s (contactWork c t) :=
  (drive_raise (drive_wake h)).acts (actFrame_sensedChanged (.refl _ _))

theorem drive_ajarWork {b : Bool} (h : DriveKept s t) : DriveKept s (ajarWork b t) := by
  unfold ajarWork
  dsimp only
  split
  · exact (drive_raise (k := .LATCH_CHANGED) (drive_wake h)).view rfl
  · exact drive_raise (drive_wake h)

theorem drive_decayWork {a : Act} (h : DriveKept s t) : DriveKept s (decayWork a t) := by
  unfold decayWork
  dsimp only
  split
  · exact drive_trigger (drive_setAct h)
  · exact drive_setAct h

theorem drive_panelLatchRequest {o : Origin} {g : Goal} {as : List Act} (h : DriveKept s t) :
    DriveKept s (panelLatchRequest o g as t) := by
  have formed := drive_formJob (o := o) (g := g) (as := as) h
  unfold panelLatchRequest
  split
  all_goals
    rename_i e
    rw [e] at formed
  · exact formed.view rfl
  · exact formed

theorem drive_rockerWork {x : LockTurn} (h : DriveKept s t) : DriveKept s (rockerWork x t) := by
  unfold rockerWork
  dsimp only
  split
  · split
    · exact drive_wake h
    · exact drive_panelLatchRequest (drive_wake h)
  · exact drive_panelLatchRequest (drive_wake h)

theorem drive_keyWork {x : LockTurn} (h : DriveKept s t) : DriveKept s (keyWork x t) := by
  unfold keyWork
  dsimp only
  split
  · split
    · exact drive_wake h
    · refine DriveKept.view (t := if _ then _ else _) ?_ rfl
      split
      · exact drive_panelLatchRequest (drive_wake h)
      · exact drive_panelLatchRequest (drive_wake h)
  · exact drive_panelLatchRequest ((drive_wake h).view rfl)

theorem drive_retryWork {a : Act} (h : DriveKept s t) : DriveKept s (retryWork a t) := by
  have resumed : DriveKept s (resumeAs a .QUEUED t) := h.acts (actFrame_resumeAs (.refl _ _))
  unfold retryWork
  split
  · exact h
  · split
    · unfold toPending
      split
      · exact resumed.view rfl
      · exact resumed
    · split
      · exact h.acts (actFrame_finalFailure (.refl _ _))
      · exact drive_enterQueue resumed

theorem drive_strokeEndWork {job : Option Nat} {g : Group} (h : DriveKept s t) : DriveKept s (strokeEndWork job g t) := by
  unfold strokeEndWork
  split
  · exact drive_endStroke h (List.mem_of_find?_eq_some ‹_›)
  · exact h

/-! ### Switches and window requests (R41 to R47, R62) -/

theorem drive_dropStanding (h : DriveKept s t) : DriveKept s (dropStanding w t) := by
  unfold dropStanding
  dsimp only
  split
  · exact h
  · exact drive_removeWindowJob h
  · exact drive_stopRunning h ‹_›
  · split
    · exact drive_dropContinuation h
    · exact drive_removeWindowJob h
  · exact h

theorem drive_deepenStanding {x : Standing} (h : DriveKept s t) (allowed : modeAllowed .AUTO (t.win w).normalized) :
    DriveKept s (deepenStanding w x t) := by
  unfold deepenStanding
  dsimp only
  split
  · exact drive_takeOver h allowed
  · split
    · exact drive_detail h rfl rfl rfl rfl rfl rfl rfl rfl
    · split
      · exact drive_replaceJob h
      · exact h
  · split
    · exact drive_replaceJob h
    · exact h
  · exact h

theorem drive_switchRequest {sw : Switch} {m : RunMode} {d : Dir} (h : DriveKept s t) : DriveKept s (switchRequest sw m d t) := by
  unfold switchRequest
  dsimp only
  split
  · rename_i fit
    exact drive_requestWindow h (modeAllowed_of_fits fit)
  · exact h

theorem drive_pressSwitch {sw : Switch} {d : Dir} {two : Bool} (h : DriveKept s t) : DriveKept s (pressSwitch sw d two t) := by
  unfold pressSwitch
  dsimp only
  split
  · split
    · rename_i runs
      exact (drive_stopRunning h runs.2).view rfl
    · exact h
  · split
    · exact (drive_dropStanding h).view rfl
    · exact drive_switchRequest h

theorem drive_deepenSwitch {sw : Switch} {d : Dir} (h : DriveKept s t) : DriveKept s (deepenSwitch sw d t) := by
  unfold deepenSwitch
  dsimp only
  split
  · exact h
  · split
    · split
      · exact h
      · split
        · split
          · rename_i fit
            exact drive_deepenStanding h (modeAllowed_of_fits fit)
          · exact h
        · exact drive_switchRequest h
    · exact drive_switchRequest h

theorem drive_releaseSwitch {sw : Switch} (h : DriveKept s t) : DriveKept s (releaseSwitch sw t) := by
  refine drive_foldl (f := releaseAt (switchOrigin sw)) ?_ _ (h.view rfl)
  intro u w k
  unfold releaseAt
  split
  · split
    · exact drive_dropStanding k
    · exact k
  · exact k

theorem drive_switchWork {sw : Switch} {old new : Stage} (h : DriveKept s t) : DriveKept s (switchWork sw old new t) := by
  unfold switchWork
  dsimp only
  split
  · exact drive_wake h
  · exact drive_pressSwitch (drive_wake h)
  · exact drive_releaseSwitch (drive_wake h)
  · split
    · split
      · exact drive_deepenSwitch (drive_wake h)
      · exact drive_wake h
    · exact drive_pressSwitch (drive_releaseSwitch (drive_wake h))

theorem drive_stopRequest (h : DriveKept s t) : DriveKept s (stopRequest w t).2 := by
  unfold stopRequest
  dsimp only
  split
  · exact h
  · exact h
  · split
    · split
      · exact h
      · exact drive_dropContinuation h
    · split
      · split
        · exact h
        · exact drive_removeWindowJob h
      · exact h
  · split
    · exact h
    · exact drive_dropStanding h

theorem drive_portWindowRequest {k : WindowTask} (h : DriveKept s t) (allowed : modeAllowed k.mode (t.win k.win).normalized) :
    DriveKept s (portWindowRequest k t).2 := by
  have taken := drive_requestWindow (p := .USER) h allowed
  unfold portWindowRequest
  split
  · exact h
  · split
    all_goals
      rename_i e
      rw [e] at taken
      exact taken

theorem drive_gotoRequest {pos L : Nat} (h : DriveKept s t) (normalized : (t.win w).normalized = true) :
    DriveKept s (gotoRequest w pos L t).2 := by
  unfold gotoRequest
  dsimp only
  split
  · exact drive_stopRequest h
  · generalize (if min pos L < (t.win w).P then Dir.UP else .DOWN) = d
    split
    · exact h
    · exact drive_portWindowRequest h (fun off => nomatch normalized.symm.trans off)

theorem drive_moveRequest {a : WindowAction} {pos : Nat} (h : DriveKept s t) (normalized : (t.win w).normalized = true) :
    DriveKept s (moveRequest w a pos t).2 := by
  unfold moveRequest
  split
  · split
    · exact drive_portWindowRequest h (fun off => nomatch normalized.symm.trans off)
    · exact h
  · exact drive_portWindowRequest h (fun off => nomatch normalized.symm.trans off)
  · split
    · exact drive_gotoRequest h normalized
    · exact h
  · rw [stopAnswer_snd]
    exact drive_stopRequest h

theorem drive_takeWindowRequest {window action : Byte} {x : BitVec 16} (h : DriveKept s t) :
    DriveKept s (takeWindowRequest window action x t).2 := by
  unfold takeWindowRequest
  split
  · split
    · rw [stopAnswer_snd]
      exact drive_stopRequest h
    · split
      · exact h
      · split
        · exact h
        · split
          · exact h
          · exact drive_moveRequest h (by simpa using ‹¬ _ = false›)
  · exact h

/-! ### Lines and window timers (R54 to R58, R61) -/

/-- A window whose sensor is lost is not RUNNING, so that it may be unnormalized (R44, R54). -/
theorem drive_sensorLost (h : DriveKept s t) : DriveKept s (sensorLost w t) := by
  have still : ((haltWindow w t).win w).run ≠ .RUNNING := by
    rw [haltWindow_eq, win_setWin_same]
    rcases (halted_haltRecord t.now (t.win w)).still.1 with e | e | e <;> rw [e] <;> nofun
  have lost : DriveKept s (setWindowFault w .SENSOR_LOST
      ((haltWindow w t).setWin w { (haltWindow w t).win w with normalized := false })) :=
    drive_setWindowFault (drive_setWin (drive_haltWindow h)
      ⟨id, fun _ => ⟨nofun, fun _ runs => absurd runs still⟩, id⟩ (fun _ => rfl))
  unfold sensorLost removeUnfit
  dsimp only
  split
  · split
    · exact lost
    · exact drive_removeWindowJob lost
  · exact lost

theorem drive_supplyWork {was : Nat} (h : DriveKept s t) : DriveKept s (supplyWork was t) := by
  unfold supplyWork
  split
  · exact drive_foldl (f := fun t w => undervoltageStop w t) (fun _ => drive_undervoltageStop) _ h
  · split
    · exact drive_trigger h
    · exact h

theorem drive_heatWork (h : DriveKept s t) : DriveKept s (heatWork w t) :=
  drive_testHold (drive_setWin h ⟨id, id, fun ⟨_, tally⟩ => ⟨Nat.min_le_left _ _, tally⟩⟩ (fun _ => rfl))

theorem drive_coolWork (h : DriveKept s t) : DriveKept s (coolWork w t) :=
  drive_testHold (drive_setWin h ⟨id, id, fun ⟨heat, tally⟩ => ⟨(Nat.sub_le _ _).trans heat, tally⟩⟩ (fun _ => rfl))

theorem drive_tallyWork (h : DriveKept s t) : DriveKept s (tallyWork w t) :=
  drive_setWin h ⟨id, id, fun ⟨heat, _⟩ => ⟨heat, Nat.zero_le _⟩⟩ (fun _ => rfl)

theorem drive_blockingWork {id : Nat} (h : DriveKept s t) : DriveKept s (blockingWork id t) :=
  drive_trigger (drive_changeQueued h)

/-! ### Searches, fobs and the hold -/

theorem drive_closeQuietly {o : SearchOutcome} {a : Option SearchAnswer} (h : DriveKept s t) :
    DriveKept s (closeQuietly o a t) := by
  unfold closeQuietly
  split
  · exact h
  · exact h.view rfl

theorem drive_closeSearch {o : SearchOutcome} {a : Option SearchAnswer} (h : DriveKept s t) :
    DriveKept s (closeSearch o a t) := by
  unfold closeSearch
  split
  · exact drive_raise (drive_closeQuietly h)
  · exact h

theorem drive_checkSearch (h : DriveKept s t) : DriveKept s (checkSearch t) := by
  unfold checkSearch
  split
  · split
    · exact drive_closeSearch h
    · exact h
  · exact h

theorem drive_touchWork {i : TouchInput} (h : DriveKept s t) : DriveKept s (touchWork i t) := by
  unfold touchWork
  dsimp only
  split
  · exact drive_wake h
  · split
    · split
      · exact (drive_wake h).view rfl
      · exact drive_wake h
    · split
      · exact drive_wake h
      · exact (drive_wake h).view rfl

theorem drive_takeSearchNone {tag : Byte} (h : DriveKept s t) : DriveKept s (takeSearchNone tag t).2 := by
  unfold takeSearchNone
  split
  · exact drive_closeSearch h
  · exact h
  · exact h

theorem drive_stopComfort (h : DriveKept s t) : DriveKept s (stopComfort t w) := by
  have removed : ∀ u, DriveKept s u → DriveKept s (match (u.queuedWindow w).bind Job.task? with
      | some k => if k.mode = .COMFORT then removeWindowJob w u else u
      | none => u) := by
    intro u k
    split
    · split
      · exact drive_removeWindowJob k
      · exact k
    · exact k
  unfold stopComfort
  refine removed _ ?_
  split
  · rename_i runs
    exact drive_stopRunning h runs.1
  · split
    · exact drive_dropContinuation h
    · exact h

theorem drive_closeHold (h : DriveKept s t) : DriveKept s (closeHold t) := by
  have closed : DriveKept s { t with hold := { t.hold with isOpen := false, startT := none, gapT := none } } := h.view rfl
  unfold closeHold
  dsimp only
  split
  · split
    · exact drive_foldl (fun _ => drive_stopComfort) _ closed
    · exact closed
  · exact h

theorem drive_startComfort (h : DriveKept s t) : DriveKept s (startComfort t) := by
  refine drive_foldl (f := comfortRequest) ?_ _ (h.view rfl)
  intro u w k
  unfold comfortRequest
  split
  · rename_i fit
    simp only [comfortFits, Bool.and_eq_true, decide_eq_true_eq] at fit
    exact drive_requestWindow k (modeAllowed_of_fits fit.1.1.1.1)
  · exact k

theorem drive_declineSlot {r : PresentResult} {i : Fin 8} {c : Nat} (h : DriveKept s t) :
    DriveKept s (declineSlot r i c t) := by
  unfold declineSlot
  split
  · exact h.view rfl
  · exact drive_setFob h
  · exact drive_setFob h
  · exact drive_setFob h
  · exact h

theorem drive_actedBy {o : Origin} {g : Goal} {as : List Act} (h : DriveKept s t) :
    DriveKept s (actedBy (formJob o g as t)).state := by
  have formed := drive_formJob (o := o) (g := g) (as := as) h
  unfold actedBy
  split
  all_goals
    rename_i e
    rw [e] at formed
    exact formed

theorem drive_cancelIfDone {x : Acted} (h : DriveKept s x.state) : DriveKept s (cancelIfDone x).state := by
  unfold cancelIfDone
  split
  · exact h.view rfl
  · exact h

theorem drive_entryUnlock {second allowed : Bool} {x : Acted} (h : DriveKept s x.state) :
    DriveKept s (entryUnlock second allowed x).state := by
  unfold entryUnlock
  split
  · exact h
  · split
    · exact h
    · refine h.view ?_
      dsimp only
      split <;> rfl

theorem drive_lockAction {i : Fin 8} {p : Port} (h : DriveKept s t) : DriveKept s (lockAction i p t).state := by
  unfold lockAction
  split
  · exact h
  · split
    · split
      · exact h
      · exact drive_cancelIfDone (drive_actedBy h)
    · split
      · exact h
      · exact drive_cancelIfDone (drive_actedBy h)

/-- Step 4 of R116. -/
theorem drive_actFor {b : Button} {i : Fin 8} {p : Port} (h : DriveKept s t) : DriveKept s (actFor b i p t).state := by
  unfold actFor
  split
  · exact drive_entryUnlock (drive_actedBy h)
  · split
    · split
      · exact drive_entryUnlock (drive_actedBy h)
      · unfold passiveLock
        split
        · exact h
        · exact drive_cancelIfDone (drive_actedBy h)
    · exact h
  · exact drive_lockAction h

theorem drive_closeByButton {b : Button} (h : DriveKept s t) : DriveKept s (closeByButton b t) := by
  unfold closeByButton
  split
  · exact h
  · exact drive_closeHold h

theorem drive_openByButton {b : Button} {r : ActionResult} {i : Fin 8} {c : Nat} {p : Port} (h : DriveKept s t) :
    DriveKept s (openByButton b r i c p t) := by
  unfold openByButton
  split
  · exact h.view rfl
  · exact h

theorem drive_accept {i : Fin 8} {c : Nat} {b : Button} {p : Port} (h : DriveKept s t) : DriveKept s (accept i c b p t).state := by
  have acted : DriveKept s (actFor b i p (closeByButton b (consumeCounter i c b p t))).state :=
    drive_actFor (drive_closeByButton (drive_setFob h))
  unfold accept
  exact drive_raise (drive_openByButton (acted.view rfl))

theorem drive_verifyPresent {identity : BitVec 32} {c : Nat} {b : Button} {p : Port} (h : DriveKept s t) :
    DriveKept s (verifyPresent identity c b p t).2 := by
  unfold verifyPresent
  split
  · exact h
  · dsimp only
    split
    · exact drive_accept h
    · exact drive_declineSlot h

theorem drive_takePresent {p : Port} {identity : BitVec 32} {counter : BitVec 24} {button tag : Byte} (h : DriveKept s t) :
    DriveKept s (takePresent p identity counter button tag t).2 := by
  unfold takePresent
  split
  · exact h
  · split
    · exact h
    · show DriveKept s (passivePresent identity counter.toNat tag.toNat p t).2
      unfold passivePresent
      split
      · exact drive_closeSearch (drive_verifyPresent h)
      · exact h
      · exact h
  · exact drive_verifyPresent h

/-! ### Crash (R149 to R158) -/

theorem drive_followLine {b : Bool} (h : DriveKept s t) : DriveKept s (followLine b t) := by
  unfold followLine
  split
  · unfold lineActive
    dsimp only
    split
    · exact (drive_wake h).view rfl
    · exact drive_wake h
  · unfold lineInactive
    split
    · exact h
    · exact h.view rfl

theorem drive_endLatchWaits (h : DriveKept s t) : DriveKept s (endLatchWaits t) := h.acts (endLatchWaits_frame t)

theorem drive_removeLockJobs (h : DriveKept s t) : DriveKept s (removeLockJobs t) := by
  have idled : ∀ (j : Job) {u : State}, DriveKept s u → DriveKept s (j.acts.foldl idleQueued u) := by
    intro j u k
    refine drive_foldl (f := idleQueued) ?_ _ k
    intro v a l
    unfold idleQueued
    split
    · exact l.acts (actFrame_dropAct (.refl _ _))
    · exact l
  unfold removeLockJobs
  dsimp only
  split
  · exact h
  · exact drive_trigger (drive_foldl (f := fun t (j : Job) => j.acts.foldl idleQueued t) (fun j => idled j) _ (drive_setQueue h))

theorem drive_launchCrash (h : DriveKept s t) : DriveKept s (launchCrash t) := by
  have pended : DriveKept s ((crashSet t).foldl pendLatch t) :=
    drive_foldl (f := pendLatch) (fun {u} l k => k.acts (actFrame_pendAct u (.latch l))) _ h
  exact pended.view rfl

theorem drive_cancelRelock (h : DriveKept s t) : DriveKept s (cancelRelock t) := h.view rfl

/-- The first indication of a crash (R150 to R156). -/
theorem drive_firstIndication (h : DriveKept s t) : DriveKept s (firstIndication t) := by
  have latched : DriveKept s { t with crash := { t.crash with latch := true } } := h.view rfl
  have cut : DriveKept s (firstBase t) :=
    drive_crashWindows (drive_removeLockJobs (drive_endLatchWaits (drive_crashCut latched)))
  rw [firstIndication_eq]
  exact drive_launchCrash (drive_closeSearch (drive_closeHold (drive_cancelRelock cut)))

theorem drive_indication {src : CrashSource} (h : DriveKept s t) : DriveKept s (indication src t) := by
  have raised : DriveKept s (raise .CRASH { t with crash := { t.crash with lastSource := some src } }) := h.view rfl
  unfold indication
  dsimp only
  split
  · exact drive_firstIndication raised
  · split
    · exact raised
    · exact drive_launchCrash (drive_crashWindows (drive_endLatchWaits raised))

theorem drive_takeCrashClear (h : DriveKept s t) : DriveKept s (takeCrashClear t).2 := by
  unfold takeCrashClear
  split
  · exact h
  · split
    · exact h
    · split
      · exact h
      · exact h.view rfl

/-! ### Parameters and the store (R83 to R85, R121 to R124, R178 to R183) -/

/-- New parameters whose drive budget is in its range (R179). -/
theorem drive_setParams {v : Params} (h : DriveKept s t) (budget : t.params.driveBudget ≤ 16 → v.driveBudget ≤ 16) :
    DriveKept s { t with params := v } :=
  h.trans ⟨fun law _ => law, fun b => ⟨budget b.1, b.2⟩, fun _ => .refl _⟩

theorem drive_changeParams {v : Params} (h : DriveKept s t) (budget : t.params.driveBudget ≤ 16 → v.driveBudget ≤ 16) :
    DriveKept s (changeParams v t) := by
  have triggered : DriveKept s (if v.driveBudget ≠ t.params.driveBudget then trigger { t with params := v }
      else { t with params := v }) := by
    split
    · exact drive_trigger (drive_setParams h budget)
    · exact drive_setParams h budget
  have tested : ∀ u, DriveKept s u → DriveKept s (if v.heatLimit ≠ t.params.heatLimit then
      Win.all.foldl (fun t w => testHold w t) u else u) := by
    intro u k
    split
    · exact drive_foldl (f := fun t w => testHold w t) (fun _ => drive_testHold) _ k
    · exact k
  unfold changeParams
  dsimp only
  split
  · exact drive_checkSearch (tested _ triggered)
  · exact tested _ triggered

theorem budget_paramSet {v : Params} (p : Param) (x : Nat) (h : v.driveBudget ≤ 16) :
    (paramSet v p (paramClamp p x)).driveBudget ≤ 16 := by
  cases p with
  | DRIVE_BUDGET =>
    show clampTo 10 16 x ≤ 16
    unfold clampTo
    omega
  | _ => exact h

theorem drive_takeSetParam {c : Byte} {v : BitVec 16} (h : DriveKept s t) : DriveKept s (takeSetParam c v t).2 := by
  unfold takeSetParam
  split
  · exact h
  · exact drive_changeParams h (budget_paramSet _ _)

/-- The parameters that a load brings are in their ranges (R181, R182). -/
theorem budget_loadedParams (b : StoredParams) : (loadedParams b).driveBudget ≤ 16 := by
  unfold loadedParams
  split
  · show clampTo 10 16 _ ≤ 16
    unfold clampTo
    omega
  · decide

theorem drive_takeInFlight {code : Byte} {xs : List PortWrite} (h : DriveKept s t) : DriveKept s (takeInFlight code xs t).2 :=
  drive_setPort (h.view rfl)

theorem drive_takeEnroll {k : Byte} {i : BitVec 32} {c : BitVec 24} (h : DriveKept s t) : DriveKept s (takeEnroll k i c t).2 := by
  unfold takeEnroll
  split
  · exact h
  · split
    · exact h
    · split
      · exact h
      · exact drive_takeInFlight h

theorem drive_takeRevoke {k : Byte} (h : DriveKept s t) : DriveKept s (takeRevoke k t).2 := by
  unfold takeRevoke
  split
  · exact h
  · exact drive_takeInFlight h

theorem drive_takeSaveProfiles (h : DriveKept s t) : DriveKept s (takeSaveProfiles t).2 := by
  unfold takeSaveProfiles
  dsimp only
  split
  · exact h
  · exact drive_takeInFlight h

/-- A cleared profile has no travel to be beyond (R85). -/
theorem drive_takeClearProfile {b : Byte} (h : DriveKept s t) : DriveKept s (takeClearProfile b t).2 := by
  unfold takeClearProfile
  split
  · exact h
  · exact drive_takeInFlight (drive_markProfile (drive_setWin h ⟨id, fun ⟨_, mode⟩ => ⟨nofun, mode⟩, id⟩ (fun _ => rfl)))

theorem drive_takeStandby (h : DriveKept s t) : DriveKept s (takeStandby t).2 := by
  unfold takeStandby
  dsimp only
  split
  · split
    · exact h.view rfl
    · exact drive_takeInFlight h
  · exact h

theorem drive_finalStatus {a : Answer} (h : DriveKept s t) : DriveKept s (finalStatus a t) := by
  unfold finalStatus
  dsimp only
  split
  · exact drive_setPort h
  · exact h

theorem drive_closeHoldOf {i : Fin 8} (h : DriveKept s t) : DriveKept s (closeHoldOf i t) := by
  unfold closeHoldOf
  split
  · exact drive_closeHold h
  · exact h

theorem drive_writeDone {x : Writing} (h : DriveKept s t) : DriveKept s (writeDone x t) := by
  have stored : ∀ i r, DriveKept s (setStoredSlot i r (storeIdle t)) := fun _ _ => h.view rfl
  have idle : DriveKept s (storeIdle t) := h.view rfl
  unfold writeDone
  dsimp only
  split
  · exact drive_setFob (stored _ _)
  · exact drive_closeHoldOf (drive_setFob (stored _ _))
  · exact drive_closeHoldOf (drive_setFob (stored _ _))
  · exact drive_detail (idle.view rfl) rfl rfl rfl rfl rfl rfl rfl rfl
  · exact idle.view rfl

theorem drive_portWriteDone {x : Writing} (h : DriveKept s t) : DriveKept s (portWriteDone x t) := by
  unfold portWriteDone
  split
  · split
    · unfold retestStandby
      split
      · exact drive_finalStatus (h.view rfl)
      · exact drive_finalStatus h
    · exact drive_finalStatus h
  · exact h

theorem drive_completion {kind : Payload → Bool} (h : DriveKept s t) : DriveKept s (completion kind t) := by
  unfold completion
  split
  · exact drive_portWriteDone (drive_writeDone h)
  · exact h

/-! ### RESTART, power-on and marks (R181, R182, R185) -/

theorem drive_restartWindow (h : DriveKept s t) : DriveKept s (restartWindow t w) := by
  unfold restartWindow
  split
  · rename_i queued
    exact drive_idleWindow h (by rw [queued]; rfl)
  · exact h

theorem drive_clearedQueue (h : DriveKept s t) : DriveKept s { t with queue := [], nearFull := false } := h.view rfl

theorem drive_clearedRecords (h : DriveKept s t) : DriveKept s { t with
    hold := Hold.closed
    relock := none
    keyLock := none
    entry := none
    spent := ⟨⟨false, false, false, false⟩, false, false, false⟩ } := h.view rfl

theorem drive_restartRecords (h : DriveKept s t) : DriveKept s (restartRecords t) :=
  drive_clearedRecords (drive_closeQuietly (drive_foldl (f := restartWindow) (fun _ => drive_restartWindow) Win.all
    ((drive_clearedQueue h).acts (restartActs_frame Act.all _))))

theorem drive_restartParams (h : DriveKept s t) : DriveKept s (restartParams t) :=
  drive_changeParams (h.view rfl) (fun _ => budget_loadedParams _)

theorem drive_restartNotices (h : DriveKept s t) : DriveKept s (restartNotices t) := h.view rfl

theorem drive_takeRestart (h : DriveKept s t) : DriveKept s (takeRestart t).2 := by
  have drives : DriveKept s (restartDrives t) :=
    drive_haltAllWindows (drive_trigger (drive_restartStrokes (t := { t with slot := CrashSlot.closed }) (h.view rfl)))
  exact drive_restartNotices (drive_restartParams (drive_restartRecords drives))

theorem drive_powerOn (ph : Phase) (pins : Pins) (s : State) : DriveKept s (powerOn ph pins s) where
  units _ _ := rfl
  bound _ := ⟨budget_loadedParams _, Nat.zero_le _⟩
  windows w := by
    have fresh : ∀ p r, WindowKept r (Window.fresh p) := fun _ _ =>
      ⟨fun _ => nofun, fun _ => ⟨nofun, nofun⟩, fun _ => ⟨Nat.zero_le _, Nat.zero_le _⟩⟩
    cases w <;> exact fresh _ _

theorem drive_markRef {r : ReadingRef} (h : DriveKept s t) : DriveKept s (markRef r t) := by
  unfold markRef
  split
  · exact drive_foldl (f := markWait _) (fun _ => drive_setAct) _ (h.view rfl)
  · refine h.strokes rfl rfl (fun _ => ?_) (fun b => b.2)
    simp only [strokeUnits, List.map_map]
    refine congrArg (t.units + List.sum ·) (List.map_congr_left (fun st _ => ?_))
    show st.units = Stroke.units (if _ then _ else _)
    split <;> rfl
  · exact h.view rfl
  · exact h.view rfl
  · exact h.view rfl
  · exact drive_setFob h
  · exact drive_setFob h
  · exact h.view rfl
  · exact h.view rfl
  · exact h.view rfl
  · exact h.view rfl

end

end Sys2Proof.Machine

/-! ## Every step keeps the drives' laws: O57 and O58 -/

namespace Sys2Proof.Machine

open Sys2Proof

section
variable {s t : State} {w : Win}

theorem drive_event {work : State → State} (keeps : ∀ {u}, DriveKept s u → DriveKept s (work u)) (h : DriveKept s t) :
    DriveKept s (event work t) := by
  unfold event
  split
  · exact h
  · exact drive_finish (keeps h)

theorem drive_lineEvent {changed : Bool} {level work : State → State} (line : driveView (level t) = driveView t)
    (keeps : ∀ {u}, DriveKept s u → DriveKept s (work u)) (h : DriveKept s t) :
    DriveKept s (lineEvent changed level work t) := by
  unfold lineEvent
  split
  · exact drive_event keeps (h.view line)
  · exact h

/-- At an expiry the timer is still running in the state in which it is met. -/
theorem drive_expiryOf {tm : State → Option Timer} {work : State → State} (stands : ∀ u now, tm { u with now := now } = tm u)
    (keeps : ∀ {u}, DriveKept s u → (tm u).isSome = true → DriveKept s (work u)) (h : DriveKept s t) :
    DriveKept s (expiry tm work t) := by
  refine drive_event (fun {u} k => ?_) h
  unfold expire
  split
  · exact k
  · rename_i runs
    unfold advanceTo
    split
    · exact keeps k (by rw [runs]; rfl)
    · exact keeps (k.view rfl) (by rw [stands, runs]; rfl)

theorem drive_expiry {tm : State → Option Timer} {work : State → State}
    (keeps : ∀ {u}, DriveKept s u → DriveKept s (work u)) (h : DriveKept s t) : DriveKept s (expiry tm work t) := by
  refine drive_event (fun {u} k => ?_) h
  unfold expire
  split
  · exact k
  · unfold advanceTo
    split
    · exact keeps k
    · exact keeps (k.view rfl)

/-! ### Transfers and the effects of the commands (R159 to R165) -/

theorem drive_respond {p : Port} {code : Byte} {a : Answer} (h : DriveKept s t) : DriveKept s (respond p code a t) :=
  drive_setPort h

theorem drive_takeSelect {p : Port} {x w i st : Byte} (h : DriveKept s t) : DriveKept s (takeSelect p x w i st t).2 := by
  unfold takeSelect
  dsimp only
  split
  · rename_i table _ _ _
    cases (if table = .PROFILE then winOf w else some (t.port p).cursor.window) with
    | none => exact h
    | some v =>
      dsimp only
      split
      · exact drive_setPort h
      · exact h
  · exact h

theorem drive_takeReadParam {c : Byte} (h : DriveKept s t) : DriveKept s (takeReadParam c t).2 := by
  unfold takeReadParam
  split <;> exact h

theorem drive_takeLatchRequest {set target : Byte} (h : DriveKept s t) : DriveKept s (takeLatchRequest set target t).2 := by
  unfold takeLatchRequest
  split
  · split
    · exact h
    · split
      · exact h
      · rename_i as g _ _ _ _
        have formed := drive_formJob (o := .PORT_M) (g := g) (as := as) h
        unfold latchTakenAnswer
        split
        all_goals
          rename_i e
          rw [e] at formed
        · exact formed.view rfl
        · exact formed
  · exact h

theorem drive_takeChildRequest {sides action : Byte} (h : DriveKept s t) : DriveKept s (takeChildRequest sides action t).2 := by
  unfold takeChildRequest
  split
  · rename_i as g _ _
    have formed := drive_formJob (o := .PORT_M) (g := g) (as := as) h
    unfold takenAnswer
    split
    all_goals
      rename_i e
      rw [e] at formed
      exact formed
  · exact h

theorem drive_acting {f : State → Answer × State} (h : DriveKept s (f t).2) : DriveKept s (acting f t).2 := drive_finish h

/-- The effect of every command (R165). -/
theorem drive_effectOf {i : Instr} (h : DriveKept s t) : DriveKept s (effectOf i t).2 := by
  unfold effectOf
  split
  · exact h
  · exact h
  · exact drive_setPort h
  · exact drive_setPort h
  · exact h
  · exact drive_acting (drive_takeLatchRequest h)
  · exact drive_acting (drive_takeChildRequest h)
  · exact h
  · exact drive_acting (drive_takeWindowRequest h)
  · exact drive_acting (drive_takeClearProfile h)
  · exact drive_acting (drive_takeSaveProfiles h)
  · exact drive_acting (drive_takePresent h)
  · exact drive_takeSearchNone h
  · exact h
  · exact h
  · exact drive_acting (drive_takeEnroll h)
  · exact drive_acting (drive_takeRevoke h)
  · exact drive_takeSelect h
  · exact drive_setPort h
  · exact drive_acting (drive_takeSetParam h)
  · exact drive_takeReadParam h
  · exact drive_acting (drive_takeInFlight h)
  · exact drive_acting (drive_indication h)
  · exact drive_takeCrashClear h
  · exact drive_acting (drive_takeRestart h)
  · exact drive_acting (drive_takeStandby h)
  · exact h

theorem drive_request {p : Port} {code : Byte} {i : Instr} (h : DriveKept s t) :
    DriveKept s (request p code (effectOf i) t) := by
  unfold request
  split
  · exact drive_respond (drive_effectOf (drive_awaken h))
  · exact drive_respond h

theorem drive_testTransfer {p : Port} {bytes : List Byte} {trailing : Bool} (h : DriveKept s t) :
    DriveKept s (testTransfer p bytes trailing t) := by
  unfold testTransfer
  dsimp only
  split
  · exact drive_respond h
  · split
    · exact drive_respond h
    · split
      · exact drive_respond h
      · exact drive_request h

theorem drive_transferBegins {p : Port} (h : DriveKept s t) : DriveKept s (transferBegins p t) := by
  unfold transferBegins beginTransfer
  dsimp only
  split
  · exact drive_awaken h
  · exact drive_setPort (drive_awaken h)

theorem drive_transferEnd {p : Port} {tested : State → State} (keeps : ∀ {u}, DriveKept s u → DriveKept s (tested u))
    (h : DriveKept s t) : DriveKept s (transferEnd p tested t) := by
  have ended : ∀ u, DriveKept s u → DriveKept s (match (u.port p).transfer with
      | some x =>
        if (endTransfer p u).phase = .LOADING ∨ x.driven = false ∨ x.inFlight = true then endTransfer p u
        else tested (endTransfer p u)
      | none => u) := by
    intro u k
    split
    · split
      · exact drive_setPort k
      · exact keeps (drive_setPort k)
    · exact k
  refine ended _ ?_
  split
  · exact h
  · exact drive_transferBegins h

/-- The row of a command (R165). -/
theorem drive_command {p : Port} {code : Byte} {i : Instr} {u : State} (h : DriveKept s t)
    (e : commandRow p code (effectOf i) t = .next u) : DriveKept s u := by
  cases e
  exact drive_transferEnd drive_request h

/-! ### Every command -/

theorem drive_crashInChange {active : Bool} {u : State} (h : DriveKept s t) (e : execCrashInChange active t = .next u) :
    DriveKept s u := by
  cases e
  have level : DriveKept s { t with pins := { t.pins with crashIn := active } } := h.view rfl
  split
  · exact h
  · dsimp only
    split
    · exact drive_followLine level
    · exact drive_event drive_followLine level

/-- Every command keeps the drives' laws. -/
theorem drive_exec {i : Instr} {u : State} (h : DriveKept s t) (e : exec i t = .next u) : DriveKept s u := by
  cases i with
  | powerOnReset pins => cases e; exact h.trans (drive_powerOn _ _ _)
  | portsEnabled =>
    cases e
    split
    · exact (h.trans (drive_powerOn .ACTIVE t.pins t)).view rfl
    · exact h
  | contactChange c closed => cases e; exact drive_lineEvent rfl drive_contactWork h
  | ajarChange l isOpen => cases e; exact drive_lineEvent rfl drive_ajarWork h
  | sensedInvalidExpiry d => cases e; exact drive_expiry (fun k => (drive_setAct (drive_setAct k)).view rfl) h
  | centralLockRocker x => cases e; exact drive_event drive_rockerWork (h.view rfl)
  | keyCylinder x => cases e; exact drive_event drive_keyWork (h.view rfl)
  | childSafetyButton => cases e; exact drive_event (fun k => drive_formJob (drive_wake k)) (h.view rfl)
  | windowSwitchChange sw st => cases e; exact drive_lineEvent rfl drive_switchWork h
  | touch ti touched =>
    cases e
    refine drive_lineEvent rfl (fun k => ?_) h
    split
    · exact drive_touchWork k
    · exact k
  | qualifiedEdge w x since =>
    cases e
    refine drive_event (fun k => ?_) h
    split
    · exact drive_qualifiedEdge k
    · exact k
  | sensorSupplyChange w inRange =>
    cases e
    refine drive_lineEvent rfl (fun k => ?_) h
    cases inRange
    · exact drive_sensorLost k
    · exact drive_detail k rfl rfl rfl rfl rfl rfl rfl rfl
  | supplySample mv => cases e; exact drive_event drive_supplyWork (h.view rfl)
  | groupOvercurrent g active =>
    cases e
    refine drive_lineEvent (by cases g <;> rfl) (fun k => ?_) h
    split
    · exact drive_cutGroup k
    · exact k
  | windowOvercurrent w active =>
    cases e
    refine drive_lineEvent rfl (fun k => ?_) h
    split
    · rename_i drives
      rw [Bool.and_eq_true] at drives
      exact drive_overcurrentWindow k (busy_of_driven drives.2)
    · exact k
  | overcurrentFaultClear w =>
    cases e
    exact drive_expiry (work := clearOvercurrent w) (fun k => drive_detail k rfl rfl rfl rfl rfl rfl rfl rfl) h
  | crashInChange active => exact drive_crashInChange h e
  | qualificationTimerExpiry => cases e; exact drive_expiry (work := qualified) (fun k => drive_indication (k.view rfl)) h
  | quietTimerExpiry => cases e; exact drive_expiry (work := becomeQuiet) (fun k => k.view rfl) h
  | transferBegin p => cases e; exact drive_transferBegins h
  | transferEnd p bytes trailing => cases e; exact drive_transferEnd drive_testTransfer h
  | nop p => exact drive_command (i := .nop p) h e
  | readNotices p => exact drive_command (i := .readNotices p) h e
  | clearNotices p kinds => exact drive_command (i := .clearNotices p kinds) h e
  | setMask p kinds => exact drive_command (i := .setMask p kinds) h e
  | readLatches p => exact drive_command (i := .readLatches p) h e
  | latchRequest p set target => exact drive_command (i := .latchRequest p set target) h e
  | childRequest p sides action => exact drive_command (i := .childRequest p sides action) h e
  | readWindow p w page => exact drive_command (i := .readWindow p w page) h e
  | windowRequest p w a x => exact drive_command (i := .windowRequest p w a x) h e
  | clearProfile p w => exact drive_command (i := .clearProfile p w) h e
  | saveProfiles p => exact drive_command (i := .saveProfiles p) h e
  | present p identity c b tag => exact drive_command (i := .present p identity c b tag) h e
  | searchNone p tag => exact drive_command (i := .searchNone p tag) h e
  | readSearch p page => exact drive_command (i := .readSearch p page) h e
  | readLastEntry p page => exact drive_command (i := .readLastEntry p page) h e
  | enroll p slot identity c => exact drive_command (i := .enroll p slot identity c) h e
  | revoke p slot => exact drive_command (i := .revoke p slot) h e
  | select p table w x st => exact drive_command (i := .select p table w x st) h e
  | readNext p => exact drive_command (i := .readNext p) h e
  | setParam p c v => exact drive_command (i := .setParam p c v) h e
  | readParam p c => exact drive_command (i := .readParam p c) h e
  | commitParams p => exact drive_command (i := .commitParams p) h e
  | crashNotify p => exact drive_command (i := .crashNotify p) h e
  | crashClear p => exact drive_command (i := .crashClear p) h e
  | restart p => exact drive_command (i := .restart p) h e
  | standby p => exact drive_command (i := .standby p) h e
  | strokeEnd job g => cases e; exact drive_expiry drive_strokeEndWork h
  | retryWaitExpiry a => cases e; exact drive_expiry drive_retryWork h
  | strokeCountDecay a => cases e; exact drive_expiry drive_decayWork h
  | relockTimerExpiry => cases e; exact drive_expiry (work := relockWork) (fun k => drive_formJob (k.view rfl)) h
  | brakingTimerExpiry w => cases e; exact drive_expiryOf (fun _ _ => rfl) drive_brakingOver h
  | stall w => cases e; exact drive_expiry drive_stallWindow h
  | heatingTimerExpiry w => cases e; exact drive_expiry drive_heatWork h
  | coolingTimerExpiry w => cases e; exact drive_expiry drive_coolWork h
  | tallyTimerExpiry w => cases e; exact drive_expiry drive_tallyWork h
  | jobTurnsBlocking job => cases e; exact drive_expiry drive_blockingWork h
  | candidateLifetimeExpiry slot => cases e; exact drive_expiry (work := dropCandidate slot) drive_setFob h
  | startTimerExpiry => cases e; exact drive_expiry drive_startComfort h
  | gapTimerExpiry => cases e; exact drive_expiry drive_closeHold h
  | searchExpiry => cases e; exact drive_expiry drive_closeSearch h
  | holdOffEnd l => cases e; exact drive_expiry (work := endHoldOff l) (fun k => k.view rfl) h
  | readingExpired r => cases e; exact drive_expiry drive_markRef h
  | commitWriteComplete => cases e; exact drive_expiry drive_completion h
  | profileWriteComplete => cases e; exact drive_expiry drive_completion h
  | enrollWriteComplete => cases e; exact drive_expiry drive_completion h
  | revokeWriteComplete => cases e; exact drive_expiry drive_completion h
  | paramWriteComplete => cases e; exact drive_expiry drive_completion h
  | panelKeyInputRelease pi => cases e; exact drive_event drive_wake (h.view rfl)

/-- Every step keeps the drives' laws. -/
theorem drive_step (e : step s = .next t) : DriveKept s t := by
  unfold step at e
  split at e
  · rename_i rest _
    exact drive_exec (.ofView (u := { s with pending := rest }) rfl) e
  · unfold idle at e
    dsimp only at e
    split at e
    · refine drive_exec ?_ e
      unfold spendChoice
      split
      · exact .ofView rfl
      · exact .refl s
    · cases e
      unfold tick
      split
      · exact .refl s
      · exact .ofView rfl

end

/-- A drive budget in its range is 16 or less (R179). -/
theorem budget_of_paramsLaw {s : State} (h : paramsLaw s) : s.params.driveBudget ≤ 16 := by
  have clamped : clampTo 10 16 s.params.driveBudget = s.params.driveBudget := h .DRIVE_BUDGET
  unfold clampTo at clamped
  omega

/-- Settles O57. The law of units and that of the braking timers are kept together (`DriveKept.units`, and `braked` of each
record); the bound holds because a take-up is within the drive budget, which its range keeps at 16 or less. -/
theorem unitsLawKeptByEveryStep : Obligations.UnitsLawKeptByEveryStep := by
  intro s t e
  have kept := drive_step e
  exact ⟨fun law brakes => ⟨kept.units law brakes, fun w => (kept.windows w).braked (brakes w)⟩,
    fun ranges held => (kept.bound ⟨budget_of_paramsLaw ranges, held⟩).2⟩

/-- Settles O58, from the laws that each window record keeps at a step. -/
theorem windowLawsKeptByEveryStep : Obligations.WindowLawsKeptByEveryStep := by
  intro s t e
  have kept := drive_step e
  exact ⟨fun law w => (kept.windows w).placed (law w), fun ranges w => (kept.windows w).inRange (ranges w)⟩

end Sys2Proof.Machine

/-! ## Events of one window

What an event of one window leads to, said as that window's record: the rules that O25 to O33 share. -/

namespace Sys2Proof.Machine

open Sys2Proof

section
variable {s t : State} {w v : Win} {r : Window}

theorem calm_setWin (h : calm s) (w : Win) (r : Window) : calm (s.setWin w r) := calm_congr rfl rfl rfl rfl rfl h

theorem finish_setWin (h : calm s) (w : Win) (r : Window) : finish (s.setWin w r) = s.setWin w r :=
  finish_calm (calm_setWin h w r)

/-- One window, the pending sets and the writer: all that an event of one window changes. -/
def WindowAlone (w : Win) (s t : State) : Prop :=
  ∃ q x ps, t = { s with windows := s.windows.set w q, writer := x, ports := ps }

namespace WindowAlone

theorem setWin (w : Win) (r : Window) (s : State) : WindowAlone w s (s.setWin w r) := ⟨r, s.writer, s.ports, rfl⟩

theorem raise {k : Notice} (h : WindowAlone w s t) : WindowAlone w s (raise k t) := by
  obtain ⟨q, x, ps, rfl⟩ := h
  exact ⟨q, x, _, rfl⟩

theorem writer {x : Writer} (h : WindowAlone w s t) : WindowAlone w s { t with writer := x } := by
  obtain ⟨q, y, ps, rfl⟩ := h
  exact ⟨q, x, ps, rfl⟩

theorem win (h : WindowAlone w s t) (other : v ≠ w) : t.win v = s.win v := by
  obtain ⟨q, x, ps, rfl⟩ := h
  exact win_setWin_ne s q other

theorem table (h : WindowAlone w s t) : t.table = s.table := by obtain ⟨q, x, ps, rfl⟩ := h; rfl
theorem strokes (h : WindowAlone w s t) : t.strokes = s.strokes := by obtain ⟨q, x, ps, rfl⟩ := h; rfl
theorem queue (h : WindowAlone w s t) : t.queue = s.queue := by obtain ⟨q, x, ps, rfl⟩ := h; rfl
theorem units (h : WindowAlone w s t) : t.units = s.units := by obtain ⟨q, x, ps, rfl⟩ := h; rfl
theorem fobs (h : WindowAlone w s t) : t.fobs = s.fobs := by obtain ⟨q, x, ps, rfl⟩ := h; rfl
theorem search (h : WindowAlone w s t) : t.search = s.search := by obtain ⟨q, x, ps, rfl⟩ := h; rfl
theorem schedule (h : WindowAlone w s t) : t.schedule = s.schedule := by obtain ⟨q, x, ps, rfl⟩ := h; rfl
theorem pins (h : WindowAlone w s t) : t.pins = s.pins := by obtain ⟨q, x, ps, rfl⟩ := h; rfl

theorem attemptDue (h : WindowAlone w s t) : t.attemptDue = s.attemptDue := by obtain ⟨q, x, ps, rfl⟩ := h; rfl
theorem slot (h : WindowAlone w s t) : t.slot = s.slot := by obtain ⟨q, x, ps, rfl⟩ := h; rfl

/-- After such an event no more than a write begins. -/
theorem finish (h : WindowAlone w s t) (still : calm s) : finish t = { t with writer := (pump t).writer } := by
  obtain ⟨due, steady, -⟩ := still
  have done : slotSteady t := fun k => by
    rw [slotDone_congr h.slot h.strokes]
    exact steady (h.slot ▸ k)
  rw [Machine.finish, settle_still (h.attemptDue.trans due) done]
  exact pump_writer t

end WindowAlone

/-- The end of an event of one window, with what every one of them leaves. -/
theorem finish_windowAlone (h : WindowAlone w s t) (still : calm s) :
    WindowAlone w s (finish t) ∧ (finish t).win w = t.win w ∧ (finish t).ports = t.ports := by
  rw [h.finish still]
  exact ⟨h.writer, rfl, rfl⟩

/-- A kind that an event raises stands in both pending sets. -/
theorem pending_raised {k : Notice} (ports : t.ports = (raise k s).ports) (p : Port) :
    (t.port p).pending = (s.port p).pending ||| k.bit := by
  rw [State.port, ports]
  exact (congrArg PortRec.pending (port_raise s k p) :)

/-! ### Stops with a fault or a pinch (R48, R52, R55, R59) -/

/-- A window stopped with a fault. -/
def faultRecord (now : Time) (f : WindowFault) (r : Window) : Window := { stopRecord now none r with fault := f }

theorem faultStop_eq (w : Win) (f : WindowFault) (s : State) :
    setWindowFault w f (stopWindow w none s) = raise .WINDOW_FAULT (s.setWin w (faultRecord s.now f (s.win w))) := by
  rw [setWindowFault, stopWindow, setWin_setWin, win_setWin_same]
  rfl

/-- A window stopped by a pinch (R59). -/
def pinchRecord (now : Time) (x : LastPinch) (r : Window) : Window :=
  let q := stopRecord now (some (reversalOf r)) { r with mon := declarePinch x r.mon }
  { q with tally := min 3 (q.tally + 1), tallyT := some ⟨now, tallySpan⟩ }

theorem pinch_eq (w : Win) (x : LastPinch) (s : State) :
    pinch w x s = raise .PINCH (s.setWin w (pinchRecord s.now x (s.win w))) := by
  simp only [pinch, stopWindow, setWin_setWin, win_setWin_same]
  rfl

/-! ### Edges (R50, R51, R63, R64) -/

/-- The record of a driven window after a qualified edge. -/
def countedRecord (now : Time) (h : HallInput) (r : Window) : Window :=
  { r with
    lastHall := some h
    hasEdge := true
    P := countedPosition r
    stallT := some ⟨now, stallSpan⟩ }

theorem qualifiedEdge_driven {h : HallInput} {since : Nat} (drives : driven (s.win w).run = true) :
    qualifiedEdge w h since s =
      edgeEffects w (edgePeriod (s.win w) since) (s.setWin w (countedRecord s.now h (s.win w))) := by
  simp [qualifiedEdge, counts, countedRecord, drives, State.timer, countedPosition, positionLimit]

theorem qualifiedEdge_resting {h : HallInput} {since : Nat} (rests : (s.win w).run = .IDLE ∨ (s.win w).run = .QUEUED) :
    qualifiedEdge w h since s = s.setWin w { s.win w with lastHall := some h, hasEdge := true } := by
  rcases rests with e | e <;> simp [qualifiedEdge, counts, driven, e]

/-- Without the monitor a counted edge stops a run at its target and a reversal at its end (R51, R60). -/
theorem edgeEffects_unmonitored {T : Nat} (off : (s.win w).mon.phase = .OFF) :
    edgeEffects w T s = if targetReached (s.win w) then stopAtTarget w s
      else if reversalOver (s.win w) then stopWindow w none s else s := by
  simp [edgeEffects, off]

theorem stopAtTarget_eq (w : Win) (s : State) :
    stopAtTarget w s = s.setWin w { stopRecord s.now none (s.win w) with target := none } := by
  simp [stopAtTarget, stopWindow]

theorem endMonitor_off {m : Monitor} (off : m.phase = .OFF) : endMonitor m = m := by simp [endMonitor, off]

theorem endMonitor_phase (m : Monitor) : (endMonitor m).phase = .OFF := by
  unfold endMonitor
  split
  · assumption
  · rfl

theorem qualifies_iff {h : HallInput} {since : Nat} : qualifies s w h since = true ↔
    s.pins.sensorOk.get w = true ∧ (s.win w).lastHall ≠ some h ∧ ((s.win w).hasEdge = false ∨ 100 ≤ since) := by
  simp [qualifies, and_assoc]

theorem exec_qualifiedEdge {h : HallInput} {since : Nat} (ho : operating s) : exec (.qualifiedEdge w h since) s =
    .next (finish (if qualifies s w h since then qualifiedEdge w h since s else s)) :=
  congrArg Host.Outcome.next (event_operating ho _)

end

/-- Settles O25: without the monitor an edge of a driven window leads to its count, and from there to the stop at the target
or at the end of the reversal alone (`edgeEffects_unmonitored`). -/
theorem qualifiedEdgeCountsPosition : Obligations.QualifiedEdgeCountsPosition := by
  intro w h since x s ho hc r seen ok P counted stops reached atEnd
  have position : countedPosition r = P := by
    show (match r.dir with | .UP => r.P - 1 | .DOWN => min (r.P + 1) (positionLimit r)) = P
    simp only [P, positionLimit]
    cases r.dir <;> cases r.normalized <;> cases r.profile.L <;> rfl
  let q := countedRecord s.now h r
  have driving (can : ok) (drives : driven r.run = true) (off : r.mon.phase = .OFF) :
      exec (.qualifiedEdge w h since) s = .next (finish (if targetReached q then stopAtTarget w (s.setWin w q)
        else if reversalOver q then stopWindow w none (s.setWin w q) else s.setWin w q)) := by
    rw [exec_qualifiedEdge ho, if_pos (qualifies_iff.mpr can), qualifiedEdge_driven drives,
      edgeEffects_unmonitored (by rw [win_setWin_same]; exact off), win_setWin_same]
  have stays : finish (s.setWin w q) = s.setWin w { seen with P := P, stallT := some ⟨s.now, 128⟩ } := by
    rw [finish_setWin hc, ← position]
    rfl
  have ends (off : r.mon.phase = .OFF) (target : Option Nat) :
      finish (s.setWin w { stopRecord s.now none q with target := target }) = s.setWin w { seen with
        P := P, run := .BRAKING, cont := none, target := target, stallT := none, brakeT := some ⟨s.now, 100⟩,
        heatT := none, clearT := none, coolT := if 0 < r.H then some ⟨s.now, 2000⟩ else none,
        tally := if r.mode = .FORCED then 0 else r.tally, tallyT := if r.mode = .FORCED then none else r.tallyT } := by
    have mon : endMonitor q.mon = r.mon := endMonitor_off off
    rw [finish_setWin hc, stopRecord, mon, ← position]
    rfl
  refine ⟨fun no => ?_, fun can rests => ?_, fun can runs off => ?_, fun can reverses off => ?_⟩
  · rw [exec_qualifiedEdge ho, if_neg (fun e => no (qualifies_iff.mp e)), finish_calm hc]
  · rw [exec_qualifiedEdge ho, if_pos (qualifies_iff.mpr can), qualifiedEdge_resting rests, finish_setWin hc]
  · have drives := driving can (by rw [runs]; rfl) off
    have noEnd : reversalOver q = false := by simp [reversalOver, q, countedRecord, runs]
    rw [noEnd] at drives
    refine ⟨fun free => ?_, fun aims => ?_⟩
    · have noTarget : targetReached q = false := by simp [targetReached, q, countedRecord, free]
      rw [noTarget] at drives
      exact drives.trans (congrArg Host.Outcome.next stays)
    · have aim : targetReached q = true ↔ reached := by
        cases e : r.dir <;> simp [targetReached, reached, q, countedRecord, runs, aims, position, e]
      refine ⟨fun there => ?_, fun away => ?_⟩
      · rw [if_pos (aim.mpr there), stopAtTarget_eq, setWin_setWin, win_setWin_same] at drives
        refine drives.trans (congrArg Host.Outcome.next ?_)
        rw [if_pos runs]
        exact ends off none
      · rw [if_neg (mt aim.mp away)] at drives
        exact drives.trans (congrArg Host.Outcome.next stays)
  · have drives := driving can (by rw [reverses]; rfl) off
    have noTarget : targetReached q = false := by simp [targetReached, q, countedRecord, reverses]
    have last : reversalOver q = true ↔ atEnd := by
      cases e : r.profile.L <;> simp [reversalOver, atEnd, q, countedRecord, reverses, position, e]
    rw [noTarget] at drives
    refine ⟨fun done => ?_, fun going => ?_⟩
    · rw [if_neg Bool.false_ne_true, if_pos (last.mpr done), stopWindow, setWin_setWin, win_setWin_same] at drives
      refine drives.trans (congrArg Host.Outcome.next ?_)
      rw [if_neg (by rw [reverses]; nofun)]
      exact ends off r.target
    · rw [if_neg Bool.false_ne_true, if_neg (mt last.mp going)] at drives
      exact drives.trans (congrArg Host.Outcome.next stays)

end Sys2Proof.Machine

/-! ### A pinch by test (R59, R61, R75): O28 -/

namespace Sys2Proof.Machine

open Sys2Proof

section
variable {s t : State} {w v : Win} {r : Window}

/-- A monitored edge that completes a pinch of a run without a target declares it (R75). -/
theorem edgeEffects_pinched {T : Nat} {m : Monitor} (record : s.win w = r)
    (seen : monitorEdge s.params r.profile r.P T s.pins.supply r.mon = m) (runs : r.run = .RUNNING)
    (watched : r.mon.phase ≠ .OFF) (free : r.target = none) (pinches : 2 ≤ m.c) :
    edgeEffects w T s =
      raise .PINCH (s.setWin w (pinchRecord s.now (testPinch r.profile r.P m) { r with mon := m })) := by
  have noTarget : targetReached r = false := by simp [targetReached, free]
  simp [edgeEffects, record, seen, runs, watched, pinched, pinches, noTarget, pinch_eq]

end

/-- Settles O28: the edge declares the pinch, whose stop keeps the drive of the window alone (`edgeEffects_pinched`). -/
theorem pinchByTestReverses : Obligations.PinchByTestReverses := by
  intro w h since k s ho hc r m qualified runs up watched free unforced commands pinches
  have position : countedPosition r = r.P - 1 := by simp [countedPosition, up]
  let q := countedRecord s.now h r
  let p := pinchRecord s.now (testPinch r.profile q.P m) { q with mon := m }
  have work : qualifiedEdge w h since s = raise .PINCH (s.setWin w p) := by
    have monitor : monitorEdge s.params q.profile q.P (edgePeriod r since) s.pins.supply q.mon = m := by
      show monitorEdge _ _ (countedPosition r) _ _ _ = m
      rw [position]
      rfl
    rw [qualifiedEdge_driven (by rw [runs]; rfl),
      edgeEffects_pinched (win_setWin_same ..) monitor runs watched free pinches, setWin_setWin]
    rfl
  have alone : WindowAlone w s (qualifiedEdge w h since s) := work ▸ (WindowAlone.setWin w p s).raise
  obtain ⟨left, record, ports⟩ := finish_windowAlone alone hc
  have win : (finish (qualifiedEdge w h since s)).win w = p := by rw [record, work]; simp
  refine ⟨finish (qualifiedEdge w h since s), ?_, fun v => left.win, left.table, left.queue, left.units, left.fobs,
    left.schedule, ?_⟩
  · rw [exec_qualifiedEdge ho, if_pos qualified]
  · rw [win]
    refine ⟨rfl, rfl, position, ?_, ?_, endMonitor_phase _, ?_, ?_, pending_raised (ports.trans (congrArg State.ports work :))⟩
    · show some (reversalOf r) = _
      simp [reversalOf, commands]
    · show min 3 ((if r.mode = .FORCED then 0 else r.tally) + 1) = _
      rw [if_neg unforced]
    · rfl
    · show some (testPinch r.profile (countedPosition r) m) = _
      rw [position]

end Sys2Proof.Machine

/-! ### Stalls (R52, R53): O26 and O27 -/

namespace Sys2Proof.Machine

open Sys2Proof

section
variable {s t : State} {w v : Win} {r : Window}

/-- A window whose profile is marked. -/
def markedRecord (r : Window) : Window := { r with mon := { r.mon with marked := true } }

theorem markProfile_eq (w : Win) (s : State) :
    ∃ x, markProfile w s = { s.setWin w (markedRecord (s.win w)) with writer := x } := by
  simp only [markProfile]
  split
  · split
    · split
      · exact ⟨_, rfl⟩
      · exact ⟨s.writer, rfl⟩
    · exact ⟨s.writer, rfl⟩
  · exact ⟨s.writer, rfl⟩

theorem askBackground_eq (w : Win) (s : State) : ∃ x, askBackground w s = { s with writer := x } := by
  unfold askBackground
  split
  · exact ⟨s.writer, rfl⟩
  · exact ⟨_, rfl⟩

/-- A window whose monitoring ends at the top, with what it has learned there (R77, R79, R80). -/
def topLearned (r : Window) : Window :=
  let off := { r.mon with phase := MonitorPhase.OFF, c := 0, scratch := emptyScratch }
  let R := learnedReferences r.profile.R r.mon.scratch
  if endsClean r.profile r.mon ∧ R ≠ r.profile.R then
    markedRecord { r with profile := { r.profile with R := R }, mon := off }
  else { r with mon := if r.mon.phase = .OFF then r.mon else off }

/-- The record of a window that has stopped at the top (R52). -/
def topRecord (now : Time) (r : Window) : Window :=
  stopRecord now none { topLearned r with
    P := 0
    normalized := true
    fault := clearStall (topLearned r).fault
    tally := if (topLearned r).normalized then 0 else (topLearned r).tally
    tallyT := if (topLearned r).normalized then none else (topLearned r).tallyT }

/-- The record of a window that has stopped at a bottom it has learned (R53, R83). -/
def travelRecord (now : Time) (r : Window) : Window :=
  stopRecord now none (markedRecord { r with
    profile := { r.profile with L := some r.P }
    fault := clearStall r.fault })

theorem learnAtTop_eq (w : Win) (s : State) :
    ∃ x, learnAtTop w s = { s.setWin w (topLearned (s.win w)) with writer := x } := by
  unfold learnAtTop topLearned
  dsimp only
  split
  · obtain ⟨x, e⟩ := markProfile_eq w (s.setWin w { s.win w with
      profile := { (s.win w).profile with R := learnedReferences (s.win w).profile.R (s.win w).mon.scratch }
      mon := { (s.win w).mon with phase := MonitorPhase.OFF, c := 0, scratch := emptyScratch } })
    rw [win_setWin_same, setWin_setWin] at e
    exact ⟨x, e⟩
  · exact ⟨s.writer, rfl⟩

theorem topReached_eq (w : Win) (s : State) :
    ∃ x, topReached w s = { s.setWin w (topRecord s.now (s.win w)) with writer := x } := by
  obtain ⟨x, e⟩ := learnAtTop_eq w s
  have record : (learnAtTop w s).win w = topLearned (s.win w) := by
    rw [e]
    exact win_setWin_same s w _
  refine ⟨x, ?_⟩
  rw [topReached, stopWindow, setWin_setWin, win_setWin_same, record, e]
  cases w <;> rfl

theorem learnTravel_eq (w : Win) (s : State) :
    ∃ x, learnTravel w s = { s.setWin w (travelRecord s.now (s.win w)) with writer := x } := by
  obtain ⟨x, marked⟩ := markProfile_eq w (s.setWin w { s.win w with
    profile := { (s.win w).profile with L := some (s.win w).P }
    fault := clearStall (s.win w).fault })
  obtain ⟨y, asked⟩ := askBackground_eq w { s.setWin w (markedRecord { s.win w with
    profile := { (s.win w).profile with L := some (s.win w).P }
    fault := clearStall (s.win w).fault }) with writer := x }
  rw [win_setWin_same, setWin_setWin] at marked
  refine ⟨y, ?_⟩
  simp only [learnTravel, marked, asked, stopWindow]
  cases w <;> rfl

theorem bottomReached_eq (w : Win) (L : Nat) (s : State) : bottomReached w L s =
    s.setWin w (stopRecord s.now none { s.win w with P := L, fault := clearStall (s.win w).fault }) := by
  rw [bottomReached, stopWindow, setWin_setWin, win_setWin_same]
  rfl

theorem stallFault_eq (w : Win) (s : State) :
    stallFault w s = raise .WINDOW_FAULT (s.setWin w (faultRecord s.now .STALL (s.win w))) := faultStop_eq w .STALL s

/-- A window event whose outcome is a new record of the window, with or without a notice (R173). -/
theorem finish_record (still : calm s) {q : Window} {x : Writer} (e : t = { s.setWin w q with writer := x }) :
    WindowAlone w s (finish t) ∧ (finish t).win w = q ∧ (finish t).ports = s.ports := by
  obtain ⟨left, record, ports⟩ := finish_windowAlone (e ▸ (WindowAlone.setWin w q s).writer (x := x)) still
  subst e
  exact ⟨left, record.trans (win_setWin_same s w q), ports⟩

theorem finish_raised (still : calm s) {k : Notice} {q : Window} (e : t = raise k (s.setWin w q)) :
    WindowAlone w s (finish t) ∧ (finish t).win w = q ∧
      ∀ p, ((finish t).port p).pending = (s.port p).pending ||| k.bit := by
  obtain ⟨left, record, ports⟩ := finish_windowAlone (e ▸ (WindowAlone.setWin w q s).raise (k := k)) still
  subst e
  exact ⟨left, record.trans (win_setWin_same s w q), pending_raised ports⟩

theorem exec_stall {x : Timer} (ho : operating s) (runs : (s.win w).stallT = some x) (due : timerDue s.now x = true) :
    exec (.stall w) s = .next (finish (stallWindow w s)) := congrArg Host.Outcome.next (expiry_due ho runs due _)

/-! ### The records of an upward stall -/

theorem topLearned_fields (r : Window) : (topLearned r).mon.phase = .OFF ∧ (topLearned r).profile.L = r.profile.L ∧
    (topLearned r).fault = r.fault := by
  unfold topLearned
  dsimp only
  split
  · exact ⟨rfl, rfl, rfl⟩
  · refine ⟨?_, rfl, rfl⟩
    show (if r.mon.phase = .OFF then r.mon else _).phase = .OFF
    split
    · assumption
    · rfl

/-- References that do not change are their own learned references (R79, R80). -/
theorem topLearned_R (r : Window) : (topLearned r).profile.R =
    if r.mon.phase ≠ .OFF ∧ r.mon.clean = true ∧ r.profile.L.isSome = true then learnedReferences r.profile.R r.mon.scratch
    else r.profile.R := by
  have clean : endsClean r.profile r.mon = true ↔ r.mon.phase ≠ .OFF ∧ r.mon.clean = true ∧ r.profile.L.isSome = true := by
    simp [endsClean, and_assoc]
  unfold topLearned
  dsimp only
  simp only [← clean]
  split
  · rename_i learns
    rw [if_pos learns.1]
    rfl
  · rename_i stays
    show r.profile.R = _
    split
    · rename_i ends
      exact (not_not.mp (fun other => stays ⟨ends, other⟩)).symm
    · rfl

theorem stallUp_alone (w : Win) (s : State) : WindowAlone w s (stallUp w s) := by
  unfold stallUp
  dsimp only
  split
  · obtain ⟨x, e⟩ := topReached_eq w s
    exact e ▸ (WindowAlone.setWin ..).writer
  · split
    · exact stallFault_eq w s ▸ (WindowAlone.setWin ..).raise
    · exact pinch_eq w _ s ▸ (WindowAlone.setWin ..).raise

theorem stallDown_alone (w : Win) (s : State) : WindowAlone w s (stallDown w s) := by
  have fault : WindowAlone w s (stallFault w s) := stallFault_eq w s ▸ (WindowAlone.setWin ..).raise
  unfold stallDown
  dsimp only
  split
  · exact .setWin ..
  · split
    · split
      · obtain ⟨x, e⟩ := learnTravel_eq w s
        exact e ▸ (WindowAlone.setWin ..).writer
      · exact fault
    · split
      · exact bottomReached_eq w _ s ▸ .setWin ..
      · exact fault

end

/-- Settles O26, by the three branches of an upward stall: the top, the fault of a FORCED run and the pinch. -/
theorem upwardStallIsTopOrPinch : Obligations.UpwardStallIsTopOrPinch := by
  intro w t s ho hc runs up timer due r
  have row : exec (.stall w) s = .next (finish (stallUp w s)) := by
    rw [exec_stall ho timer due, stallWindow, runs, up]
    rfl
  have left := (finish_windowAlone (stallUp_alone w s) hc).1
  refine ⟨_, row, fun v => left.win, left.table, left.strokes, left.queue, left.units, left.fobs, left.search, ?_⟩
  by_cases top : r.normalized = false ∨ r.P ≤ s.params.sealZone
  · have reaches : stallUp w s = topReached w s := if_pos top
    obtain ⟨x, e⟩ := topReached_eq w s
    obtain ⟨-, record, ports⟩ := finish_record hc (reaches.trans e)
    obtain ⟨phase, travel, fault⟩ := topLearned_fields r
    rw [record]
    refine ⟨rfl, rfl, rfl, endMonitor_phase _, travel, fun _ => ⟨rfl, rfl, rfl, ?_, topLearned_R r, ports⟩, ?_, ?_⟩
    · exact congrArg clearStall fault
    all_goals
      intro normalized above
      rcases top with off | within
      · exact absurd (normalized.symm.trans off) nofun
      · omega
  · have elsewhere : stallUp w s =
        if r.mode = .FORCED then stallFault w s else pinch w (stallPinch r.profile r.P r.mon) s := if_neg top
    by_cases forced : r.mode = .FORCED
    · obtain ⟨-, record, pending⟩ := finish_raised hc (elsewhere.trans ((if_pos forced).trans (stallFault_eq w s)))
      rw [record]
      exact ⟨rfl, rfl, rfl, endMonitor_phase _, rfl, fun k => absurd k top, fun _ _ k => absurd forced k,
        fun _ _ _ => ⟨rfl, rfl, rfl, pending⟩⟩
    · obtain ⟨-, record, pending⟩ := finish_raised hc (elsewhere.trans ((if_neg forced).trans (pinch_eq w _ s)))
      rw [record]
      refine ⟨rfl, rfl, rfl, endMonitor_phase _, rfl, fun k => absurd k top, fun _ _ _ => ⟨rfl, ?_, rfl, rfl, pending⟩,
        fun _ _ k => absurd k forced⟩
      show min 3 ((if r.mode = .FORCED then 0 else r.tally) + 1) = _
      rw [if_neg forced]

/-- Settles O27, by the branches of a downward stall: a stop, the learned travel, the bottom, the fault. -/
theorem downwardStallIsBottomOrFault : Obligations.DownwardStallIsBottomOrFault := by
  intro w t L s ho hc drives down timer due r
  have row : exec (.stall w) s = .next (finish (stallDown w s)) := by
    rw [exec_stall ho timer due, stallWindow, if_pos drives, down]
  have left := (finish_windowAlone (stallDown_alone w s) hc).1
  refine ⟨_, row, fun v => left.win, left.table, left.queue, left.units, ?_⟩
  have faulted (stalls : stallDown w s = stallFault w s) := finish_raised hc (stalls.trans (stallFault_eq w s))
  cases on : r.normalized with
  | false =>
    have stops : stallDown w s = stopWindow w none s := if_pos on
    obtain ⟨-, record, ports⟩ := finish_record (x := s.writer) hc stops
    rw [record]
    exact ⟨rfl, rfl, on, rfl, fun _ => ⟨rfl, rfl, ports⟩, nofun, nofun, nofun, nofun⟩
  | true =>
    have normalized : r.normalized ≠ false := by rw [on]; nofun
    cases known : r.profile.L with
    | none =>
      have learns : stallDown w s = if 300 ≤ r.P then learnTravel w s else stallFault w s := by
        rw [stallDown, if_neg normalized, known]
      by_cases far : 300 ≤ r.P
      · obtain ⟨x, e⟩ := learnTravel_eq w s
        obtain ⟨-, record, ports⟩ := finish_record hc ((learns.trans (if_pos far)).trans e)
        rw [record]
        refine ⟨rfl, rfl, on, rfl, nofun, fun _ _ _ => ⟨rfl, rfl, ?_, ports⟩, fun _ _ near => absurd far (by omega), nofun,
          nofun⟩
        show (endMonitor _).marked = true
        unfold endMonitor
        split <;> rfl
      · obtain ⟨-, record, pending⟩ := faulted (learns.trans (if_neg far))
        rw [record]
        exact ⟨rfl, rfl, on, rfl, nofun, fun _ _ k => absurd k far, fun _ _ _ => ⟨known, rfl, pending⟩, nofun, nofun⟩
    | some travel =>
      have ends : stallDown w s = if travel - travel / 8 ≤ r.P then bottomReached w travel s else stallFault w s := by
        rw [stallDown, if_neg normalized, known]
      by_cases near : travel - travel / 8 ≤ r.P
      · obtain ⟨-, record, ports⟩ := finish_record (x := s.writer) hc
          ((ends.trans (if_pos near)).trans (bottomReached_eq w travel s))
        rw [record]
        refine ⟨rfl, rfl, on, rfl, nofun, nofun, nofun, fun _ e _ => ?_, fun _ e k => ?_⟩
        · cases e
          exact ⟨rfl, known, rfl, ports⟩
        · cases e
          omega
      · obtain ⟨-, record, pending⟩ := faulted (ends.trans (if_neg near))
        rw [record]
        refine ⟨rfl, rfl, on, rfl, nofun, nofun, nofun, fun _ e k => ?_, fun _ _ _ => ⟨rfl, rfl, pending⟩⟩
        cases e
        exact absurd k near

end Sys2Proof.Machine

/-! ### Braking, window timers and lines (R48, R54 to R58, R61): O30 to O33 -/

namespace Sys2Proof.Machine

open Sys2Proof

section
variable {s t : State} {w v : Win} {r : Window}

/-- A drive that starts with its comparator inactive (R49, R55). -/
theorem startDrive_free {run : RunState} {mode : RunMode} {dir : Dir} {target : Option Nat} {cmd : Option Commander}
    (free : s.pins.ocWin.get w = false) : startDrive w run mode dir target cmd s =
      s.setWin w (driveRecord s.now s.params.blanking run mode dir target cmd (s.win w)) := by
  simp [startDrive, free]

theorem startReversal_free {c : Continuation} (free : s.pins.ocWin.get w = false) : startReversal w c s =
    s.setWin w (driveRecord s.now s.params.blanking .REVERSING c.mode c.dir none (some c.commander)
      { s.win w with revStart := (s.win w).P, revDistance := s.params.reverseDistance }) := by
  let q : Window := { s.win w with revStart := (s.win w).P, revDistance := s.params.reverseDistance }
  have started : startReversal w c s =
      startDrive w .REVERSING c.mode c.dir none (some c.commander) (s.setWin w q) := rfl
  rw [started, startDrive_free (s := s.setWin w q) free, setWin_setWin, win_setWin_same]
  rfl

/-- A window that has become IDLE (R48). -/
def idleRecord (r : Window) : Window :=
  { r with run := .IDLE, job := none, cont := none, target := none, commander := none, brakeT := none }

theorem idleWindow_stopped (runs : (s.win w).run ≠ .IDLE) :
    idleWindow w s = raise .WINDOW_STOPPED (s.setWin w (idleRecord (s.win w))) := if_neg runs

/-- A braking ends with no follow-up job: the window is IDLE, its job and units go (R48, R95). -/
theorem endBraking_idle {id : Nat} (brakes : (s.win w).run = .BRAKING) (job : (s.win w).job = some id)
    (empty : s.queue = []) : endBraking w s = trigger (raise .WINDOW_STOPPED ({ s with
      admitted := s.admitted.filter (fun j => j.id ≠ id)
      units := s.units - 4 }.setWin w (idleRecord (s.win w)))) := by
  simp only [endBraking, job]
  rw [queuedWindow_nil (by exact empty)]
  exact idleWindow_stopped (by rw [win_trigger]; exact fun e => nomatch brakes.symm.trans e)

/-! ### The thermal hold (R56, R57) -/

theorem testHold_still (hold : ¬((s.win w).held = false ∧ s.params.heatLimit ≤ (s.win w).H))
    (clear : ¬((s.win w).held = true ∧ (s.win w).H + 150 ≤ s.params.heatLimit)) : testHold w s = s := by
  rw [testHold, if_neg hold, if_neg clear]

/-- A driven window as its thermal hold is set: a run brakes, a reversal goes on (R57). -/
def hotRecord (now : Time) (r : Window) : Window :=
  let q := { r with held := true, fault := WindowFault.THERMAL }
  if r.run = .RUNNING then stopRecord now none q else q

theorem thermalHold_driven (drives : (s.win w).run = .RUNNING ∨ (s.win w).run = .REVERSING) (empty : s.queue = []) :
    thermalHold w s = raise .WINDOW_FAULT (s.setWin w (hotRecord s.now (s.win w))) := by
  have stays {u : State} (e : u.queue = s.queue) : removeWindowJob w u = u :=
    removeWindowJob_none (queuedWindow_nil (e.trans empty) w)
  simp only [thermalHold, setWindowFault, setWin_setWin, win_setWin_same, win_raise, hotRecord]
  rcases drives with runs | reverses
  · rw [if_pos runs, if_pos runs]
    refine (stays (by rfl)).trans ?_
    rw [stopWindow, win_raise, win_setWin_same, ← raise_setWin, setWin_setWin]
    rfl
  · have rests : (s.win w).run ≠ .RUNNING := by rw [reverses]; nofun
    rw [if_neg rests, if_neg rests, if_neg (fun k => nomatch k.1.symm.trans reverses)]
    exact stays (by rfl)

end

/-- Settles O30: with no follow-up job the braking ends IDLE, and the trigger of its units finds nothing to do; a reversal
starts its drive. -/
theorem brakingEndsIdleOrReversing : Obligations.BrakingEndsIdleOrReversing := by
  intro w t c id s ho hc brakes timer due job r
  have row : exec (.brakingTimerExpiry w) s = .next (finish (brakingOver w s)) :=
    congrArg Host.Outcome.next (expiry_due ho timer due _)
  refine ⟨fun alone empty closed => ?_, fun follows reversal free => ?_⟩
  · have ends : brakingOver w s = endBraking w s := by rw [brakingOver, show (s.win w).cont = none from alone]
    rw [row, ends, endBraking_idle brakes job empty]
    exact congrArg Host.Outcome.next (finish_trigger_empty empty closed (calm_congr rfl rfl rfl rfl rfl hc))
  · have starts : brakingOver w s = startReversal w c s := by
      rw [brakingOver, show (s.win w).cont = some c from follows]
      exact if_pos reversal
    rw [row, starts, startReversal_free free, finish_setWin hc]
    rfl

/-- Settles O31: each work is a change of the window's record, and heat and cooling stay clear of the thermal hold. -/
theorem windowTimersCount : Obligations.WindowTimersCount := by
  intro w t s ho hc due r
  have row {tm : State → Option Timer} {work : State → State} {q : Window} (runs : tm s = some t)
      (does : work s = s.setWin w q) : expiry tm work s = s.setWin w q := by
    rw [expiry_due ho runs due, does, finish_setWin hc]
  refine ⟨fun runs free cold => congrArg Host.Outcome.next (row runs (testHold_still ?_ ?_)),
    fun runs free cool warm => congrArg Host.Outcome.next (row runs (testHold_still ?_ ?_)),
    fun runs => congrArg Host.Outcome.next (row runs rfl), fun runs => congrArg Host.Outcome.next (row runs rfl)⟩
  all_goals rw [win_setWin_same]
  · exact fun k => absurd k.2 (Nat.not_le.mpr cold)
  · exact fun k => nomatch free.symm.trans k.1
  · exact fun k => absurd k.2 (Nat.not_le.mpr (by show r.H - 1 < s.params.heatLimit; omega))
  · exact fun k => nomatch free.symm.trans k.1

/-- Settles O32: the hold is set and cleared by the test that follows the change of H; its clearing calls for an attempt,
which finds nothing to do. -/
theorem thermalHoldSetsAndClears : Obligations.ThermalHoldSetsAndClears := by
  intro w t s ho hc due empty closed r
  refine ⟨fun runs free hot drives => ?_, fun runs held cool => ?_⟩
  · let q := { r with H := min 900 (r.H + 1), heatT := some (s.timer heatingSpan) }
    have work : heatWork w s = raise .WINDOW_FAULT (s.setWin w (hotRecord s.now q)) := by
      have sets : testHold w (s.setWin w q) = thermalHold w (s.setWin w q) := by
        rw [testHold, win_setWin_same]
        exact if_pos ⟨free, hot⟩
      have driving : ((s.setWin w q).win w).run = .RUNNING ∨ ((s.setWin w q).win w).run = .REVERSING := by
        rw [win_setWin_same]
        exact drives
      rw [heatWork, sets, thermalHold_driven driving empty, setWin_setWin, win_setWin_same]
      rfl
    obtain ⟨left, record, pending⟩ := finish_raised hc work
    refine ⟨finish (heatWork w s), congrArg Host.Outcome.next (expiry_due ho runs due _), ?_⟩
    rw [record]
    rcases drives with e | e
    · have hot : hotRecord s.now q = stopRecord s.now none { q with held := true, fault := WindowFault.THERMAL } := if_pos e
      rw [hot, if_pos e]
      exact ⟨rfl, rfl, rfl, rfl, rfl, fun v => left.win, left.units, left.table, pending⟩
    · have rests : r.run ≠ .RUNNING := by rw [e]; nofun
      have hot : hotRecord s.now q = { q with held := true, fault := WindowFault.THERMAL } := if_neg rests
      rw [hot, if_neg rests]
      exact ⟨rfl, rfl, rfl, e, rfl, fun v => left.win, left.units, left.table, pending⟩
  · have stays : r.held ≠ false := by rw [held]; nofun
    let q := { r with H := r.H - 1, coolT := if 1 < r.H then some (s.timer coolingSpan) else none }
    have clears : coolWork w s = thermalClear w (s.setWin w q) := by
      rw [coolWork, testHold, win_setWin_same, if_neg (fun k => stays k.1)]
      exact if_pos ⟨held, cool⟩
    refine congrArg Host.Outcome.next ((expiry_due ho runs due _).trans ?_)
    rw [clears, thermalClear, setWin_setWin, win_setWin_same]
    exact finish_trigger_empty empty closed (calm_setWin hc w _)

/-! ### Lines (R54, R55, R58) -/

section
variable {s t : State} {w v : Win} {r : Window}

theorem needsSupply_iff {mode : RunMode} {dir : Dir} :
    needsSupply mode dir = true ↔ dir = .UP ∧ (mode = .AUTO ∨ mode = .COMFORT) := by
  simp [needsSupply]

/-- A window as the supply falls below 9000 mV (R58). -/
def supplyRecord (now : Time) (r : Window) : Window :=
  if r.run = .RUNNING ∧ needsSupply r.mode r.dir = true then stopRecord now none r else r

theorem undervoltageStop_eq (w : Win) (s : State) : undervoltageStop w s = s.setWin w (supplyRecord s.now (s.win w)) := by
  unfold undervoltageStop supplyRecord
  dsimp only
  split
  · rfl
  · exact (setWin_win s w).symm

/-- The windows as the supply falls below 9000 mV. -/
def supplyWindows (now : Time) (v : PerWin Window) : PerWin Window :=
  ⟨supplyRecord now v.wfl, supplyRecord now v.wfr, supplyRecord now v.wrl, supplyRecord now v.wrr⟩

/-- A fold of an operation on the windows alone. -/
theorem foldl_windows {op : State → Win → State} {f : Time → PerWin Window → Win → PerWin Window}
    (does : ∀ u w, op u w = { u with windows := f u.now u.windows w }) (ws : List Win) (s : State) :
    ws.foldl op s = { s with windows := ws.foldl (f s.now) s.windows } := by
  induction ws generalizing s with
  | nil => rfl
  | cons w ws ih => rw [List.foldl, does, ih]; rfl

theorem undervoltageStops_eq (s : State) : Win.all.foldl (fun t w => undervoltageStop w t) s =
    { s with windows := supplyWindows s.now s.windows } :=
  foldl_windows (f := fun now v w => v.set w (supplyRecord now (v.get w))) (fun u w => undervoltageStop_eq w u) Win.all s

theorem get_supplyWindows (now : Time) (v : PerWin Window) (w : Win) :
    (supplyWindows now v).get w = supplyRecord now (v.get w) := by cases w <;> rfl

theorem removeUnfit_none (none : s.queuedWindow w = none) : removeUnfit w s = s := by simp [removeUnfit, none]

/-- A window that has lost its sensor supply (R54). -/
def sensorlessRecord (now : Time) (r : Window) : Window :=
  { haltRecord now r with normalized := false, fault := .SENSOR_LOST }

theorem sensorLost_eq (none : s.queuedWindow w = none) :
    sensorLost w s = raise .WINDOW_FAULT (s.setWin w (sensorlessRecord s.now (s.win w))) := by
  unfold sensorLost
  refine (removeUnfit_none (by rw [haltWindow_eq]; exact none)).trans ?_
  rw [haltWindow_eq, setWindowFault, setWin_setWin, win_setWin_same, win_setWin_same, setWin_setWin]
  rfl

/-- The event of a line that changes. -/
theorem exec_line {changed : Bool} {level work : State → State} (ho : operating (level s)) (change : changed = true) :
    lineEvent changed level work s = finish (work (level s)) := by
  rw [lineEvent_changed change, event_operating ho]

end

/-- Settles O33, line by line: the work of each changes window records alone. -/
theorem windowLinesStopTheirWindows : Obligations.WindowLinesStopTheirWindows := by
  intro w mv s ho hc r
  have oc (off : s.pins.ocWin.get w = false) : (s.pins.ocWin.get w != true) = true := by rw [off]; rfl
  refine ⟨fun off drives => ?_, fun off rests => ?_, fun on free => ?_, fun off => ?_, fun low => ?_,
    fun high most before => ?_⟩
  · let u : State := { s with pins := { s.pins with ocWin := s.pins.ocWin.set w true } }
    have work : (if true && driven (u.win w).run then overcurrentWindow w u else u) =
        raise .WINDOW_FAULT (u.setWin w (faultRecord u.now .OVERCURRENT (u.win w))) := by
      rw [← faultStop_eq]
      exact if_pos drives
    obtain ⟨left, record, pending⟩ := finish_raised (s := u) (calm_setPins hc _) work
    refine ⟨_, congrArg Host.Outcome.next (exec_line ho (oc off)), ?_⟩
    rw [record]
    exact ⟨rfl, rfl, rfl, rfl, fun v => left.win, left.units, left.pins, pending⟩
  · refine congrArg Host.Outcome.next ((exec_line ho (oc off)).trans ?_)
    refine Eq.trans (congrArg finish (if_neg ?_)) (finish_calm (calm_setPins hc _))
    rw [Bool.true_and]
    exact fun e => nomatch rests.symm.trans e
  · let u : State := { s with pins := { s.pins with sensorOk := s.pins.sensorOk.set w false } }
    obtain ⟨left, record, pending⟩ := finish_raised (s := u) (calm_setPins hc _) (sensorLost_eq (s := u) free)
    refine ⟨_, congrArg Host.Outcome.next (exec_line ho (by rw [on]; rfl)), ?_⟩
    have halted : haltRecord u.now r = if driven r.run then stopRecord u.now none r
        else if r.run = .BRAKING then { r with cont := none } else r := rfl
    obtain ⟨P, profile⟩ : (haltRecord u.now r).P = r.P ∧ (haltRecord u.now r).profile = r.profile :=
      ⟨(halted_haltRecord u.now r).P, (halted_haltRecord u.now r).profile⟩
    refine ⟨congrArg Window.normalized record, congrArg Window.fault record, (congrArg Window.P record).trans P,
      (congrArg Window.profile record).trans profile, (congrArg Window.run record).trans ?_,
      (congrArg Window.cont record).trans ?_, fun v => left.win, left.units, pending⟩
    · show (haltRecord u.now r).run = _
      rw [halted]
      split
      · rfl
      · split <;> rfl
    · show (haltRecord u.now r).cont = _
      rw [halted]
      split
      · rw [if_pos (.inl ‹_›)]
        rfl
      · split <;> rename_i drives brakes <;> simp [drives, brakes]
  · exact congrArg Host.Outcome.next ((exec_line ho (by rw [off]; rfl)).trans (finish_setWin (calm_setPins hc _) w _))
  · let u : State := { s with pins := { s.pins with supply := mv } }
    have sample : min mv 24000 = mv := by omega
    have work : supplyWork s.pins.supply u = { u with windows := supplyWindows u.now u.windows } :=
      Eq.trans (if_pos (decide_eq_true low)) (undervoltageStops_eq u)
    have ends : finish (supplyWork s.pins.supply u) = supplyWork s.pins.supply u := by
      rw [work]
      exact finish_calm (calm_congr rfl rfl rfl rfl rfl hc)
    refine ⟨supplyWork s.pins.supply u, ?_, congrArg State.pins work, fun v => ?_⟩
    · refine congrArg Host.Outcome.next ((event_operating (by exact ho) _).trans ?_)
      rw [sample]
      exact ends
    · rw [State.win, work]
      refine (get_supplyWindows ..).trans ?_
      simp only [supplyRecord, needsSupply_iff]
      rfl
  · let u : State := { s with pins := { s.pins with supply := mv } }
    have sample : min mv 24000 = mv := by omega
    have enough : lowSupply u = false := decide_eq_false (Nat.not_lt.mpr high)
    have work : supplyWork s.pins.supply u = u := by
      rw [supplyWork, if_neg (by rw [enough]; nofun),
        if_neg (fun k => absurd k.1 (Nat.not_lt.mpr before))]
    refine congrArg Host.Outcome.next ((event_operating (by exact ho) _).trans ?_)
    rw [sample]
    exact (congrArg finish work).trans (finish_calm (calm_setPins hc _))

end Sys2Proof.Machine

/-! ## A window job that runs at once (R45, R46, R49, R95 to R100)

A request for an IDLE window forms a job; with the queue empty, the crash slot closed and 4 units free the attempt that ends
the event admits it. O22, O24 and O38 share this. -/

namespace Sys2Proof.Machine

open Sys2Proof

section
variable {s t : State} {w v : Win} {r : Window} {k : WindowTask} {p : Priority}

/-- The job of a window request, as it is formed. -/
def windowJob (k : WindowTask) (p : Priority) (s : State) : Job where
  id := s.newId
  origin := k.commander.origin
  targets := .window k
  priority := p
  enqueued := s.reading
  blocking := false
  shed := false
  cost := 0

/-- An IDLE window as its job enters the queue (R45). -/
def queuedRecord (k : WindowTask) (s : State) : Window :=
  { s.win k.win with run := .QUEUED, mode := k.mode, job := some s.newId, commander := some k.commander }

/-- A window job waits alone in the queue, and no attempt is due. -/
def waiting (k : WindowTask) (p : Priority) (s : State) : State :=
  { s with queue := [windowJob k p s], nextId := succId s.newId }.setWin k.win (queuedRecord k s)

/-- The record of a window that a fresh job runs (R49, R100). -/
def runRecord (k : WindowTask) (s : State) : Window :=
  driveRecord s.now s.params.blanking .RUNNING k.mode (taskDir k s) k.target (some k.commander)
    { s.win k.win with job := some s.newId }

/-- A fresh window job has been admitted and its run has started. -/
def started (k : WindowTask) (p : Priority) (s : State) : State :=
  { s with
    nearFull := false
    nextId := succId s.newId
    admitted := s.admitted ++ [{ windowJob k p s with cost := 4 }]
    units := s.units + 4 }.setWin k.win (runRecord k s)

/-- A state in which a request for an IDLE window is admitted at once, where it meets R44. -/
structure Vacant (w : Win) (s : State) : Prop where
  idle : (s.win w).run = .IDLE
  empty : s.queue = []
  closed : s.slot.isOpen = false
  free : s.pins.ocWin.get w = false
  room : s.units + 4 ≤ s.params.driveBudget

theorem fits_record {mode : RunMode} {dir : Dir} {target : Option Nat} (held : (t.win w).held = (s.win w).held)
    (normalized : (t.win w).normalized = (s.win w).normalized) (profile : (t.win w).profile = (s.win w).profile)
    (pins : t.pins = s.pins) (params : t.params = s.params) (crash : t.crash = s.crash) :
    fits mode dir target w t = fits mode dir target w s := by
  simp only [fits, meetsHard, State.learned, lowSupply, held, normalized, profile, pins, params, crash]
  rfl

theorem fits_of_hard {mode : RunMode} {dir : Dir} {target : Option Nat} (hard : meetsHard mode dir target w s = true)
    (supply : (needsSupply mode dir && lowSupply s) = false) : fits mode dir target w s = .FIT := by
  rw [fits, if_pos hard, supply]
  rfl

theorem newWindowJob_vacant (h : Vacant k.win s) : newWindowJob k p s = (.job s.newId, trigger (waiting k p s)) := by
  have room : s.queueFull = false := by simp [State.queueFull, h.empty, queueCapacity]
  have young : decide (blockingAge ≤ ageAt s.now s.reading) = false := by rw [ageAt_reading]; decide
  have entered : enterQueue (windowJob k p s) s.tookId =
      trigger { s with queue := [windowJob k p s], nextId := succId s.newId } := by
    rw [enterQueue_nil (s := s.tookId) h.empty]
    show trigger { s.tookId with queue := [{ windowJob k p s with
      blocking := false || decide (blockingAge ≤ ageAt s.now s.reading) }] } = _
    rw [young]
    rfl
  have formed : newWindowJob k p s =
      let u := enterQueue (windowJob k p s) s.tookId
      let r := u.win k.win
      if r.run = .IDLE then
        (.job s.newId, u.setWin k.win { r with
          run := .QUEUED
          mode := k.mode
          job := some s.newId
          commander := some k.commander })
      else (.job s.newId, u) := if_neg (by rw [room]; nofun)
  rw [formed, entered]
  exact if_pos h.idle

theorem newWindowJob_full (full : s.queue.length = 16) : newWindowJob k p s = (.full, s) :=
  if_pos (decide_eq_true full.ge)

/-- The admission of the job that waits alone. -/
theorem admitWindow_waiting (h : Vacant k.win s) :
    admitWindow (windowJob k p s) k (waiting k p s) = started k p s := by
  have left : takeFromQueue s.newId (waiting k p s) = { waiting k p s with queue := s.queue, nearFull := false } := by
    have queue : (waiting k p s).queue = [windowJob k p s] := rfl
    have none : (waiting k p s).queue.filter (fun j => j.id ≠ s.newId) = [] := by
      rw [queue]
      exact List.filter_eq_nil_iff.mpr (fun j hj => by simp [List.mem_singleton.mp hj, windowJob])
    rw [takeFromQueue, none, setQueue_fall (by simp [queue]) (by simp), h.empty]
  have took : tookWindow (windowJob k p s) (waiting k p s) = ({ s with
      nearFull := false
      nextId := succId s.newId
      admitted := s.admitted ++ [{ windowJob k p s with cost := 4 }]
      units := s.units + 4 } : State).setWin k.win (queuedRecord k s) := by
    unfold tookWindow
    rw [show (windowJob k p s).id = s.newId from rfl, left]
    rfl
  have place : taskDir k (tookWindow (windowJob k p s) (waiting k p s)) = taskDir k s := by
    unfold taskDir
    rw [took, win_setWin_same]
    rfl
  rw [admitWindow_eq, place, took, startDrive_free (by exact h.free), setWin_setWin, setWin_setWin, win_setWin_same,
    win_setWin_same]
  rfl

theorem visit_waiting (h : Vacant k.win s) (fit : fits k.mode (taskDir k s) k.target k.win s = .FIT)
    (away : atGoal k s = false) : visit (windowJob k p s) (waiting k p s) = .passed (started k p s) := by
  have record : (waiting k p s).win k.win = queuedRecord k s := win_setWin_same ..
  have place : taskDir k (waiting k p s) = taskDir k s := by
    unfold taskDir
    rw [record]
    rfl
  have meets : fits k.mode (taskDir k (waiting k p s)) k.target k.win (waiting k p s) = .FIT := by
    rw [place, ← fit]
    refine fits_record ?_ ?_ ?_ rfl rfl rfl <;> rw [record] <;> rfl
  have rests : busy ((waiting k p s).win k.win).run = false := by rw [record]; rfl
  have aims : atGoal k (waiting k p s) = false := by
    rw [← away, atGoal, record]
    rfl
  have room : unitsFree 4 (waiting k p s) = true := by
    simp only [unitsFree, Bool.or_eq_true, decide_eq_true_eq]
    exact .inr h.room
  unfold visit
  show visitWindow (windowJob k p s) k (waiting k p s) = _
  unfold visitWindow
  rw [meets]
  dsimp only
  rw [rests, aims, room, admitWindow_waiting h]
  rfl

/-- The event that forms the job admits it. -/
theorem finish_waiting (still : calm s) (h : Vacant k.win s) (fit : fits k.mode (taskDir k s) k.target k.win s = .FIT)
    (away : atGoal k s = false) : finish (trigger (waiting k p s)) = started k p s := by
  have queue : (waiting k p s).queue = [windowJob k p s] := rfl
  have scanned : scanQueue (waiting k p s) = started k p s := by
    have order : scanOrder [windowJob k p s] = [s.newId] := by
      unfold scanOrder
      cases p <;> rfl
    have found : [windowJob k p s].find? (fun j => j.id = s.newId) = some (windowJob k p s) := by simp [windowJob]
    rw [scanQueue, queue, order, scanJobs, queue, found]
    dsimp only
    rw [visit_waiting h fit away]
    rfl
  have due : (waiting k p s).attemptDue = false := still.1
  have closed : (waiting k p s).slot.isOpen = false := h.closed
  have tried : attempt (waiting k p s) = started k p s := by
    unfold attempt
    rw [closed]
    exact scanned
  have stands : closeDue (trigger (waiting k p s)) = trigger (waiting k p s) := if_neg (by
    rw [show (trigger (waiting k p s)).slot.isOpen = false from closed]
    nofun)
  have settled : settle (trigger (waiting k p s)) = started k p s := by
    rw [settle, stands, settleFuel, if_pos (show (trigger (waiting k p s)).attemptDue = true from rfl),
      takeTriggers_trigger due, tried]
    exact settleFuel_still _ (s := started k p s) still.1
  rw [finish, settled]
  exact pump_steady (s := started k p s) (calm_congr (s := s) rfl rfl rfl rfl rfl still).2.2

/-- A request for a vacant window that meets R44: the job's id, and the run once the event has ended. -/
theorem requestWindow_vacant (still : calm s) (h : Vacant k.win s)
    (fit : fits k.mode (taskDir k s) k.target k.win s = .FIT) (away : atGoal k s = false) :
    requestWindow k p s = (.job s.newId, trigger (waiting k p s)) ∧
      finish (trigger (waiting k p s)) = started k p s := by
  refine ⟨?_, finish_waiting still h fit away⟩
  rw [requestWindow, h.idle]
  exact newWindowJob_vacant h

end

/-- Settles O22: the press is a MANUAL request for a vacant window. -/
theorem switchPressRunsItsWindow : Obligations.SwitchPressRunsItsWindow := by
  intro sw up s ho hc neutral free w r st cmd d idle tally cool sensed line empty closed room
  let t := switched sw st s
  let k : WindowTask := ⟨w, .MANUAL, d, none, cmd⟩
  have vacant : Vacant k.win t := ⟨idle, empty, closed, line, room⟩
  have fit : fits .MANUAL d none w t = .FIT := by
    have hard : meetsHard .MANUAL d none w t = true := by
      show (s.pins.sensorOk.get w && !r.held) = true
      rw [sensed, cool]
      rfl
    exact fits_of_hard hard (by cases up <;> rfl)
  have moves : ∀ u, switchWork sw (s.pins.switches.get sw) st u = pressSwitch sw d false (wake u) := fun u => by
    unfold switchWork
    rw [neutral]
    cases up <;> rfl
  have pressed : pressSwitch sw d false t = (requestWindow k .USER t).2 := by
    have ungated : gated sw t = false := free
    have noAuto : autoOf sw t = false := by
      unfold autoOf State.standing
      dsimp only
      rw [show (t.win (switchWindow t.params sw)).run = .IDLE from idle]
    have manual : pressMode w d false t = .MANUAL := by
      simp only [pressMode, Bool.false_eq_true, if_false]
      exact if_neg (fun e => tally e.2.1)
    unfold pressSwitch
    dsimp only
    rw [ungated, noAuto]
    show switchRequest sw (pressMode w d false t) d t = _
    rw [manual]
    exact if_pos fit
  obtain ⟨request, run⟩ := requestWindow_vacant (s := t) (p := .USER) (calm_woken hc _) vacant fit rfl
  have id : t.newId = s.newId := newId_congr rfl rfl (fun _ => rfl) rfl
  refine ⟨started k .USER t, ?_, ?_, ?_, fun v other => ?_, ?_⟩
  · rw [exec_switch ho (by rw [neutral]; cases up <;> nofun) moves, pressed, request, run]
  · show s.admitted ++ [{ windowJob k .USER t with cost := 4 }] = _
    unfold windowJob
    rw [id]
    rfl
  · show (started k .USER t).win k.win = _
    have watched : monitored .RUNNING .MANUAL d r.normalized = (up && r.normalized) := by
      cases up <;> cases r.normalized <;> rfl
    rw [started, win_setWin_same, runRecord, id, ← watched]
    rfl
  · exact win_setWin_ne _ _ other
  · unfold started
    rw [id]
    rfl

end Sys2Proof.Machine

/-! ## WINDOW_REQUEST (R46, R47): O24 -/

namespace Sys2Proof.Machine

open Sys2Proof

section
variable {s t : State} {w v : Win} {r : Window} {k : WindowTask} {p : Priority} {window action : Byte} {pos : BitVec 16}

theorem win_started (k : WindowTask) (p : Priority) (s : State) : (started k p s).win k.win = runRecord k s :=
  win_setWin_same ..

/-! ### What stands against a request (R45, R47) -/

theorem ownerRank_of_commander {c : Commander} (rests : (s.win w).run ≠ .BRAKING) (commands : (s.win w).commander = some c) :
    ownerRank w s = c.rank := by
  simp [ownerRank, State.owner, rests, commands]

theorem stopRequest_idle (idle : (s.win w).run = .IDLE) : stopRequest w s = (none, s) := by simp [stopRequest, idle]

theorem stopRequest_reversing (reverses : (s.win w).run = .REVERSING) : stopRequest w s = (some .RANK, s) := by
  simp [stopRequest, reverses]

theorem stopRequest_running {c : Commander} (runs : (s.win w).run = .RUNNING) (commands : (s.win w).commander = some c) :
    stopRequest w s = if 2 < c.rank then (some .RANK, s) else (none, stopWindow w none s) := by
  have rank := ownerRank_of_commander (w := w) (s := s) (by rw [runs]; nofun) commands
  simp [stopRequest, dropStanding, runs, rank]

/-! ### Steps 7 to 10 of R46 -/

theorem portWindowRequest_low (low : (needsSupply k.mode k.dir && lowSupply s) = true) :
    portWindowRequest k s = (Answer.refused .UNDERVOLTAGE, s) := if_pos low

theorem portWindowRequest_supplied (supply : (needsSupply k.mode k.dir && lowSupply s) = false) :
    portWindowRequest k s = match requestWindow k .USER s with
      | (.job id, t) => (Answer.accepted id, t)
      | (.rank, t) => (Answer.refused .RANK, t)
      | (.full, t) => (Answer.refused .QUEUE_FULL, t) := by
  rw [portWindowRequest, supply]
  rfl

theorem requestWindow_reversing (reverses : (s.win k.win).run = .REVERSING) : requestWindow k p s = (.rank, s) := by
  simp [requestWindow, reverses]

theorem requestWindow_full (idle : (s.win k.win).run = .IDLE) (full : s.queue.length = 16) :
    requestWindow k p s = (.full, s) := by
  rw [requestWindow, idle]
  exact newWindowJob_full full

/-! ### The checks (R46) -/

theorem windowActionOf_eq {n : Nat} (h : action.toNat = n) :
    windowActionOf action = [WindowAction.AUTO_UP, .AUTO_DOWN, .GOTO, .STOP][n]? := by
  rw [windowActionOf, h]

/-- The actions before STOP. -/
theorem windowActionOf_move (h : action.toNat < 3) : ∃ x, windowActionOf action = some x ∧ x ≠ .STOP := by
  obtain e | e | e : action.toNat = 0 ∨ action.toNat = 1 ∨ action.toNat = 2 := by omega
  · exact ⟨.AUTO_UP, windowActionOf_eq e, nofun⟩
  · exact ⟨.AUTO_DOWN, windowActionOf_eq e, nofun⟩
  · exact ⟨.GOTO, windowActionOf_eq e, nofun⟩

theorem takeWindowRequest_bad (h : 4 ≤ window.toNat ∨ 4 ≤ action.toNat) :
    takeWindowRequest window action pos s = (Answer.refused .BAD_INDEX, s) := by
  unfold takeWindowRequest
  rcases h with h | h
  · rw [show winOf window = none from List.getElem?_eq_none h]
  · rw [show windowActionOf action = none from List.getElem?_eq_none h]
    cases winOf window <;> rfl

theorem takeWindowRequest_stop (named : winOf window = some w) (h : action.toNat = 3) :
    takeWindowRequest window action pos s = stopAnswer (stopRequest w s) := by
  rw [takeWindowRequest, named, windowActionOf_eq h]
  rfl

theorem takeWindowRequest_move {x : WindowAction} (named : winOf window = some w) (acts : windowActionOf action = some x)
    (moves : x ≠ .STOP) : takeWindowRequest window action pos s =
      if s.crash.latch then (Answer.refused .CRASH_ACTIVE, s)
      else if (s.win w).held then (Answer.refused .THERMAL, s)
      else if (s.win w).normalized = false then (Answer.refused .NOT_NORMALIZED, s)
      else moveRequest w x pos.toNat s := by
  rw [takeWindowRequest, named, acts]
  exact if_neg moves

/-- The checks before the action's own have passed. -/
theorem takeWindowRequest_free {x : WindowAction} (named : winOf window = some w) (acts : windowActionOf action = some x)
    (moves : x ≠ .STOP) (clear : s.crash.latch = false) (cool : (s.win w).held = false)
    (normalized : (s.win w).normalized = true) :
    takeWindowRequest window action pos s = moveRequest w x pos.toNat s := by
  rw [takeWindowRequest_move named acts moves, clear, cool, normalized]
  rfl

theorem exec_windowRequest {x : Answer × State} (h : listening .M s)
    (e : takeWindowRequest window action pos (arrived .M s) = x) :
    exec (.windowRequest .M window action pos) s = .next (respond .M 0x21#8 x.1 (finish x.2)) := by
  rw [← e]
  exact commandRow_listening h rfl

/-- The requirements of an AUTO run but the learned condition and the travel (R44). -/
theorem meetsHard_auto {dir : Dir} {target : Option Nat} (sensed : s.pins.sensorOk.get w = true) (cool : (s.win w).held = false)
    (normalized : (s.win w).normalized = true) (clear : s.crash.latch = false) (up : dir = .UP → s.learned w = true)
    (down : dir = .DOWN → target.isSome = true → (s.win w).profile.L.isSome = true) :
    meetsHard .AUTO dir target w s = true := by
  cases dir with
  | UP => simp [meetsHard, sensed, cool, normalized, clear, up rfl]
  | DOWN => cases target <;> simp_all [meetsHard]

/-- An AUTO request of Port M that has passed its checks (R46). -/
def autoTask (w : Win) (d : Dir) (target : Option Nat) : WindowTask := ⟨w, .AUTO, d, target, ⟨.PORT_M, 2⟩⟩

theorem gotoRequest_here {x L : Nat} (here : min x L = (s.win w).P) :
    gotoRequest w x L s = (Answer.done, (stopRequest w s).2) := by
  rw [gotoRequest]
  exact if_pos here

theorem gotoRequest_up {x L : Nat} (above : min x L < (s.win w).P) : gotoRequest w x L s =
    if s.learned w = false then (Answer.refused .NOT_LEARNED, s)
    else portWindowRequest (autoTask w .UP (if min x L = 0 ∨ min x L = L then none else some (min x L))) s := by
  unfold gotoRequest
  dsimp only
  rw [if_neg (Nat.ne_of_lt above), if_pos above]
  exact if_congr (by simp) rfl rfl

theorem gotoRequest_down {x L : Nat} (below : (s.win w).P < min x L) : gotoRequest w x L s =
    portWindowRequest (autoTask w .DOWN (if min x L = 0 ∨ min x L = L then none else some (min x L))) s := by
  unfold gotoRequest
  dsimp only
  rw [if_neg (Nat.ne_of_gt below), if_neg (Nat.lt_asymm below)]
  exact if_neg (by simp)

/-- The direction of a GOTO towards its target, and that it is not there yet (R46, R99). -/
theorem goto_away {x L : Nat} {d : Dir} (way : (d = .UP ∧ x < (s.win w).P) ∨ (d = .DOWN ∧ (s.win w).P < x)) :
    let k := autoTask w d (if x = 0 ∨ x = L then none else some x)
    taskDir k s = d ∧ atGoal k s = false := by
  dsimp only
  split
  · exact ⟨rfl, by simp [atGoal, autoTask]⟩
  · rcases way with ⟨rfl, above⟩ | ⟨rfl, below⟩
    · exact ⟨if_pos above, by simpa [atGoal, autoTask] using Nat.ne_of_lt above⟩
    · exact ⟨if_neg (Nat.lt_asymm below), by simpa [atGoal, autoTask] using Nat.ne_of_gt below⟩

end

/-- Settles O24: each check is answered in the state of the arrival, and a request that passes them all is an AUTO request for
a vacant window, one turned away by R45, or the stop of R47. -/
theorem windowRequestChecksInOrder : Obligations.WindowRequestChecksInOrder := by
  intro window action pos w c L s hl hc r answered refused free brakes turnedAway goes
  let a := arrived .M s
  have still : calm a := calm_arrived hc
  have answer {x : Answer} (e : takeWindowRequest window action pos a = (x, a)) : answered x := by
    show exec _ s = _
    rw [exec_windowRequest hl e, finish_calm still]
  have stop (e : takeWindowRequest window action pos a = (Answer.done, stopWindow w none a)) : brakes := by
    show exec _ s = _
    rw [exec_windowRequest hl e, stopWindow, finish_setWin still]
    rfl
  have drives {d : Dir} {target : Option Nat}
      (route : takeWindowRequest window action pos a = portWindowRequest (autoTask w d target) a)
      (supply : (needsSupply .AUTO d && lowSupply a) = false)
      (way : taskDir (autoTask w d target) a = d ∧ atGoal (autoTask w d target) a = false)
      (hard : s.pins.sensorOk.get w = true → meetsHard .AUTO d target w a = true) : goes d target ∧ turnedAway := by
    rw [portWindowRequest_supplied supply] at route
    refine ⟨fun idle sensed line empty closed room => ?_, fun reverses => answer ?_, fun idle full => answer ?_⟩
    · obtain ⟨dir, away⟩ := way
      obtain ⟨request, run⟩ := requestWindow_vacant (s := a) (k := autoTask w d target) (p := .USER) still
        ⟨idle, empty, closed, line, room⟩ (by rw [dir]; exact fits_of_hard (hard sensed) supply) away
      have id : a.newId = s.newId := newId_congr rfl rfl (fun _ => rfl) rfl
      rw [request] at route
      refine ⟨respond .M 0x21#8 (Answer.accepted a.newId) (started (autoTask w d target) .USER a), ?_, ?_, ?_⟩
      · rw [exec_windowRequest hl route, run]
      · rw [id]
        rfl
      · have record : (respond .M 0x21#8 (Answer.accepted a.newId) (started (autoTask w d target) .USER a)).win w =
            runRecord (autoTask w d target) a := win_started (autoTask w d target) .USER a
        rw [record, runRecord, dir, id]
        exact ⟨rfl, rfl, rfl, rfl, rfl, rfl, rfl, rfl, rfl, empty, fun v other => win_setWin_ne _ _ other,
          rfl, rfl, rfl, rfl, rfl⟩
    · rw [route, requestWindow_reversing (s := a) (k := autoTask w d target) reverses]
    · rw [route, requestWindow_full (s := a) (k := autoTask w d target) idle full]
  refine ⟨fun bad => answer (takeWindowRequest_bad bad), fun named => ⟨fun moves latch => ?_, fun moves clear hot => ?_,
    fun moves clear cool off => ?_, fun ⟨clear, cool, on⟩ act => ?_, fun ⟨clear, cool, on⟩ act => ?_,
    fun ⟨clear, cool, on⟩ act => ?_, fun act => ?_⟩⟩
  · obtain ⟨x, acts, ne⟩ := windowActionOf_move moves
    exact answer ((takeWindowRequest_move named acts ne).trans (if_pos latch))
  · obtain ⟨x, acts, ne⟩ := windowActionOf_move moves
    refine answer ((takeWindowRequest_move named acts ne).trans ?_)
    rw [show a.crash.latch = false from clear, show (a.win w).held = true from hot]
    rfl
  · obtain ⟨x, acts, ne⟩ := windowActionOf_move moves
    refine answer ((takeWindowRequest_move named acts ne).trans ?_)
    rw [show a.crash.latch = false from clear, show (a.win w).held = false from cool, show (a.win w).normalized = false from off]
    rfl
  · have route : takeWindowRequest window action pos a = if a.learned w then portWindowRequest (autoTask w .UP none) a
        else (Answer.refused .NOT_LEARNED, a) := takeWindowRequest_free named (windowActionOf_eq act) nofun clear cool on
    refine ⟨fun unlearned => ?_, fun learned low => ?_, fun learned supplied => ?_⟩
    · exact answer (route.trans (if_neg (by rw [show a.learned w = false from unlearned]; nofun)))
    · exact answer ((route.trans (if_pos learned)).trans (portWindowRequest_low (decide_eq_true low)))
    · exact drives (route.trans (if_pos learned)) (decide_eq_false (Nat.not_lt.mpr supplied)) ⟨rfl, rfl⟩
        (fun sensed => meetsHard_auto sensed cool on clear (fun _ => learned) nofun)
  · exact drives (takeWindowRequest_free named (windowActionOf_eq act) nofun clear cool on) rfl ⟨rfl, rfl⟩
      (fun sensed => meetsHard_auto sensed cool on clear nofun nofun)
  · have route : takeWindowRequest window action pos a = moveRequest w .GOTO pos.toNat a :=
      takeWindowRequest_free named (windowActionOf_eq act) nofun clear cool on
    refine ⟨fun unknown => answer (route.trans ?_), fun known => ?_⟩
    · rw [moveRequest, show (a.win w).profile.L = none from unknown]
    · have goto : takeWindowRequest window action pos a = gotoRequest w pos.toNat L a := by
        rw [route, moveRequest, show (a.win w).profile.L = some L from known]
      have hard {d : Dir} {target : Option Nat} (up : d = .UP → s.learned w = true) (sensed : s.pins.sensorOk.get w = true) :
          meetsHard .AUTO d target w a = true :=
        meetsHard_auto sensed cool on clear up (fun _ _ => by rw [show (a.win w).profile.L = some L from known]; rfl)
      refine ⟨fun here => ?_, fun above => ?_, fun below => ?_⟩
      · have done := goto.trans (gotoRequest_here (s := a) here)
        refine ⟨fun rests => answer (done.trans ?_), fun runs commands => ?_⟩
        · rcases rests with idle | reverses
          · rw [stopRequest_idle (s := a) idle]
          · rw [stopRequest_reversing (s := a) reverses]
        · rw [stopRequest_running (s := a) runs commands] at done
          exact ⟨fun low => stop (done.trans (by rw [if_neg (Nat.not_lt.mpr low)])),
            fun high => answer (done.trans (by rw [if_pos high]))⟩
      · have up := goto.trans (gotoRequest_up (s := a) above)
        refine ⟨fun unlearned => ?_, fun learned low => ?_, fun learned supplied => ?_⟩
        · exact answer (up.trans (if_pos unlearned))
        · exact answer ((up.trans (if_neg (by rw [show a.learned w = true from learned]; nofun))).trans
            (portWindowRequest_low (decide_eq_true low)))
        · exact drives (up.trans (if_neg (by rw [show a.learned w = true from learned]; nofun)))
            (decide_eq_false (Nat.not_lt.mpr supplied)) (goto_away (.inl ⟨rfl, above⟩)) (hard (fun _ => learned))
      · exact drives (goto.trans (gotoRequest_down (s := a) below)) rfl (goto_away (.inr ⟨rfl, below⟩)) (hard nofun)
  · have halt : takeWindowRequest window action pos a = stopAnswer (stopRequest w a) := takeWindowRequest_stop named act
    refine ⟨fun idle => answer ?_, fun reverses => answer ?_, fun runs commands => ?_⟩
    · rw [halt, stopRequest_idle (s := a) idle]
      rfl
    · rw [halt, stopRequest_reversing (s := a) reverses]
      rfl
    · rw [stopRequest_running (s := a) runs commands] at halt
      exact ⟨fun low => stop (halt.trans (by rw [if_neg (Nat.not_lt.mpr low)]; rfl)),
        fun high => answer (halt.trans (by rw [if_pos high]; rfl))⟩

end Sys2Proof.Machine

/-! ## The candidate and the hold (R117, R128, R129): O38 -/

namespace Sys2Proof.Machine

open Sys2Proof

section
variable {s t : State} {w v : Win} {r : Window} {j : Job} {k : WindowTask}

/-- A slot that changes with its commit kept leaves the write order (R178). -/
theorem calm_setFob {i : Fin 8} {x : FobSlot} (h : calm s) (commit : x.commitPending = (s.fob i).commitPending) :
    calm (s.setFob i x) := by
  obtain ⟨due, steady, store⟩ := h
  have same : nextCommit (s.setFob i x) = nextCommit s := by
    unfold nextCommit
    congr 1
    funext n
    rcases eq_or_ne n i with rfl | other
    · rw [fob_setFob_same, commit]
    · rw [fob_setFob_ne _ _ other]
  refine ⟨due, steady, ?_⟩
  unfold storeSteady
  rw [same]
  exact store

/-! ### The end of comfort in one window (R129) -/

/-- A window whose comfort run stops, or whose comfort continuation is dropped. -/
def comfortEnded (now : Time) (r : Window) : Window :=
  if r.run = .RUNNING ∧ r.mode = .COMFORT then stopRecord now none r
  else if r.run = .BRAKING ∧ r.cont.any (fun c => !c.reversal && c.mode = .COMFORT) = true then { r with cont := none }
  else r

theorem comfortCont_iff {c : Option Continuation} : c.any (fun x => !x.reversal && x.mode = .COMFORT) = true ↔
    ∃ x, c = some x ∧ x.reversal = false ∧ x.mode = .COMFORT := by
  cases c <;> simp

theorem stopComfort_free (free : s.queuedWindow w = none) : stopComfort s w = s.setWin w (comfortEnded s.now (s.win w)) := by
  have drives : (if (s.win w).run = .RUNNING ∧ (s.win w).mode = .COMFORT then stopWindow w none s
      else if (s.win w).run = .BRAKING ∧ (s.win w).cont.any (fun c => !c.reversal && c.mode = .COMFORT) = true then
        dropContinuation w s else s) = s.setWin w (comfortEnded s.now (s.win w)) := by
    unfold comfortEnded
    split
    · rfl
    · split
      · rfl
      · exact (setWin_win s w).symm
  unfold stopComfort
  dsimp only
  rw [drives, show (s.setWin w (comfortEnded s.now (s.win w))).queuedWindow w = none from free]
  rfl

/-- A queued comfort job goes, and its window becomes IDLE (R48, R129). -/
theorem stopComfort_queued (queue : s.queue = [j]) (job : j.targets = .window k) (comfort : k.mode = .COMFORT)
    (waits : (s.win k.win).run = .QUEUED) : stopComfort s k.win =
      trigger (raise .WINDOW_STOPPED ({ s with queue := [], nearFull := false }.setWin k.win (idleRecord (s.win k.win)))) := by
  have named : s.queuedWindow k.win = some j := by simp [State.queuedWindow, queue, Job.namesWindow, job]
  have task : (some j).bind Job.task? = some k := by simp [Job.task?, job]
  have left : removeFromQueue j.id s = trigger { s with queue := [], nearFull := false } := by
    have none : s.queue.filter (fun x => x.id ≠ j.id) = [] := by simp [queue]
    rw [removeFromQueue, takeFromQueue, none, setQueue_fall (by simp [queue]) (by simp)]
  have removed : removeWindowJob k.win s = idleWindow k.win (trigger { s with queue := [], nearFull := false }) := by
    rw [removeWindowJob, named]
    dsimp only
    rw [left]
    exact if_pos waits
  unfold stopComfort
  dsimp only
  rw [if_neg (by simp [waits]), if_neg (by simp [waits]), named, task]
  dsimp only
  rw [if_pos comfort, removed]
  exact idleWindow_stopped (s := trigger { s with queue := [], nearFull := false })
    (fun e => RunState.noConfusion (waits.symm.trans e))

/-! ### Folds over the windows -/

theorem foldl_fixed {α : Type} {op : State → α → State} {l : List α} (stays : ∀ a ∈ l, op s a = s) : l.foldl op s = s := by
  induction l with
  | nil => rfl
  | cons a l ih =>
    rw [List.foldl_cons, stays a List.mem_cons_self]
    exact ih (fun b hb => stays b (List.mem_cons_of_mem _ hb))

/-- The windows with the comfort of some of them ended. -/
def comfortEnds (now : Time) (ws : List Win) (v : PerWin Window) : PerWin Window :=
  ws.foldl (fun v w => v.set w (comfortEnded now (v.get w))) v

theorem foldl_stopComfort {ws : List Win} (free : ∀ v ∈ ws, s.queuedWindow v = none) :
    ws.foldl stopComfort s = { s with windows := comfortEnds s.now ws s.windows } := by
  induction ws generalizing s with
  | nil => rfl
  | cons w ws ih =>
    rw [List.foldl_cons, stopComfort_free (free w List.mem_cons_self),
      ih (s := s.setWin w _) (fun v hv => free v (List.mem_cons_of_mem _ hv))]
    rfl

theorem get_comfortEnds (now : Time) {ws : List Win} (once : ws.Nodup) (v : PerWin Window) (w : Win) :
    (comfortEnds now ws v).get w = if w ∈ ws then comfortEnded now (v.get w) else v.get w := by
  induction ws generalizing v with
  | nil => rfl
  | cons x ws ih =>
    obtain ⟨out, rest⟩ := List.nodup_cons.mp once
    have step : comfortEnds now (x :: ws) v = comfortEnds now ws (v.set x (comfortEnded now (v.get x))) := rfl
    rw [step, ih rest]
    rcases eq_or_ne w x with rfl | other
    · rw [if_neg out, if_pos List.mem_cons_self, perwin_get_set_same]
    · rw [perwin_get_set_ne _ _ other]
      simp [other]

theorem mem_windows (w : Win) : w ∈ Win.all := by cases w <;> decide

/-- The windows before and behind one of them, each once. -/
theorem all_split (w : Win) : ∃ pre post, Win.all = pre ++ w :: post ∧ pre.Nodup ∧ post.Nodup ∧ w ∉ pre ∧ w ∉ post ∧
    ∀ v, v ≠ w → (v ∈ pre ↔ v ∉ post) := by
  obtain ⟨pre, post, e⟩ := List.append_of_mem (mem_windows w)
  have once : (pre ++ w :: post).Nodup := e ▸ by decide
  have whole (v : Win) : v ∈ pre ∨ v = w ∨ v ∈ post := by simpa [e] using mem_windows v
  obtain ⟨front, back, apart⟩ := List.nodup_append.mp once
  obtain ⟨out, rest⟩ := List.nodup_cons.mp back
  exact ⟨pre, post, e, front, rest, fun mem => apart w mem w List.mem_cons_self rfl, out, fun v other =>
    ⟨fun mem later => apart v mem v (List.mem_cons_of_mem _ later) rfl,
      fun later => (whole v).resolve_right (not_or.mpr ⟨other, later⟩)⟩⟩

/-! ### The start of comfort (R128) -/

theorem queuedWindow_other (queue : t.queue = [j]) (job : j.targets = .window k) (other : v ≠ k.win) :
    t.queuedWindow v = none := by
  simp [State.queuedWindow, queue, Job.namesWindow, job, Ne.symm other]

/-- A window's fitness for comfort depends on that window and its queued job (R128). -/
theorem comfortFits_congr (win : t.win v = s.win v) (queued : t.queuedWindow v = s.queuedWindow v) (pins : t.pins = s.pins)
    (params : t.params = s.params) (crash : t.crash = s.crash) : comfortFits v t = comfortFits v s := by
  have owner : ownerRank v t = ownerRank v s := by
    unfold ownerRank State.owner
    rw [win, queued]
  unfold comfortFits
  rw [fits_congr win pins params crash, win, owner]

end

/-- Settles O38: the close of a hold ends comfort window by window, and its start requests the one window that fits. -/
theorem candidateAndHoldTimers : Obligations.CandidateAndHoldTimers := by
  intro i x t w j k s ho hc due lapsed ended
  let shut : State := { s with hold := lapsed }
  have calmShut : calm shut := calm_congr rfl rfl rfl rfl rfl hc
  have gap (runs : s.hold.gapT = some t) (isOpen : s.hold.isOpen = true) : exec .gapTimerExpiry s =
      .next (finish (if s.hold.started then Win.all.foldl stopComfort shut else shut)) :=
    congrArg Host.Outcome.next ((expiry_due ho runs due _).trans (congrArg finish (if_pos isOpen)))
  have ends (v : Win) : comfortEnded s.now (s.win v) = ended v := by
    simp only [comfortEnded, comfortCont_iff, ended]
  let begun : State := { s with hold := { s.hold with started := true, startT := none } }
  have calmBegun : calm begun := calm_congr rfl rfl rfl rfl rfl hc
  have start (runs : s.hold.startT = some t) : exec .startTimerExpiry s = .next (finish (Win.all.foldl comfortRequest begun)) :=
    congrArg Host.Outcome.next (expiry_due ho runs due _)
  refine ⟨fun holds e => ?_, fun runs isOpen fresh => ?_, fun runs isOpen going empty closed => ?_,
    fun runs isOpen going queue job comfort waits closed => ?_, fun runs none => ?_,
    fun runs fit others idle empty closed room free => ?_⟩
  · refine congrArg Host.Outcome.next ((expiry_due ho (t := t) (by rw [holds, e]; rfl) due _).trans ?_)
    exact finish_calm (calm_setFob hc rfl)
  · rw [gap runs isOpen, fresh]
    exact congrArg Host.Outcome.next (finish_calm calmShut)
  · have folded := foldl_stopComfort (s := shut) (ws := Win.all) (fun v _ => queuedWindow_nil empty v)
    refine ⟨{ shut with windows := comfortEnds s.now Win.all s.windows }, ?_, rfl, fun v => ?_, empty,
      rfl, rfl, rfl, rfl, rfl, rfl⟩
    · rw [gap runs isOpen, going, if_pos rfl, folded]
      exact congrArg Host.Outcome.next (finish_calm (calm_congr rfl rfl rfl rfl rfl hc))
    refine (get_comfortEnds s.now (by decide) s.windows v).trans ?_
    rw [if_pos (mem_windows v)]
    exact ends v
  · obtain ⟨pre, post, all, oncePre, oncePost, notPre, notPost, sides⟩ := all_split k.win
    let front : State := { shut with windows := comfortEnds s.now pre s.windows }
    have first : pre.foldl stopComfort shut = front :=
      foldl_stopComfort (s := shut) (fun v mem => queuedWindow_other queue job (fun e => notPre (e ▸ mem)))
    have kept : front.win k.win = s.win k.win := (get_comfortEnds s.now oncePre s.windows k.win).trans (if_neg notPre)
    let idle : State := raise .WINDOW_STOPPED
      ({ front with queue := [], nearFull := false }.setWin k.win (idleRecord (front.win k.win)))
    have middle : stopComfort front k.win = trigger idle := stopComfort_queued queue job comfort (kept ▸ waits)
    let last : State := { idle with windows := comfortEnds s.now post idle.windows }
    have folded : Win.all.foldl stopComfort shut = trigger last := by
      rw [all, List.foldl_append, List.foldl_cons, first, middle]
      exact foldl_stopComfort (s := trigger idle) (fun v _ => queuedWindow_nil rfl v)
    have record (v : Win) : last.win v = if v ∈ post then comfortEnded s.now (idle.win v) else idle.win v :=
      get_comfortEnds s.now oncePost idle.windows v
    refine ⟨last, ?_, rfl, rfl, ?_, fun v other => ?_, rfl, pending_raised rfl⟩
    · rw [gap runs isOpen, going, if_pos rfl, folded]
      exact congrArg Host.Outcome.next (finish_trigger_empty rfl closed (calm_congr rfl rfl rfl rfl rfl hc))
    · rw [record, if_neg notPost, show idle.win k.win = idleRecord (front.win k.win) from win_setWin_same ..]
      rfl
    · have before : idle.win v = if v ∈ pre then comfortEnded s.now (s.win v) else s.win v :=
        (win_setWin_ne _ _ other).trans (get_comfortEnds s.now oncePre s.windows v)
      rw [record, before, ← ends]
      by_cases mem : v ∈ pre
      · rw [if_neg ((sides v other).mp mem), if_pos mem]
      · rw [if_pos (not_not.mp (mt (sides v other).mpr mem)), if_neg mem]
  · have stays : Win.all.foldl comfortRequest begun = begun := foldl_fixed (fun v _ => if_neg (by
      rw [show comfortFits v begun = false from none v]
      nofun))
    rw [start runs, stays, finish_calm calmBegun]
  · let task : WindowTask := ⟨w, .COMFORT, .UP, none, ⟨portOrigin s.hold.port, 2⟩⟩
    have meets : fits .COMFORT .UP none w begun = .FIT := by
      simp only [comfortFits, Bool.and_eq_true, decide_eq_true_eq] at fit
      obtain ⟨⟨⟨⟨meets, -⟩, -⟩, -⟩, -⟩ := fit
      exact meets
    obtain ⟨request, run⟩ := requestWindow_vacant (s := begun) (k := task) (p := .COMFORT) calmBegun
      ⟨idle, empty, closed, free, room⟩ meets rfl
    obtain ⟨pre, post, all, -, -, notPre, notPost, -⟩ := all_split w
    have first : pre.foldl comfortRequest begun = begun := foldl_fixed (fun v mem => if_neg (by
      rw [show comfortFits v begun = false from others v (fun e => notPre (e ▸ mem))]
      nofun))
    have middle : comfortRequest begun w = trigger (waiting task .COMFORT begun) :=
      (if_pos fit).trans (congrArg Prod.snd request)
    have last : post.foldl comfortRequest (trigger (waiting task .COMFORT begun)) = trigger (waiting task .COMFORT begun) :=
      foldl_fixed (fun v mem => if_neg (by
        have other : v ≠ w := fun e => notPost (e ▸ mem)
        have same : comfortFits v (trigger (waiting task .COMFORT begun)) = comfortFits v s :=
          comfortFits_congr (win_setWin_ne _ _ other)
            ((queuedWindow_other (k := task) rfl rfl other).trans (queuedWindow_nil empty v).symm) rfl rfl rfl
        rw [same, others v other]
        nofun))
    have record : (started task .COMFORT begun).win w = runRecord task begun := win_started task .COMFORT begun
    refine ⟨started task .COMFORT begun, ?_, ?_⟩
    · rw [start runs, all, List.foldl_append, List.foldl_cons, first, middle, last, run]
    · rw [record]
      exact ⟨rfl, rfl, rfl, rfl, rfl, rfl, rfl, empty, fun v other => win_setWin_ne _ _ other, rfl, rfl, rfl⟩

end Sys2Proof.Machine

/-! ## One edge of a monitored run (R65, R68 to R75)

An edge that is tested passes through the filter, the scratch sums and the persistence counter, each a part of the monitor's
record that the others leave alone. -/

namespace Sys2Proof.Machine

open Sys2Proof

section
variable {m : Monitor} {v : Params} {p : Profile} {z : Option (Fin 32)}

/-! ### The parts of a tested edge -/

/-- F after an edge with the normalized period `N` (R71). -/
def filteredPeriod (N : Nat) (m : Monitor) : Nat := if m.primed then quarterStep m.F N else N

/-- Fmin after it (R71). -/
def leastFiltered (N : Nat) (m : Monitor) : Nat := if m.primed then min m.Fmin (filteredPeriod N m) else N

theorem filterEdge_eq (N : Nat) (m : Monitor) :
    filterEdge N m = { m with primed := true, F := filteredPeriod N m, Fmin := leastFiltered N m } := by
  cases primed : m.primed <;> simp [filterEdge, filteredPeriod, leastFiltered, primed]

/-- The reference decides where it is above 0, the ratio to the least filtered period otherwise (R73, R74). -/
theorem edgeOver_iff {threshold ref : Nat} : edgeOver threshold ref m = true ↔
    (0 < ref ∧ ref + ref * threshold / 64 < m.F) ∨ (ref = 0 ∧ m.Fmin + m.Fmin / 2 < m.F) := by
  rcases Nat.eq_zero_or_pos ref with rfl | above
  · simp [edgeOver, overRatio]
  · simp [edgeOver, overLearned, above, above.ne']

/-- The record of an edge that is tested: filtered, learned where the position has a zone, and counted or not (R71 to R75,
R78). -/
theorem testedEdge_eq (v : Params) (p : Profile) (z : Option (Fin 32)) (N : Nat) (m : Monitor) :
    ∃ sums, testedEdge v p z N m = { filterEdge N m with
      scratch := sums
      c := if edgeOver v.pinchThreshold (referenceAt p z) (filterEdge N m) = true then m.c + 1 else 0 } := by
  have c : (filterEdge N m).c = m.c := by rw [filterEdge_eq]
  cases z with
  | none =>
    refine ⟨(filterEdge N m).scratch, ?_⟩
    rw [testedEdge, ← c]
    split <;> rfl
  | some z =>
    refine ⟨(learnEdge z N (filterEdge N m)).scratch, ?_⟩
    have unlearned : edgeOver v.pinchThreshold (referenceAt p (some z)) (learnEdge z N (filterEdge N m)) =
        edgeOver v.pinchThreshold (referenceAt p (some z)) (filterEdge N m) := rfl
    simp only [testedEdge, unlearned]
    rw [← c]
    split <;> rfl

/-! ### The edge by where it falls -/

theorem monitorEdge_blanking {P T mv : Nat} (room : m.edges < 65535) (blanking : m.phase = .BLANKING)
    (within : m.edges + 1 ≤ m.blankingLength) : monitorEdge v p P T mv m = { m with edges := m.edges + 1 } := by
  have count : min (m.edges + 1) 65535 = m.edges + 1 := by omega
  simp only [monitorEdge, count]
  exact if_pos ⟨blanking, within⟩

theorem monitorEdge_sealZone {P T mv : Nat} (room : m.edges < 65535)
    (past : ¬(m.phase = .BLANKING ∧ m.edges + 1 ≤ m.blankingLength)) (closed : P ≤ v.sealZone) :
    monitorEdge v p P T mv m = { m with phase := .ACTIVE, edges := m.edges + 1, c := 0 } := by
  have count : min (m.edges + 1) 65535 = m.edges + 1 := by omega
  simp only [monitorEdge, count]
  rw [if_neg past, if_pos closed]

theorem monitorEdge_tested {P T mv : Nat} (room : m.edges < 65535)
    (past : ¬(m.phase = .BLANKING ∧ m.edges + 1 ≤ m.blankingLength)) (clear : v.sealZone < P) :
    monitorEdge v p P T mv m = testedEdge v p (p.L.map (fun L => zoneOf P L)) (normalizedPeriod T (supplyValue mv))
      { m with phase := .ACTIVE, edges := m.edges + 1 } := by
  have count : min (m.edges + 1) 65535 = m.edges + 1 := by omega
  simp only [monitorEdge, count]
  rw [if_neg past, if_neg (Nat.not_le.mpr clear)]

theorem normalizedPeriod_supplyValue (T mv : Nat) :
    normalizedPeriod T (supplyValue mv) = min (T * max 6000 (min mv 18000) / 13500) 65535 := by
  rw [normalizedPeriod, supplyValue, clampTo, Nat.min_comm 18000]

theorem monitorEdge_edges {P T mv : Nat} (room : m.edges < 65535) : (monitorEdge v p P T mv m).edges = m.edges + 1 := by
  by_cases blanking : m.phase = .BLANKING ∧ m.edges + 1 ≤ m.blankingLength
  · rw [monitorEdge_blanking room blanking.1 blanking.2]
  · rcases Nat.lt_or_ge v.sealZone P with clear | closed
    · rw [monitorEdge_tested room blanking clear]
      obtain ⟨sums, tested⟩ := testedEdge_eq v p (p.L.map (fun L => zoneOf P L)) (normalizedPeriod T (supplyValue mv))
        { m with phase := .ACTIVE, edges := m.edges + 1 }
      rw [tested, filterEdge_eq]
    · rw [monitorEdge_sealZone room blanking closed]

end

/-- Settles O29, by where the edge falls: in the blanking, in the seal zone, or under test. -/
theorem monitoredEdgeRules : Obligations.MonitoredEdgeRules := by
  intro v p P T mv m room n N F low ref
  refine ⟨monitorEdge_edges room, monitorEdge_blanking room, monitorEdge_sealZone room, fun past clear => ?_⟩
  let begun : Monitor := { m with phase := .ACTIVE, edges := m.edges + 1 }
  have edge : n = testedEdge v p (p.L.map (fun L => zoneOf P L)) N begun :=
    (monitorEdge_tested room past clear).trans (by rw [normalizedPeriod_supplyValue])
  obtain ⟨sums, tested⟩ := testedEdge_eq v p (p.L.map (fun L => zoneOf P L)) N begun
  rw [filterEdge_eq, ← edge] at tested
  have counted : n.c = if (0 < ref ∧ ref + ref * v.pinchThreshold / 64 < F) ∨ (ref = 0 ∧ low + low / 2 < F)
      then m.c + 1 else 0 := by
    rw [tested]
    simp only [edgeOver_iff]
    rfl
  refine ⟨?_, ?_, ?_, ?_, ?_, fun learned => ?_, fun unknown => ?_⟩
  · rw [tested]
  · rw [tested]
  · rw [tested]; rfl
  · rw [tested]; rfl
  · rw [tested]
  · simp [counted, learned, learned.ne']
  · simp [counted, unknown]

end Sys2Proof.Machine

/-! ## Commands that write to an idle store (R84, R85, R123, R124, R163, R178, R180)

Each requests its writes of a store with no write running and none waiting, so the event that takes the command begins the
first of them, and the others wait behind it. -/

namespace Sys2Proof.Machine

open Sys2Proof

section
variable {s t : State} {code : Byte} {x : PortWrite} {xs : List PortWrite} {i : Fin 8} {w : Win}

/-! ### The first write begins -/

/-- The state in which Port M is in flight under a code, with a port-requested write that has just begun and others behind
it. -/
def inFlightWriting (code : Byte) (p : Payload) (span : Nat) (more : List PortWrite) (t : State) : State :=
  { t with writer := { t.writer with running := some ⟨p, true, false, t.timer span⟩, portQueue := more } }.setPort .M
    { t.port .M with inFlight := some code }

theorem background_none (none : nextProfile t = none) (w : Win) : t.writer.background.get w = false := by
  have all := List.find?_eq_none.mp none w (by cases w <;> decide)
  simpa using all

/-- Where no profile waits in the background, a request takes none out of it (R178). -/
theorem requestWrites_eq (none : nextProfile t = none) (empty : t.writer.portQueue = []) :
    requestWrites xs t = { t with writer := { t.writer with portQueue := xs } } := by
  have stays : (requestWrites xs t).writer.background = t.writer.background := List.foldl_fixed' (fun x => by
    cases x with
    | profile w =>
      show t.writer.background.set w false = t.writer.background
      rw [← background_none none w, perwin_set_get]
    | _ => rfl) xs
  have asked : requestWrites xs t = { t with writer := { t.writer with
      portQueue := t.writer.portQueue ++ xs
      background := (requestWrites xs t).writer.background } } := rfl
  rw [asked, stays, empty, List.nil_append]

/-- A command that takes time, on an idle store. -/
theorem finish_takeInFlight (still : calm t) (idle : t.writer.running = none) :
    finish (takeInFlight code (x :: xs) t).2 = inFlightWriting code (portPayload x t).1 (portPayload x t).2 xs t := by
  obtain ⟨due, steady, store⟩ := still
  obtain ⟨empty, -, none⟩ : t.writer.portQueue = [] ∧ nextCommit t = none ∧ nextProfile t = none :=
    store.resolve_left (by simp [idle])
  let u : State := { t with writer := { t.writer with portQueue := x :: xs } }.setPort .M
    { t.port .M with inFlight := some code }
  have asked : (takeInFlight code (x :: xs) t).2 = u := by
    simp only [takeInFlight, requestWrites_eq none empty]
    rfl
  rw [asked, finish, settle_still (s := u) due steady, pump, if_neg (by simp [u, idle])]
  cases x <;> rfl

theorem commandRow_inFlight {f : State → Answer × State} (h : listening .M s) (permitted : permittedOn .M code = true)
    (e : f (arrived .M s) = takeInFlight code (x :: xs) t) (still : calm t) (idle : t.writer.running = none) :
    commandRow .M code (acting f) s = .next (respond .M code ⟨.IN_PROGRESS, 0#72⟩
      (inFlightWriting code (portPayload x t).1 (portPayload x t).2 xs t)) := by
  rw [commandRow_listening h permitted]
  simp only [acting, e, finish_takeInFlight still idle]
  rfl

/-! ### What each command asks for -/

theorem takeEnroll_outOfRange {slot : Byte} {identity : BitVec 32} {counter : BitVec 24} (none : slotOf slot = none) :
    takeEnroll slot identity counter t = (Answer.refused .BAD_INDEX, t) := by
  rw [takeEnroll, none]

theorem takeEnroll_noIdentity {slot : Byte} {identity : BitVec 32} {counter : BitVec 24} (named : slotOf slot = some i)
    (zero : identity = 0#32) : takeEnroll slot identity counter t = (Answer.refused .BAD_INDEX, t) := by
  rw [takeEnroll, named]
  exact if_pos zero

/-- Another ACTIVE slot has the identity (R123). -/
def enrolledElsewhere (i : Fin 8) (identity : BitVec 32) (s : State) : Prop :=
  ∃ k, k ≠ i ∧ (s.fob k).status = .ACTIVE ∧ (s.fob k).identity = identity

theorem takeEnroll_named {slot : Byte} {identity : BitVec 32} {counter : BitVec 24} (named : slotOf slot = some i)
    (given : identity ≠ 0#32) :
    (enrolledElsewhere i identity t → takeEnroll slot identity counter t = (Answer.refused .DUPLICATE_IDENTITY, t)) ∧
    (¬ enrolledElsewhere i identity t →
      takeEnroll slot identity counter t = takeInFlight 0x34#8 [.enroll i identity counter.toNat] t) := by
  have known : (List.finRange 8).any (fun k => k ≠ i && (t.fob k).status = .ACTIVE && (t.fob k).identity = identity) = true ↔
      enrolledElsewhere i identity t := by
    simp [enrolledElsewhere, and_assoc]
  simp only [takeEnroll, named, if_neg given]
  exact ⟨fun h => if_pos (known.mpr h), fun h => if_neg (mt known.mp h)⟩

theorem takeRevoke_outOfRange {slot : Byte} (none : slotOf slot = none) :
    takeRevoke slot t = (Answer.refused .BAD_INDEX, t) := by
  rw [takeRevoke, none]

theorem takeRevoke_named {slot : Byte} (named : slotOf slot = some i) :
    takeRevoke slot t = takeInFlight 0x35#8 [.revoke i] t := by
  rw [takeRevoke, named]

/-- CLEAR_PROFILE's window with no write running (R85). -/
def profileCleared (r : Window) : Window := { clearedWindow r with mon := { (clearedWindow r).mon with marked := true } }

theorem takeClearProfile_named {window : Byte} (named : winOf window = some w) (idle : t.writer.running = none) :
    takeClearProfile window t = takeInFlight 0x22#8 [.profile w] (t.setWin w (profileCleared (t.win w))) := by
  have marked : markProfile w (t.setWin w (clearedWindow (t.win w))) = t.setWin w (profileCleared (t.win w)) := by
    simp only [markProfile, setWin_setWin, win_setWin_same]
    rw [show (t.setWin w _).writer.running = none from idle]
    rfl
  rw [takeClearProfile, named]
  simp only [marked]

theorem takeClearProfile_outOfRange {window : Byte} (beyond : 4 ≤ window.toNat) :
    takeClearProfile window t = (Answer.refused .BAD_INDEX, t) := by
  rw [takeClearProfile, show winOf window = none from List.getElem?_eq_none beyond]

theorem takeSaveProfiles_none (none : markedWindows t = []) : takeSaveProfiles t = (Answer.done, t) := by
  simp [takeSaveProfiles, none]

theorem takeSaveProfiles_some {ws : List Win} (marked : markedWindows t = w :: ws) :
    takeSaveProfiles t = takeInFlight 0x23#8 (.profile w :: ws.map .profile) t := by
  simp [takeSaveProfiles, marked]

theorem markedWindows_single (only : ∀ v, (t.win v).mon.marked = decide (v = w)) : markedWindows t = [w] := by
  simp only [markedWindows, only]
  cases w <;> rfl

end

/-- Settles O50: a command that passes its checks asks for its writes of the idle store it arrives at, and one that does not
leaves the state as it arrived. -/
theorem storeCommandsTakePortMInFlight : Obligations.StoreCommandsTakePortMInFlight := by
  intro slot window identity counter i w ws s listens still idle a begins
  have calmA : calm a := calm_arrived still
  have refused : ∀ {code : Byte} {f : State → Answer × State} {x : Answer}, permittedOn .M code = true → f a = (x, a) →
      commandRow .M code (acting f) s = .next (respond .M code x a) := fun permitted e =>
    commandRow_refused listens still permitted e
  have inFlight : ∀ {code : Byte} {f : State → Answer × State} {x : PortWrite} {xs : List PortWrite},
      permittedOn .M code = true → f a = takeInFlight code (x :: xs) a →
      commandRow .M code (acting f) s = .next (begins code (portPayload x a).1 (portPayload x a).2 xs a) :=
    fun permitted e => commandRow_inFlight listens permitted e calmA idle
  have saved : ∀ {v : Win} {vs : List Win}, markedWindows a = v :: vs → exec (.saveProfiles .M) s =
      .next (begins 0x23#8 (.profile v (s.win v).profile) 10 (vs.map PortWrite.profile) a) := fun marked =>
    inFlight (by decide) (takeSaveProfiles_some marked)
  refine ⟨fun named given new => ?_, fun named given known => ?_, fun named zero => ?_, fun none => ⟨?_, ?_⟩,
    fun named => ?_, fun named => ?_, fun beyond => ?_, fun none => ?_, fun only => ?_, fun marked => ?_, ?_⟩
  · exact inFlight (by decide) ((takeEnroll_named (t := a) named given).2 (fun ⟨k, other, same⟩ => new k other same))
  · obtain ⟨k, -, same⟩ := known
    exact refused (by decide) ((takeEnroll_named (t := a) named given).1 ⟨k, same⟩)
  · exact refused (by decide) (takeEnroll_noIdentity named zero)
  · exact refused (by decide) (takeEnroll_outOfRange none)
  · exact refused (by decide) (takeRevoke_outOfRange none)
  · exact inFlight (by decide) (takeRevoke_named named)
  · have asked := takeClearProfile_named (t := a) named idle
    refine (commandRow_inFlight listens (by decide) asked (calm_congr rfl rfl rfl rfl rfl calmA) idle).trans ?_
    simp only [portPayload, win_setWin_same]
    rfl
  · exact refused (by decide) (takeClearProfile_outOfRange beyond)
  · have empty : markedWindows a = [] := List.filter_eq_nil_iff.mpr (fun v _ => by
      rw [show (a.win v).mon.marked = false from none v]
      nofun)
    exact refused (by decide) (takeSaveProfiles_none empty)
  · exact saved (markedWindows_single only)
  · exact saved marked
  · exact inFlight (by decide) rfl

end Sys2Proof.Machine

/-! ## What an admission attempt keeps of the profiles (R96)

An attempt stops and starts windows, but no profile changes in it: what a write takes from RAM at the end of an event is what
the event's own work left there. -/

namespace Sys2Proof.Machine

open Sys2Proof

/-- The profile of every window. -/
def profiles (s : State) (w : Win) : Profile := (s.win w).profile

section
variable {s t : State} {w : Win}

theorem profiles_congr (windows : t.windows = s.windows) : profiles t = profiles s :=
  funext fun w => congrArg (fun v : PerWin Window => (v.get w).profile) windows

theorem profiles_acts {A : List Act} (frame : ActsFrame A s t) : profiles t = profiles s := profiles_congr frame.windows

theorem profiles_setWin {r : Window} (same : r.profile = (s.win w).profile) : profiles (s.setWin w r) = profiles s := by
  funext v
  rcases eq_or_ne v w with rfl | other
  · rw [profiles, win_setWin_same, same, profiles]
  · rw [profiles, win_setWin_ne _ _ other, profiles]

theorem profiles_foldl {α : Type} {f : State → α → State} (keeps : ∀ s a, profiles (f s a) = profiles s) (l : List α)
    (s : State) : profiles (l.foldl f s) = profiles s := by
  induction l generalizing s with
  | nil => rfl
  | cons a l ih => rw [List.foldl_cons, ih, keeps]

@[simp] theorem profiles_raise (k : Notice) (s : State) : profiles (raise k s) = profiles s := rfl
@[simp] theorem profiles_trigger (s : State) : profiles (trigger s) = profiles s := rfl
@[simp] theorem profiles_setQueue (q : List Job) (s : State) : profiles (s.setQueue q) = profiles s := profiles_congr (by simp)
@[simp] theorem profiles_takeFromQueue (id : Nat) (s : State) : profiles (takeFromQueue id s) = profiles s :=
  profiles_setQueue ..
@[simp] theorem profiles_changeQueued (kind : Job → Bool) (f : Job → Job) (s : State) :
    profiles (changeQueued kind f s) = profiles s := profiles_setQueue ..
@[simp] theorem profiles_enterQueue (j : Job) (s : State) : profiles (enterQueue j s) = profiles s := profiles_setQueue ..

/-! ### Windows and strokes -/

@[simp] theorem profiles_stopWindow (w : Win) (c : Option Continuation) (s : State) :
    profiles (stopWindow w c s) = profiles s := profiles_setWin rfl

@[simp] theorem profiles_setWindowFault (w : Win) (f : WindowFault) (s : State) :
    profiles (setWindowFault w f s) = profiles s := (profiles_raise _ _).trans (profiles_setWin rfl)

@[simp] theorem profiles_overcurrentWindow (w : Win) (s : State) : profiles (overcurrentWindow w s) = profiles s := by
  simp [overcurrentWindow]

@[simp] theorem profiles_idleWindow (w : Win) (s : State) : profiles (idleWindow w s) = profiles s := by
  unfold idleWindow
  dsimp only
  split
  · exact profiles_setWin rfl
  · exact (profiles_raise _ _).trans (profiles_setWin rfl)

@[simp] theorem profiles_startDrive (w : Win) (run : RunState) (mode : RunMode) (dir : Dir) (target : Option Nat)
    (cmd : Option Commander) (s : State) : profiles (startDrive w run mode dir target cmd s) = profiles s := by
  have started := profiles_setWin (s := s) (w := w) (r := driveRecord s.now s.params.blanking run mode dir target cmd (s.win w)) rfl
  unfold startDrive
  dsimp only
  split
  · rw [profiles_overcurrentWindow, started]
  · exact started

@[simp] theorem profiles_startStroke (job : Option Nat) (grp : Group) (g : Goal) (n : Nat) (as : List Act) (s : State) :
    profiles (startStroke job grp g n as s) = profiles s := profiles_congr (startStroke_windows as s)

@[simp] theorem profiles_removeStroke (st : Stroke) (s : State) : profiles (removeStroke st s) = profiles s := rfl

@[simp] theorem profiles_settleJob (job : Option Nat) (s : State) : profiles (settleJob job s) = profiles s := by
  unfold settleJob
  split
  · rfl
  · split <;> rfl

@[simp] theorem profiles_checkOverload (g : Group) (s : State) : profiles (checkOverload g s) = profiles s := by
  unfold checkOverload cutGroup
  dsimp only
  split
  · split
    · rfl
    · rw [profiles_trigger, profiles_foldl (fun t (st : Stroke) => profiles_settleJob st.job t),
        profiles_foldl (fun t (st : Stroke) => profiles_acts
          (ActsFrame.foldl (fun u m => actFrame_overcurrentMember (st := st) (.refl _ u)) st.members t)),
        profiles_foldl (fun t st => profiles_removeStroke st t)]
  · rfl

/-! ### Admission and shedding (R97 to R103) -/

@[simp] theorem profiles_rejectWindowJob (j : Job) (w : Win) (s : State) : profiles (rejectWindowJob j w s) = profiles s := by
  unfold rejectWindowJob
  dsimp only
  split <;> simp

@[simp] theorem profiles_admitWindow (j : Job) (k : WindowTask) (s : State) : profiles (admitWindow j k s) = profiles s := by
  have named := profiles_setWin (s := tookWindow j s) (w := k.win) (r := jobRecord j.id ((tookWindow j s).win k.win)) rfl
  rw [admitWindow_eq, profiles_startDrive, named]
  exact profiles_takeFromQueue j.id s

@[simp] theorem profiles_admitLock (j : Job) (g : Goal) (as rem : List Act) (s : State) :
    profiles (admitLock j g as rem s) = profiles s := by
  have base : profiles (admitBase j as rem s) = profiles s :=
    (profiles_acts (admitBase_frame j as rem s)).trans (profiles_takeFromQueue j.id s)
  rw [admitLock_eq]
  split
  · exact base
  · simp only [profiles_checkOverload, profiles_startStroke]
    exact base

theorem profiles_visit {j : Job} (passed : visit j s = .passed t) : profiles t = profiles s := by
  unfold visit at passed
  split at passed
  · simp only [visitLock] at passed
    split at passed
    · split at passed
      · cases passed
        exact profiles_admitLock ..
      · cases passed
    · cases passed
  · unfold visitWindow at passed
    split at passed
    · cases passed
      exact profiles_rejectWindowJob ..
    · cases passed
    · split at passed
      · cases passed
      · split at passed
        · cases passed
          exact profiles_rejectWindowJob ..
        · split at passed
          · cases passed
            exact profiles_admitWindow ..
          · cases passed

@[simp] theorem profiles_shedWindow (w : Win) (s : State) : profiles (shedWindow w s) = profiles s :=
  (profiles_congr (congrArg Prod.fst (shedWindow_view w s))).trans (profiles_stopWindow w none s)

@[simp] theorem profiles_shedRuns (ws : List Win) (covered need : Nat) (s : State) :
    profiles (shedRuns ws covered need s) = profiles s := by
  induction ws generalizing covered s with
  | nil => rfl
  | cons w ws ih =>
    unfold shedRuns
    split
    · rfl
    · rw [ih, profiles_shedWindow]

@[simp] theorem profiles_shedFor (j : Job) (cost : Nat) (s : State) : profiles (shedFor j cost s) = profiles s := by
  unfold shedFor
  dsimp only
  split
  · rfl
  · split <;> simp

@[simp] theorem profiles_scanJobs (ids : List Nat) (b : Bool) (s : State) : profiles (scanJobs ids b s) = profiles s := by
  induction ids generalizing b s with
  | nil => rfl
  | cons id ids ih =>
    simp only [scanJobs]
    split
    · exact ih ..
    · rename_i j _
      split
      · rw [ih, profiles_visit ‹_›]
      · have shed : ∀ o : Option Nat, profiles (match b, o with | false, some cost => shedFor j cost s | _, _ => s) =
            profiles s := by
          intro o
          split <;> simp
        split
        · exact shed _
        · exact (ih ..).trans (shed _)

@[simp] theorem profiles_scanQueue (s : State) : profiles (scanQueue s) = profiles s := profiles_scanJobs ..

/-! ### The crash slot and the attempts (R96, R109, R110) -/

@[simp] theorem profiles_dropPending (l : Latch) (s : State) : profiles (dropPending l s) = profiles s := by
  unfold dropPending
  split
  · exact (profiles_acts (actFrame_dropAct (.refl _ _))).trans rfl
  · rfl

@[simp] theorem profiles_serveGroup (grp : Group) (s : State) : profiles (serveGroup grp s) = profiles s := by
  unfold serveGroup
  dsimp only
  split
  · rfl
  · rw [profiles_checkOverload]
    exact profiles_startStroke ..

@[simp] theorem profiles_serveSlot (s : State) : profiles (serveSlot s) = profiles s := by
  simp [serveSlot, profiles_foldl (fun t l => profiles_dropPending l t)]

@[simp] theorem profiles_closeSlot (s : State) : profiles (closeSlot s) = profiles s := rfl
@[simp] theorem profiles_takeTriggers (s : State) : profiles (takeTriggers s) = profiles s := rfl

@[simp] theorem profiles_attempt (s : State) : profiles (attempt s) = profiles s := by
  unfold attempt
  dsimp only
  split
  · split
    · rw [profiles_scanQueue, profiles_closeSlot, profiles_serveSlot]
    · rw [profiles_serveSlot]
  · rw [profiles_scanQueue]

theorem profiles_settle (s : State) : profiles (settle s) = profiles s := by
  have attempts : ∀ (n : Nat) (s : State), profiles (settleFuel n s) = profiles s := by
    intro n
    induction n with
    | zero => exact profiles_takeTriggers
    | succ n ih =>
      intro s
      unfold settleFuel
      split
      · rw [ih, profiles_attempt, profiles_takeTriggers]
      · rfl
  rw [settle, attempts, closeDue]
  split <;> rfl

end

end Sys2Proof.Machine

/-! ## The completion of a write (R83 to R85, R121, R123, R124, R163, R177, R178, R180)

`writeDone` brings what was written to the store and its record; `portWriteDone` answers the command whose last write it was,
and changes the phase and the ports alone; then the event ends. -/

namespace Sys2Proof.Machine

open Sys2Proof

section
variable {s t : State} {x : Writing} {kind : Payload → Bool} {code : Byte} {i : Fin 8} {w v : Win}

/-! ### Check bytes (R160, R177) -/

theorem toNat_byteSum (bytes : List Byte) : (byteSum bytes).toNat = (bytes.map BitVec.toNat).sum % 256 := by
  induction bytes with
  | nil => rfl
  | cons b bs ih => simp [byteSum, ih, BitVec.toNat_add]

theorem sum_with_checkByte (item : List Byte) : ((item ++ [checkByte item]).map BitVec.toNat).sum % 256 = 255 := by
  have good : byteSum (item ++ [checkByte item]) = 255#8 := by simpa [goodCheck] using goodCheck_checkByte item
  rw [← toNat_byteSum, good]
  rfl

/-! ### The end of the event -/

theorem finish_port (p : Port) (s : State) : ((finish s).port p).quiet = (s.port p).quiet := by
  have ports := congrArg (fun x : State => x.port p) (outside_finish s)
  cases p <;> exact ports

/-- The start of a write says nothing of the parameter block (R178, R180). -/
theorem pump_paramsFailed (s : State) : (pump s).writer.paramsFailed = s.writer.paramsFailed := by
  unfold pump
  split
  · rfl
  · split
    · rfl
    · split
      · rfl
      · split <;> rfl

theorem finish_paramsFailed (s : State) : (finish s).writer.paramsFailed = s.writer.paramsFailed := by
  rw [finish, pump_paramsFailed, outside_writer (outside_settle s)]

/-- With no trigger and no slot to close, the end of an event keeps the windows. -/
theorem finish_windows (due : s.attemptDue = false) (steady : slotSteady s) : (finish s).windows = s.windows := by
  rw [finish, settle_still due steady, pump_writer]

/-- A profile that waits in the port-requested part begins as the store falls idle (R84, R178). -/
theorem finish_nextProfile {more : List PortWrite} (idle : s.writer.running = none)
    (next : s.writer.portQueue = .profile v :: more) : (finish s).writer.portQueue = more ∧
      (finish s).writer.running = some ⟨.profile v (s.win v).profile, true, false, ⟨s.now, 10⟩⟩ := by
  have settled := outside_settle s
  have profile : ((settle s).win v).profile = (s.win v).profile := congrFun (profiles_settle s) v
  rw [finish, pump, outside_writer settled, idle, next, ← profile, ← outside_now settled]
  exact ⟨rfl, rfl⟩

/-! ### The answer to the command -/

theorem finalStatus_inFlight {a : Answer} (command : (s.port .M).inFlight = some code) : finalStatus a s =
    s.setPort .M { s.port .M with inFlight := none, slot := ⟨code, a.status, a.data⟩ } := by
  simp only [finalStatus, command]

theorem finalStatus_eq (a : Answer) (s : State) : ∃ ports, finalStatus a s = { s with ports := ports } := by
  cases command : (s.port .M).inFlight with
  | none => exact ⟨s.ports, by simp only [finalStatus, command]⟩
  | some code => exact ⟨_, finalStatus_inFlight command⟩

/-- The answer changes the phase, by the end of STANDBY, and the ports alone (R163, R183). -/
theorem portWriteDone_eq (x : Writing) (s : State) :
    ∃ phase ports, portWriteDone x s = { s with phase := phase, ports := ports } := by
  unfold portWriteDone
  split
  · split
    · unfold retestStandby
      split
      · obtain ⟨ports, answered⟩ := finalStatus_eq (Answer.doneWith [(1, 1)]) { s with phase := .STANDBY }
        exact ⟨.STANDBY, ports, answered⟩
      · obtain ⟨ports, answered⟩ := finalStatus_eq (Answer.doneWith [(1, 0)]) s
        exact ⟨s.phase, ports, answered⟩
    · obtain ⟨ports, answered⟩ := finalStatus_eq Answer.done s
      exact ⟨s.phase, ports, answered⟩
  · exact ⟨s.phase, s.ports, rfl⟩

theorem portWriteDone_own (own : x.byPort = false) : portWriteDone x s = s := by
  simp [portWriteDone, own]

theorem portWriteDone_more (more : s.writer.portQueue ≠ []) : portWriteDone x s = s := by
  simp [portWriteDone, more]

theorem portWriteDone_last (byPort : x.byPort = true) (last : s.writer.portQueue = [])
    (command : (s.port .M).inFlight = some code) (other : code ≠ 0x71#8) :
    portWriteDone x s = s.setPort .M { s.port .M with inFlight := none, slot := ⟨code, .DONE, 0#72⟩ } := by
  rw [portWriteDone, if_pos (by simp [byPort, last]), if_neg (by simpa [command] using other), finalStatus_inFlight command]
  rfl

/-! ### What was written -/

theorem background_closeHoldOf (i : Fin 8) (s : State) : background (closeHoldOf i s) = background s := by
  unfold closeHoldOf
  split
  · exact background_closeHold s
  · rfl

theorem closeHoldOf_shut (slot : s.hold.slot = i) : (closeHoldOf i s).hold.isOpen = false := by
  rw [closeHoldOf, if_pos slot, closeHold_shut]

/-- A slot that is enrolled or revoked, before its hold is closed. -/
def slotWritten (i : Fin 8) (r : SlotRecord) (f : FobSlot) (s : State) : State :=
  (setStoredSlot i r (storeIdle s)).setFob i f

/-- What is written leaves the ports, but for their notices, and what waits to be written. -/
theorem writeDone_port (x : Writing) (s : State) (p : Port) : ((writeDone x s).port p).quiet = (s.port p).quiet := by
  have closed : ∀ i t, ((closeHoldOf i t).port p).quiet = (t.port p).quiet := fun i t => by
    have ports := congrArg (fun y : State => y.port p) (background_closeHoldOf i t)
    cases p <;> exact ports
  unfold writeDone
  dsimp only
  split
  · rfl
  · exact closed ..
  · exact closed ..
  · rfl
  · rfl

theorem writeDone_portQueue (x : Writing) (s : State) : (writeDone x s).writer.portQueue = s.writer.portQueue := by
  have closed : ∀ i t, (closeHoldOf i t).writer.portQueue = t.writer.portQueue := fun i t =>
    (congrArg (fun y : State => y.writer.portQueue) (background_closeHoldOf i t) :)
  unfold writeDone
  dsimp only
  split
  · rfl
  · exact closed ..
  · exact closed ..
  · rfl
  · rfl

theorem profiles_profileDone (w : Win) (p : Profile) (changed : Bool) (s : State) :
    profiles (profileDone w p changed s) = profiles s :=
  profiles_setWin (s := { s with store := { s.store with profiles := s.store.profiles.set w (storedProfile p) } }) rfl

/-! ### The whole event -/

/-- The state after the completion of a write and the end of its event. -/
def completed (x : Writing) (s : State) : State := finish (portWriteDone x (writeDone x s))

theorem expiry_completion (ho : operating s) (running : s.writer.running = some x) (isKind : kind x.payload = true)
    (due : timerDue s.now x.timer = true) : expiry (writeTimer kind) (completion kind) s = completed x s := by
  have found : runningOf kind s = some x := by simp only [runningOf, running, isKind, if_true]
  have timer : writeTimer kind s = some x.timer := by rw [writeTimer, found, Option.map_some]
  rw [expiry_due ho timer due, completion, found, completed]

theorem completed_keeps (x : Writing) (s : State) : (completed x s).store = (writeDone x s).store ∧
    (completed x s).fobs = (writeDone x s).fobs ∧ (completed x s).hold = (writeDone x s).hold ∧
    (completed x s).writer.paramsFailed = (writeDone x s).writer.paramsFailed := by
  obtain ⟨phase, ports, answered⟩ := portWriteDone_eq x (writeDone x s)
  have ended := outside_finish (portWriteDone x (writeDone x s))
  have failed := finish_paramsFailed (portWriteDone x (writeDone x s))
  rw [completed]
  rw [answered] at ended failed ⊢
  exact ⟨(congrArg State.store ended :), (congrArg State.fobs ended :), (congrArg State.hold ended :), failed⟩

theorem completed_windows (due : (writeDone x s).attemptDue = false) (steady : slotSteady (writeDone x s)) :
    (completed x s).windows = (writeDone x s).windows := by
  obtain ⟨phase, ports, answered⟩ := portWriteDone_eq x (writeDone x s)
  rw [completed, answered]
  exact finish_windows due steady

/-- A command in flight gets its final status with its last write, and its port is free (R163). -/
theorem completed_last (byPort : x.byPort = true) (last : s.writer.portQueue = [])
    (command : (s.port .M).inFlight = some code) (other : code ≠ 0x71#8) :
    ((completed x s).port .M).slot = ⟨code, .DONE, 0#72⟩ ∧ ((completed x s).port .M).inFlight = none := by
  have inFlight : ((writeDone x s).port .M).inFlight = some code :=
    (congrArg PortRec.inFlight (writeDone_port x s .M) :).trans command
  have answered := portWriteDone_last byPort ((writeDone_portQueue x s).trans last) inFlight other
  have port := finish_port .M (portWriteDone x (writeDone x s))
  rw [answered, port_setPort_same, ← answered] at port
  exact ⟨(congrArg PortRec.slot port :), (congrArg PortRec.inFlight port :)⟩

/-- A completion that ends no command answers none (R163). -/
theorem completed_unanswered (unanswered : portWriteDone x (writeDone x s) = writeDone x s) :
    ((completed x s).port .M).slot = (s.port .M).slot ∧ ((completed x s).port .M).inFlight = (s.port .M).inFlight := by
  have port := (finish_port .M (writeDone x s)).trans (writeDone_port x s .M)
  rw [completed, unanswered]
  exact ⟨(congrArg PortRec.slot port :), (congrArg PortRec.inFlight port :)⟩

/-- A profile write of a command that has another to write (R84). -/
theorem completed_nextProfile {q : Profile} {byPort changed : Bool} {timer : Timer} {more : List PortWrite}
    (next : s.writer.portQueue = .profile v :: more) :
    let u := completed ⟨.profile w q, byPort, changed, timer⟩ s
    (u.port .M).slot = (s.port .M).slot ∧ (u.port .M).inFlight = (s.port .M).inFlight ∧ u.writer.portQueue = more ∧
      u.writer.running = some ⟨.profile v (s.win v).profile, true, false, ⟨s.now, 10⟩⟩ := by
  let x : Writing := ⟨.profile w q, byPort, changed, timer⟩
  have unanswered : portWriteDone x (writeDone x s) = writeDone x s :=
    portWriteDone_more (by rw [writeDone_portQueue, next]; nofun)
  obtain ⟨slot, inFlight⟩ := completed_unanswered unanswered
  have profile : ((writeDone x s).win v).profile = (s.win v).profile :=
    congrFun (profiles_profileDone w q changed (storeIdle s)) v
  have begins := finish_nextProfile (s := writeDone x s) rfl next
  rw [profile] at begins
  refine ⟨slot, inFlight, ?_⟩
  rw [completed, unanswered]
  exact begins

/-- An ENROLL or REVOKE write: the store, the slot, the other slots and the hold (R123, R124, R129). -/
theorem completed_slot {r : SlotRecord} {f : FobSlot} (written : writeDone x s = closeHoldOf i (slotWritten i r f s)) :
    (completed x s).store = { s.store with slots := s.store.slots.set i (storedSlot r) } ∧ (completed x s).fob i = f ∧
      (∀ k, k ≠ i → (completed x s).fob k = s.fob k) ∧ (s.hold.slot = i → (completed x s).hold.isOpen = false) := by
  obtain ⟨store, fobs, hold, -⟩ := completed_keeps x s
  have fob : ∀ k, (completed x s).fob k = (slotWritten i r f s).fob k := fun k => by
    rw [State.fob, fobs, written]
    exact background_fob (background_closeHoldOf i (slotWritten i r f s)) k
  refine ⟨?_, (fob i).trans (fob_setFob_same ..), fun k other => (fob k).trans (fob_setFob_ne _ _ other), fun slot => ?_⟩
  · rw [store, written]
    exact (congrArg State.store (background_closeHoldOf i (slotWritten i r f s)) :)
  · rw [hold, written]
    exact closeHoldOf_shut slot

end

/-- Settles O51, by the kind of the write that has run. -/
theorem completedWritesReachTheStore : Obligations.CompletedWritesReachTheStore := by
  intro i w v r q values byPort changed more t code s ho due final checked
  have last : ∀ {x : Writing}, x.byPort = true → final (completed x s) := completed_last
  refine ⟨?_, fun running => ?_, fun running => ?_, fun running => ?_, fun running => ?_, fun running => ?_⟩
  · exact ⟨sum_with_checkByte _, by simp [StoredSlot.ok, storedSlot], sum_with_checkByte _,
      by simp [StoredProfile.ok, storedProfile], sum_with_checkByte _, by simp [StoredParams.ok, storedParams]⟩
  · let x : Writing := ⟨.commit i r, false, changed, t⟩
    obtain ⟨store, fobs, -, -⟩ := completed_keeps x s
    have fob : ∀ k, (completed x s).fob k = (commitDone i r (storeIdle s)).fob k := fun k => by rw [State.fob, fobs]; rfl
    refine ⟨completed x s, congrArg Host.Outcome.next (expiry_completion ho running rfl due), store, ?_, ?_, ?_, ?_⟩
    · rw [fob, commitDone, fob_setFob_same]
    · rw [fob, commitDone, fob_setFob_same]; rfl
    · rw [fob, commitDone, fob_setFob_same]
      exact Bool.eq_iff_iff.mpr (bne_iff_ne.trans decide_eq_true_iff.symm)
    · exact fun k other => (fob k).trans (fob_setFob_ne _ _ other)
  · let x : Writing := ⟨.profile w q, byPort, changed, t⟩
    obtain ⟨store, -, -, -⟩ := completed_keeps x s
    refine ⟨completed x s, congrArg Host.Outcome.next (expiry_completion ho running rfl due), store,
      fun still steady => ?_, fun own => ?_, fun asked => last asked, fun _ next => ?_⟩
    · have windows := completed_windows (x := x) (s := s) still steady
      have win : ∀ k, (completed x s).win k = (writeDone x s).win k := fun k => by rw [State.win, windows]; rfl
      exact ⟨(win w).trans (win_setWin_same ..), fun k other => (win k).trans (win_setWin_ne _ _ other)⟩
    · exact completed_unanswered (portWriteDone_own own)
    · exact completed_nextProfile next
  · obtain ⟨store, fob, others, hold⟩ := completed_slot (x := ⟨.enroll i r, true, changed, t⟩) (s := s) rfl
    exact ⟨_, congrArg Host.Outcome.next (expiry_completion ho running rfl due), store, fob, others, hold, last rfl⟩
  · obtain ⟨store, fob, others, hold⟩ := completed_slot (x := ⟨.revoke i, true, changed, t⟩) (s := s) rfl
    exact ⟨_, congrArg Host.Outcome.next (expiry_completion ho running rfl due), store, fob, others, hold, last rfl⟩
  · obtain ⟨store, fobs, -, failed⟩ := completed_keeps ⟨.params values, true, changed, t⟩ s
    exact ⟨_, congrArg Host.Outcome.next (expiry_completion ho running rfl due), store, failed, fobs, last rfl⟩

end Sys2Proof.Machine

/-! ## Every step leaves nothing over (R96, R110, R178): O55

An event ends with its attempts and the begin of a write, after which a state is calm whatever the event did (`calm_finish`);
what a step does apart from events leaves alone the five fields that calm reads. -/

namespace Sys2Proof.Machine

open Sys2Proof

section
variable {s t : State}

/-! ### The end of an event -/

/-- A scan with the slot closed leaves it closed. -/
theorem scanQueue_closed (closed : s.slot.isOpen = false) : (scanQueue s).slot.isOpen = false :=
  scanQueue_keeps (P := fun t => t.slot.isOpen = false) (fun shut _ _ _ => (isOpen_admitLock ..).trans shut)
    (fun shut kept => kept.slot ▸ shut) closed

theorem slotSteady_of_closed (closed : s.slot.isOpen = false) : slotSteady s :=
  fun o => absurd (o.symm.trans closed) nofun

/-- An attempt leaves no open slot that is done: it closes the one that its service empties (R110). -/
theorem slotSteady_attempt (s : State) : slotSteady (attempt s) := by
  unfold attempt
  dsimp only
  split
  · split
    · exact slotSteady_of_closed (scanQueue_closed rfl)
    · rename_i more
      exact fun _ => by simpa using more
  · rename_i shut
    exact slotSteady_of_closed (scanQueue_closed (by simpa using shut))

/-- The attempts take up every trigger, their bound included (log entry 16). -/
theorem settleFuel_attemptDue (n : Nat) (s : State) : (settleFuel n s).attemptDue = false := by
  induction n generalizing s with
  | zero => rfl
  | succ n ih =>
    unfold settleFuel
    split
    · exact ih _
    · rename_i still
      simpa using still

theorem slotSteady_settleFuel (n : Nat) (steady : slotSteady s) : slotSteady (settleFuel n s) := by
  induction n generalizing s with
  | zero => exact steady
  | succ n ih =>
    unfold settleFuel
    split
    · exact ih (slotSteady_attempt _)
    · exact steady

theorem slotSteady_settleFuel_trigger (n : Nat) (s : State) : slotSteady (settleFuel (n + 1) (trigger s)) := by
  unfold settleFuel
  rw [if_pos (show (trigger s).attemptDue = true from rfl)]
  exact slotSteady_settleFuel n (slotSteady_attempt _)

/-- A slot that is done when the event's own work ends calls for an attempt, so it is closed (R96, R110). -/
theorem slotSteady_settle (s : State) : slotSteady (settle s) := by
  unfold settle closeDue
  split
  · exact slotSteady_settleFuel_trigger 63 s
  · rename_i running
    exact slotSteady_settleFuel 64 (fun isOpen => by simpa [isOpen] using running)

theorem storeSteady_pump (s : State) : storeSteady (pump s) := by
  unfold pump
  split
  · exact .inl ‹_›
  · rename_i idle
    split
    · exact .inl rfl
    · split
      · exact .inl rfl
      · split
        · exact .inl rfl
        · exact .inr ⟨‹_›, ‹_›, ‹_›⟩

/-- The end of an event leaves nothing over, whatever the event did (R96, R110, R178). -/
theorem calm_finish (s : State) : calm (finish s) := by
  unfold finish
  have store := storeSteady_pump (settle s)
  rw [pump_writer] at store ⊢
  exact ⟨settleFuel_attemptDue 64 _, slotSteady_settle s, store⟩

/-! ### Events -/

theorem calm_event (h : calm s) (work : State → State) : calm (event work s) := by
  unfold event
  split
  · exact h
  · exact calm_finish _

theorem calm_expiry (h : calm s) (timer : State → Option Timer) (work : State → State) : calm (expiry timer work s) :=
  calm_event h _

theorem calm_lineEvent {changed : Bool} {level : State → State} (h : calm s) (line : calm (level s)) (work : State → State) :
    calm (lineEvent changed level work s) := by
  unfold lineEvent
  split
  · exact calm_event line work
  · exact h

theorem calm_setPhase (h : calm s) (x : Phase) : calm { s with phase := x } := calm_congr rfl rfl rfl rfl rfl h

theorem calm_setCrash (h : calm s) (x : CrashUnit) : calm { s with crash := x } := calm_congr rfl rfl rfl rfl rfl h

theorem calm_setPort (h : calm s) (p : Port) (r : PortRec) : calm (s.setPort p r) := calm_congr rfl rfl rfl rfl rfl h

/-- The end of standby is an event of its own where a crash job waits for it, and a change of phase alone otherwise. -/
theorem calm_awaken (h : calm s) : calm (awaken s) := by
  unfold awaken
  split
  · exact calm_finish _
  · rename_i none
    unfold wake
    split
    · rename_i asleep
      dsimp only
      rw [if_neg (fun waits => none ⟨asleep, waits⟩)]
      exact calm_setPhase h .ACTIVE
    · exact h

/-- While the store loads, the line of CRASH_IN moves the crash record alone (R149, R181). -/
theorem calm_followLine {active : Bool} (h : calm s) (loading : s.phase = .LOADING) : calm (followLine active s) := by
  have awake : wake s = s := by simp [wake, loading]
  unfold followLine lineActive lineInactive
  dsimp only
  rw [awake]
  split
  · split
    · exact calm_setCrash h _
    · exact h
  · split
    · exact h
    · exact calm_setCrash h _

theorem calm_closeQuietly {o : SearchOutcome} {a : Option SearchAnswer} (h : calm s) : calm (closeQuietly o a s) := by
  unfold closeQuietly
  split
  · exact h
  · exact calm_congr rfl rfl rfl rfl rfl h

theorem calm_closeSearch {o : SearchOutcome} {a : Option SearchAnswer} (h : calm s) : calm (closeSearch o a s) := by
  unfold closeSearch
  split
  · exact calm_raise (calm_closeQuietly h) _
  · exact h

/-! ### Power-on (R181) -/

/-- A slot is loaded with no commit pending (R111, R122). -/
theorem commitPending_loadedSlot (taken : List (BitVec 32)) (x : StoredSlot) :
    (loadedSlot taken x).commitPending = false := by
  unfold loadedSlot
  split
  · rfl
  · split
    · rfl
    · split <;> rfl

theorem commitPending_loadSlots {taken : List (BitVec 32)} {xs : List StoredSlot} :
    ∀ f ∈ loadSlots taken xs, f.commitPending = false := by
  induction xs generalizing taken with
  | nil => exact fun _ none => absurd none List.not_mem_nil
  | cons x xs ih =>
    intro f mem
    rcases List.mem_cons.mp mem with rfl | later
    · exact commitPending_loadedSlot taken x
    · exact ih f later

theorem commitPending_powerOn (ph : Phase) (pins : Pins) (s : State) (i : Fin 8) :
    ((powerOn ph pins s).fob i).commitPending = false := by
  have entry : (powerOn ph pins s).fob i = (loadSlots [] s.store.slots.toList).getD i.val FobSlot.empty := by
    simp [State.fob, powerOn, loadedFobs]
  rw [entry, List.getD_eq_getElem?_getD]
  cases found : (loadSlots [] s.store.slots.toList)[i.val]? with
  | none => rfl
  | some f => exact commitPending_loadSlots f (List.mem_of_getElem? found)

theorem calm_powerOn (ph : Phase) (pins : Pins) (s : State) : calm (powerOn ph pins s) := by
  have commits : nextCommit (powerOn ph pins s) = none :=
    List.find?_eq_none.mpr (fun i _ => by rw [commitPending_powerOn]; exact Bool.false_ne_true)
  exact ⟨rfl, slotSteady_of_closed rfl, .inr ⟨rfl, commits, rfl⟩⟩

/-! ### Transfers and commands (R159 to R165) -/

theorem calm_beginTransfer {p : Port} (h : calm s) : calm (beginTransfer p s) := by
  unfold beginTransfer
  dsimp only
  split
  · exact h
  · exact calm_setPort h _ _

theorem calm_acting (f : State → Answer × State) (s : State) : calm (acting f s).2 := calm_finish _

theorem calm_takeSearchNone {tag : Byte} (h : calm s) : calm (takeSearchNone tag s).2 := by
  unfold takeSearchNone
  split
  · exact calm_closeSearch h
  · exact h
  · exact h

theorem calm_takeSelect {p : Port} {x w i st : Byte} (h : calm s) : calm (takeSelect p x w i st s).2 := by
  unfold takeSelect
  dsimp only
  split
  · split
    · split
      · exact calm_setPort h _ _
      · exact h
    · exact h
  · exact h

theorem calm_takeReadParam {c : Byte} (h : calm s) : calm (takeReadParam c s).2 := by
  unfold takeReadParam
  split <;> exact h

theorem calm_takeCrashClear (h : calm s) : calm (takeCrashClear s).2 := by
  unfold takeCrashClear
  split
  · exact h
  · split
    · exact h
    · split
      · exact h
      · exact calm_setCrash h _

/-- A command that can call for an attempt or a write ends as an event does; the others leave both alone (R165). -/
theorem calm_effectOf {i : Instr} (h : calm s) : calm (effectOf i s).2 := by
  cases i with
  | latchRequest _ _ _ | childRequest _ _ _ | windowRequest _ _ _ _ | clearProfile _ _ | saveProfiles _ | present _ _ _ _ _
  | enroll _ _ _ _ | revoke _ _ | setParam _ _ _ | commitParams _ | crashNotify _ | restart _ | standby _ =>
    exact calm_acting _ s
  | clearNotices _ _ | setMask _ _ | readNext _ => exact calm_setPort h _ _
  | searchNone _ _ => exact calm_takeSearchNone h
  | select _ _ _ _ _ => exact calm_takeSelect h
  | readParam _ _ => exact calm_takeReadParam h
  | crashClear _ => exact calm_takeCrashClear h
  | _ => exact h

theorem calm_request {p : Port} {code : Byte} {i : Instr} (h : calm s) : calm (request p code (effectOf i) s) := by
  unfold request
  split
  · exact calm_setPort (calm_effectOf (calm_awaken h)) _ _
  · exact calm_setPort h _ _

theorem calm_testTransfer {p : Port} {bytes : List Byte} {trailing : Bool} (h : calm s) :
    calm (testTransfer p bytes trailing s) := by
  unfold testTransfer
  dsimp only
  split
  · exact calm_setPort h _ _
  · split
    · exact calm_setPort h _ _
    · split
      · exact calm_setPort h _ _
      · exact calm_request h

theorem calm_transferBegins {p : Port} (h : calm s) : calm (transferBegins p s) := calm_beginTransfer (calm_awaken h)

theorem calm_transferEnd {p : Port} {tested : State → State} (h : calm s) (keeps : ∀ {u}, calm u → calm (tested u)) :
    calm (transferEnd p tested s) := by
  have begun : calm (if (s.port p).transfer.isSome then s else transferBegins p s) := by
    split
    · exact h
    · exact calm_transferBegins h
  unfold transferEnd
  dsimp only
  generalize (if (s.port p).transfer.isSome then s else transferBegins p s) = u at begun
  have ended : calm (endTransfer p u) := calm_setPort begun _ _
  split
  · split
    · exact ended
    · exact keeps ended
  · exact begun

/-- The row of a port command is the end of the transfer that carries it (R165). -/
theorem exec_of_encodeRequest {i : Instr} {p : Port} {code : Byte} {args : List Byte}
    (command : encodeRequest i = some (p, code, args)) (s : State) : exec i s = commandRow p code (effectOf i) s := by
  cases i <;> cases command <;> rfl

/-! ### Every command and every step -/

theorem calm_exec {i : Instr} (h : calm s) (e : exec i s = .next t) : calm t := by
  cases command : encodeRequest i with
  | some x =>
    rw [exec_of_encodeRequest command] at e
    cases e
    exact calm_transferEnd h calm_request
  | none =>
    cases i with
    | powerOnReset pins => cases e; exact calm_powerOn _ _ _
    | portsEnabled =>
      cases e
      split
      · exact calm_setCrash (calm_powerOn .ACTIVE s.pins s) s.crash
      · exact h
    | contactChange _ _ | ajarChange _ _ | windowSwitchChange _ _ | touch _ _ | sensorSupplyChange _ _
    | groupOvercurrent _ _ | windowOvercurrent _ _ => cases e; exact calm_lineEvent h (calm_setPins h _) _
    | centralLockRocker _ | keyCylinder _ | childSafetyButton | supplySample _ | panelKeyInputRelease _ =>
      cases e; exact calm_event (calm_setPins h _) _
    | qualifiedEdge _ _ _ => cases e; exact calm_event h _
    | crashInChange active =>
      cases e
      have level := calm_setPins h { s.pins with crashIn := active }
      split
      · exact h
      · dsimp only
        split
        · exact calm_followLine level ‹_›
        · exact calm_event level _
    | transferBegin p => cases e; exact calm_transferBegins h
    | transferEnd p bytes trailing => cases e; exact calm_transferEnd h calm_testTransfer
    | sensedInvalidExpiry _ | overcurrentFaultClear _ | qualificationTimerExpiry | quietTimerExpiry | strokeEnd _ _
    | retryWaitExpiry _ | strokeCountDecay _ | relockTimerExpiry | brakingTimerExpiry _ | stall _ | heatingTimerExpiry _
    | coolingTimerExpiry _ | tallyTimerExpiry _ | jobTurnsBlocking _ | candidateLifetimeExpiry _ | startTimerExpiry
    | gapTimerExpiry | searchExpiry | holdOffEnd _ | readingExpired _ | commitWriteComplete | profileWriteComplete
    | enrollWriteComplete | revokeWriteComplete | paramWriteComplete => cases e; exact calm_expiry h _ _
    | _ => cases command

end

/-- Settles O55: a command, an expiry or a tick starts from a state that differs from `s` outside the five fields of calm. -/
theorem calmKeptByEveryStep : Obligations.CalmKeptByEveryStep := by
  intro s t h e
  unfold step at e
  split at e
  · rename_i rest _
    exact calm_exec (s := { s with pending := rest }) (calm_congr rfl rfl rfl rfl rfl h) e
  · unfold idle at e
    dsimp only at e
    split at e
    · refine calm_exec ?_ e
      unfold spendChoice
      split
      · exact calm_congr (s := s) rfl rfl rfl rfl rfl h
      · exact h
    · cases e
      unfold tick
      split
      · exact h
      · exact calm_congr (s := s) rfl rfl rfl rfl rfl h

end Sys2Proof.Machine

/-! ## A queued job turns blocking, and what its flag does (R97, R101, R102): O34 -/

namespace Sys2Proof.Machine

open Sys2Proof

section
variable {s : State} {j : Job}

/-! ### The flag in the queue -/

theorem exec_jobTurnsBlocking (ho : operating s) (queued : s.queuedJob j.id = some j) (waits : j.blocking = false)
    (due : timerDue s.now ⟨j.enqueued.time, 2000⟩ = true) :
    exec (.jobTurnsBlocking j.id) s = .next (finish (trigger { s with
      queue := s.queue.map (fun x => if x.id = j.id then { x with blocking := true } else x) })) := by
  have runs : (s.queuedJob j.id).bind blockingTimer = some ⟨j.enqueued.time, 2000⟩ := by
    simp [queued, blockingTimer, waits, blockingAge]
  have row : exec (.jobTurnsBlocking j.id) s = .next (finish (blockingWork j.id s)) :=
    congrArg Host.Outcome.next (expiry_due ho runs due (blockingWork j.id))
  rw [row, blockingWork, changeQueued_eq]
  simp only [decide_eq_true_eq]

/-- A job takes its place between two parts of the queue as it stands (R89). -/
theorem insertByAge_split (now : Time) (j : Job) (q : List Job) :
    ∃ older younger, q = older ++ younger ∧ insertByAge now j q = older ++ j :: younger := by
  induction q with
  | nil => exact ⟨[], [], rfl, rfl⟩
  | cons x q ih =>
    unfold insertByAge
    split
    · exact ⟨[], x :: q, rfl, rfl⟩
    · obtain ⟨older, younger, whole, inserted⟩ := ih
      exact ⟨x :: older, younger, congrArg (x :: ·) whole, congrArg (x :: ·) inserted⟩

/-- A change of queued jobs in place keeps what the change of each keeps. -/
theorem map_changeQueued {α : Type} {v : Job → α} {f : Job → Job} (kind : Job → Bool) (kept : ∀ x, v (f x) = v x) (s : State) :
    (changeQueued kind f s).queue.map v = s.queue.map v := by
  rw [changeQueued_eq, List.map_map]
  refine List.map_congr_left (fun x _ => ?_)
  dsimp only [Function.comp_apply]
  split
  · exact kept x
  · rfl

theorem replaceJob_queue (j : Job) (t : WindowTask) (p : Priority) (s : State) : (replaceJob j t p s).2.queue =
    (changeQueued (·.namesWindow t.win) (fun x => { x with targets := .window t, priority := p }) s).queue := by
  unfold replaceJob
  dsimp only
  split <;> rfl

/-- A job that loses an actuator changes its targets alone (R87, R91). -/
theorem without_targets {a : Act} {i : Job} (h : i.without a = some j) : j = { i with targets := j.targets } := by
  unfold Job.without at h
  dsimp only at h
  split at h
  · split at h
    · split at h
      · cases h
      · cases h
        rfl
    · cases h
      rfl
  · cases h
    rfl

/-- Scan order reads priorities and ids alone (R97). -/
theorem scanOrder_map {f : Job → Job} (priority : ∀ x, (f x).priority = x.priority) (id : ∀ x, (f x).id = x.id) (q : List Job) :
    scanOrder (q.map f) = scanOrder q := by
  simp only [scanOrder, List.filter_map, List.map_append, List.map_map, Function.comp_def, priority, id]

/-! ### A job that fails in the scan (R97, R101, R102) -/

theorem mem_shedWindow (w : Win) (queued : j ∈ s.queue) : j ∈ (shedWindow w s).queue := by
  unfold shedWindow
  dsimp only
  split
  · unfold requeueComfort
    dsimp only
    split
    · exact queued
    · simp only [enterQueue, trigger_queue, setQueue_queue]
      exact mem_insertByAge.mpr (.inr queued)
  · exact queued

theorem mem_shedRuns {ws : List Win} {covered need : Nat} (queued : j ∈ s.queue) : j ∈ (shedRuns ws covered need s).queue := by
  induction ws generalizing covered s with
  | nil => exact queued
  | cons w ws ih =>
    unfold shedRuns
    split
    · exact queued
    · exact ih (mem_shedWindow w queued)

/-- The job for which runs are shed stays in the queue with its blocking flag (R101, R102). -/
theorem mem_shedFor {cost : Nat} (queued : j ∈ s.queue) :
    ∃ x ∈ (shedFor j cost s).queue, x.id = j.id ∧ x.blocking = j.blocking := by
  unfold shedFor
  dsimp only
  split
  · exact ⟨j, queued, rfl, rfl⟩
  · split
    · exact ⟨j, queued, rfl, rfl⟩
    · rw [changeQueued_eq]
      refine ⟨{ j with shed := true }, List.mem_map.mpr ⟨j, mem_shedRuns queued, ?_⟩, rfl, rfl⟩
      simp

/-- The state in which a failed visit leaves the scan: the first job that fails, and on units alone, has runs shed (R102). -/
def visitFailed (j : Job) (failedBefore : Bool) (unitsAlone : Option Nat) (s : State) : State :=
  match failedBefore, unitsAlone with
  | false, some cost => shedFor j cost s
  | _, _ => s

theorem mem_visitFailed {b : Bool} {why : Option Nat} (queued : j ∈ s.queue) :
    ∃ x ∈ (visitFailed j b why s).queue, x.id = j.id ∧ x.blocking = j.blocking := by
  unfold visitFailed
  split
  · exact mem_shedFor queued
  · exact ⟨j, queued, rfl, rfl⟩

/-- A job that fails stops the scan where it is blocking (R97, R101). -/
theorem scanJobs_failed {b : Bool} {why : Option Nat} (queued : s.queuedJob j.id = some j) (failed : visit j s = .failed why)
    (ids : List Nat) : scanJobs (j.id :: ids) b s =
      if j.blocking then visitFailed j b why s else scanJobs ids true (visitFailed j b why s) := by
  have found : s.queue.find? (fun x => x.id = j.id) = some j := queued
  simp only [scanJobs, found, failed]
  rfl

end

/-- Settles O34: the flag changes with the queue's other jobs in place, and a scan goes on behind a failed job only where that is
not blocking (`scanJobs_failed`). -/
theorem jobTurnsBlocking : Obligations.JobTurnsBlocking := by
  intro j t p a ids flag why s
  dsimp only
  refine ⟨exec_jobTurnsBlocking, fun old => ⟨rfl, ?_⟩, ?_, fun x mem => ?_,
    scanOrder_map (f := fun x => { x with blocking := flag }) (fun _ => rfl) (fun _ => rfl) s.queue,
    fun queued failed => ⟨fun blocking => ?_, fun waits => ?_⟩⟩
  · have flagged : (j.blocking || decide (blockingAge ≤ ageAt s.now j.enqueued)) = true := by
      rw [show decide (blockingAge ≤ ageAt s.now j.enqueued) = true from decide_eq_true old, Bool.or_true]
    unfold enterQueue
    dsimp only
    rw [flagged, trigger_queue, setQueue_queue]
    exact insertByAge_split s.now { j with blocking := true } s.queue
  · rw [replaceJob_queue]
    exact map_changeQueued (f := fun x => { x with targets := .window t, priority := p }) _ (fun _ => rfl) s
  · obtain ⟨y, left, rfl⟩ := List.mem_map.mp mem
    rw [dropQueued_queue] at left
    obtain ⟨i, queued, taken⟩ := List.mem_filterMap.mp left
    exact List.mem_map.mpr ⟨i, queued, by rw [without_targets taken]⟩
  · have stops : ∀ ids, scanJobs (j.id :: ids) flag s = visitFailed j flag why s := fun ids => by
      rw [scanJobs_failed queued failed, if_pos blocking]
    rw [stops, stops, ← blocking]
    exact ⟨rfl, mem_visitFailed (List.mem_of_find?_eq_some queued)⟩
  · have goesOn : ∀ ids, scanJobs (j.id :: ids) flag s = scanJobs ids true (visitFailed j flag why s) := fun ids => by
      rw [scanJobs_failed queued failed, if_neg (by rw [waits]; exact Bool.false_ne_true)]
    rw [goesOn, goesOn]
    rfl

end Sys2Proof.Machine

/-! ## Bit places of the reads (R106, R145, R160, R167 to R169, R172): O47

The fields of an answer stand one after another (`placesFrom`), so a read holds each field at its place once its fields are
known (`read_holds`); what is left for each read is to name them. -/

namespace Sys2Proof.Machine

open Sys2Proof

/-! ### Where the fields of an answer stand -/

/-- The places of bit fields that stand one after another from a first bit on: first bit, width and value. -/
def placesFrom : Nat → List (Nat × Nat) → List (Nat × Nat × Nat)
  | _, [] => []
  | first, (w, v) :: fs => (first, w, v) :: placesFrom (first + w) fs

theorem mem_placesFrom {first : Nat} {fs : List (Nat × Nat)} {x : Nat × Nat × Nat} (h : x ∈ placesFrom first fs) :
    ∃ as bs, fs = as ++ x.2 :: bs ∧ x.1 = first + (as.map (·.1)).sum := by
  induction fs generalizing first with
  | nil => exact absurd h List.not_mem_nil
  | cons f fs ih =>
    rcases List.mem_cons.mp h with rfl | later
    · exact ⟨[], fs, rfl, rfl⟩
    · obtain ⟨as, bs, whole, place⟩ := ih later
      refine ⟨f :: as, bs, congrArg (f :: ·) whole, ?_⟩
      rw [place, List.map_cons, List.sum_cons, Nat.add_assoc]

theorem placesFrom_append (first : Nat) (as bs : List (Nat × Nat)) :
    placesFrom first (as ++ bs) = placesFrom first as ++ placesFrom (first + (as.map (·.1)).sum) bs := by
  induction as generalizing first with
  | nil => rfl
  | cons a as ih =>
    simp only [List.cons_append, placesFrom, ih, List.map_cons, List.sum_cons, Nat.add_assoc]

/-- Packed fields are held at their places (R160). -/
theorem holdsAt_packData {fs : List (Nat × Nat)} (fits : (fs.map (·.1)).sum ≤ 72) : holdsAt (packData fs) (placesFrom 0 fs) := by
  rintro ⟨first, w, v⟩ mem
  obtain ⟨as, bs, rfl, place⟩ := mem_placesFrom mem
  dsimp only at place ⊢
  rw [place, Nat.zero_add]
  refine packData_place as bs w v (le_trans ?_ fits)
  simp only [List.map_append, List.map_cons, List.sum_append, List.sum_cons]
  omega

/-- The bits behind the last field read as a field of zeros. -/
theorem doneWith_tail (fs : List (Nat × Nat)) (n : Nat) : Answer.doneWith fs = Answer.doneWith (fs ++ [(n, 0)]) := by
  simp [Answer.doneWith, packData, packFields_append, packFields]

section
variable {s : State} {p : Port}

/-- The reads with a layout are permitted on both ports (R165). -/
theorem permittedOn_read {code : Byte} (read : code ∈ [0x10#8, 0x20#8, 0x32#8, 0x33#8, 0x41#8]) (p : Port) :
    permittedOn p code = true := by
  revert code
  cases p <;> decide

/-- A read of a listening port holds the fields of its answer at their places (R160, R164). -/
theorem read_holds {i : Instr} {code : Byte} {args : List Byte} {fs : List (Nat × Nat)} (listens : listening p s)
    (answer : (effectOf i (arrived p s)).1 = Answer.doneWith fs) (command : encodeRequest i = some (p, code, args))
    (read : code ∈ [0x10#8, 0x20#8, 0x32#8, 0x33#8, 0x41#8]) (fits : (fs.map (·.1)).sum ≤ 72)
    {places : List (Nat × Nat × Nat)} (layout : places ⊆ placesFrom 0 fs) :
    ∃ u, exec i s = .next u ∧ (u.port p).slot.status = .DONE ∧ holdsAt (u.port p).slot.data places := by
  refine ⟨_, (exec_of_encodeRequest command s).trans (commandRow_listening listens (permittedOn_read read p)), ?_⟩
  rw [slot_respond, answer]
  exact ⟨rfl, fun x mem => holdsAt_packData fits x (layout mem)⟩

/-! ### The fields of each read -/

theorem pinchPage1_eq (s : State) (w : Win) :
    let pinched := fun (v : LastPinch → Nat) (absent : Nat) => ((s.win w).mon.lastPinch.map v).getD absent
    pinchPage1 s w = [(2, pinched (fun c => pinchCauseCode c.cause) 3), (16, pinched (·.position) 65535),
      (6, pinched (fun c => c.zone.getD 63) 63), (2, pinched (fun c => pinchTestCode c.test) 3), (16, pinched (·.F) 65535)] := by
  unfold pinchPage1 causeField
  dsimp only
  cases (s.win w).mon.lastPinch <;> rfl

theorem pinchPage2_eq (s : State) (w : Win) :
    let pinched := fun (v : LastPinch → Nat) (absent : Nat) => ((s.win w).mon.lastPinch.map v).getD absent
    pinchPage2 s w = [(2, pinched (fun c => pinchCauseCode c.cause) 3), (16, pinched (·.reference) 65535),
      (16, pinched (·.Fmin) 65535)] := by
  unfold pinchPage2 causeField
  dsimp only
  cases (s.win w).mon.lastPinch <;> rfl

theorem searchPage0_open {x : OpenSearch} (opened : s.search.current = some x) : searchPage0 s =
    [(2, 0), (8, x.tag), (1, purposeCode x.purpose), (3, searchSet x.latches), (16, ageField s x.opened), (16, 0), (3, 7),
      (8, s.search.nextTag)] := by
  simp only [searchPage0, opened]

theorem searchPage0_closed {y : ClosedSearch} (shut : s.search.current = none) (closed : s.search.last = some y) :
    searchPage0 s = [(2, 1), (8, y.tag), (1, purposeCode y.purpose), (3, searchSet y.latches), (16, openTime y),
      (16, ageField s y.closed), (3, outcomeCode y.outcome), (8, s.search.nextTag)] := by
  simp only [searchPage0, shut, closed]

theorem searchPage0_never (shut : s.search.current = none) (never : s.search.last = none) : searchPage0 s =
    [(2, 2), (8, 0), (1, 1), (3, 7), (16, 65535), (16, 65535), (3, 7), (8, s.search.nextTag)] := by
  simp only [searchPage0, shut, never]
  rfl

theorem holdOffLeft_eq (s : State) (l : Latch) : holdOffLeft s l = ((s.search.holdOff l).map (timerLeft s.now)).getD 0 := by
  unfold holdOffLeft
  cases s.search.holdOff l <;> rfl

theorem entryFields_eq (s : State) :
    let entered := fun (v : EntryRecord → Nat) => (s.entry.map v).getD 0
    entryFields s = [(1, bit s.entry.isSome), (2, entered (fun e => entryButtonCode e.button)), (3, entered (·.slot.val)),
      (1, entered (fun e => portCode e.port)), (16, entered (fun e => ageField s e.time))] := by
  unfold entryFields
  cases s.entry <;> rfl

theorem holdFields_eq (s : State) :
    let hold := fun (v : Nat) => if s.hold.present then v else 0
    holdFields s = [(1, bit s.hold.present), (1, hold (bit s.hold.isOpen)), (3, hold s.hold.slot.val),
      (1, hold (portCode s.hold.port)), (1, hold (bit s.hold.started)), (16, hold (ageField s s.hold.start)),
      (16, hold (ageField s s.hold.lastFrame))] := by
  unfold holdFields
  dsimp only
  cases s.hold.present <;> rfl

theorem fobEntry_eq (s : State) (i : Fin 8) : fobEntry s i.val =
    [(3, i.val), (2, slotStatusCode (s.fob i).status), (1, bit (s.fob i).candidate.isSome),
      (32, if (s.fob i).status = .ACTIVE then (s.fob i).identity.toNat else 0),
      (24, if (s.fob i).status = .ACTIVE then (s.fob i).C else 0), (8, (s.fob i).rejects)] := by
  have found : s.fobs.toList[i.val]? = some (s.fob i) := by simp [State.fob]
  simp only [fobEntry, found, decide_eq_true_eq]

theorem profileEntry_eq (s : State) (w : Win) (z : Fin 32) : profileEntry s w z.val =
    [(2, winCode w), (5, z.val), (16, (s.win w).profile.R[z]), (16, (s.win w).profile.L.getD 0), (1, bit (s.learned w)),
      (1, bit (s.win w).mon.marked)] := by
  simp [profileEntry]

/-! ### The answer of each read -/

theorem readWindow_answer {w : Win} {window page : Byte} {fs : List (Nat × Nat)} (p : Port) (named : winOf window = some w)
    (found : windowPage s w page.toNat = some fs) :
    (effectOf (.readWindow p window page) (arrived p s)).1 = Answer.doneWith fs := by
  have kept : ∀ w n, windowPage (arrived p s) w n = windowPage s w n := fun _ _ => rfl
  simp only [effectOf, takeReadWindow, named, Option.bind_some, kept, found, pageAnswer]

theorem readSearch_answer {page : Byte} {fs : List (Nat × Nat)} (p : Port) (found : searchPage s page.toNat = some fs) :
    (effectOf (.readSearch p page) (arrived p s)).1 = Answer.doneWith fs := by
  have kept : ∀ n, searchPage (arrived p s) n = searchPage s n := fun _ => rfl
  simp only [effectOf, takeReadSearch, kept, found, pageAnswer]

theorem readLastEntry_answer {page : Byte} {fs : List (Nat × Nat)} (p : Port) (found : lastEntryPage s page.toNat = some fs) :
    (effectOf (.readLastEntry p page) (arrived p s)).1 = Answer.doneWith fs := by
  have kept : ∀ n, lastEntryPage (arrived p s) n = lastEntryPage s n := fun _ => rfl
  simp only [effectOf, takeReadLastEntry, kept, found, pageAnswer]

/-- The answer of READ_NEXT is the entry at the cursor (R172). -/
theorem readNext_answer (p : Port) (s : State) :
    (effectOf (.readNext p) (arrived p s)).1 = Answer.doneWith (cursorEntry s (s.port p).cursor) := by
  have kept : ((arrived p s).port p).cursor = (s.port p).cursor := by cases p <;> rfl
  have entry : ∀ c, cursorEntry (arrived p s) c = cursorEntry s c := fun _ => rfl
  show Answer.doneWith (cursorEntry (arrived p s) ((arrived p s).port p).cursor) = _
  rw [kept, entry]

/-- Two fields of zeros read as one. -/
theorem packFields_zeros (v w : Nat) (fs : List (Nat × Nat)) :
    packFields ((v, 0) :: (w, 0) :: fs) = packFields ((v + w, 0) :: fs) := by
  simp [packFields, pow_add, Nat.mul_assoc]

/-- An entry that the queue does not have is zeros in front of the summary (R172). -/
theorem queueEntry_none {k : Nat} (none : s.queue[k]? = none) :
    Answer.doneWith (queueEntry s k) = Answer.doneWith ((54, 0) :: queueSummary s) := by
  simp only [Answer.doneWith, packData, queueEntry, none, List.cons_append, List.nil_append, packFields_zeros, Nat.reduceAdd]

theorem queueEntry_some {k : Nat} {j : Job} (found : s.queue[k]? = some j) : queueEntry s k =
    [(8, j.id), (4, originCode j.origin), (2, classCode j), (1, priorityCode j.priority), (1, bit j.blocking), (1, bit j.shed)] ++
      targetFields j ++ [(16, ageField s j.enqueued)] ++ queueSummary s := by
  simp only [queueEntry, found]

/-- The targets of a job of every class take 21 bits (R172). -/
theorem targetFields_width (j : Job) : ((targetFields j).map (·.1)).sum = 21 := by
  unfold targetFields
  split
  · split <;> rfl
  · rfl

/-- The places of an entry: its head, its targets from bit 17 on, its age and the summary (R106, R172). -/
theorem queueEntry_places {k : Nat} {j : Job} (found : s.queue[k]? = some j) : placesFrom 0 (queueEntry s k ++ [(1, 0)]) =
    [(0, 8, j.id), (8, 4, originCode j.origin), (12, 2, classCode j), (14, 1, priorityCode j.priority), (15, 1, bit j.blocking),
      (16, 1, bit j.shed)] ++ placesFrom 17 (targetFields j) ++ [(38, 16, min (ageAt s.now j.enqueued) 65535),
      (54, 5, s.queue.length), (59, 1, bit s.nearFull), (60, 5, s.units), (65, 5, s.params.driveBudget),
      (70, 1, bit s.slot.isOpen), (71, 1, 0)] := by
  rw [queueEntry_some found]
  simp only [placesFrom_append, targetFields_width, List.append_assoc]
  rfl

/-- The class and the targets of an entry stand among its other places. -/
theorem subset_of_entry_order {α : Type} (id origin cls priority blocking shed age : α) (targets summary : List α) :
    [id, origin, priority, blocking, shed, age] ++ summary ++ cls :: targets ⊆
      [id, origin, cls, priority, blocking, shed] ++ targets ++ age :: summary := by
  intro x mem
  simp only [List.mem_append, List.mem_cons, List.not_mem_nil, or_false] at mem ⊢
  tauto

theorem isChildGoal_iff {g : Goal} : isChildGoal g = true ↔ g = .ENGAGE ∨ g = .RELEASE := by cases g <;> simp [isChildGoal]

/-- The class of a lock job and its targets (R172). -/
theorem lockTarget_places {j : Job} {g : Goal} {as : List Act} (targets : j.targets = .lock g as) :
    (12, 2, classCode j) :: placesFrom 17 (targetFields j) = if g = .ENGAGE ∨ g = .RELEASE then
        [(12, 2, 1), (17, 2, childBits as), (19, 1, if g = .ENGAGE then 0 else 1), (20, 18, 0)]
      else [(12, 2, 0), (17, 5, latchBits as), (22, 2, goalCode g), (24, 14, 0)] := by
  simp only [classCode, targetFields, targets, isChildGoal_iff]
  cases g <;> rfl

theorem windowTarget_places {j : Job} {t : WindowTask} (targets : j.targets = .window t) :
    (12, 2, classCode j) :: placesFrom 17 (targetFields j) = [(12, 2, 2), (17, 2, winCode t.win), (19, 2, runModeCode t.mode),
      (21, 1, dirCode t.dir), (22, 16, t.target.getD 65535)] := by
  simp only [classCode, targetFields, targets]
  rfl

end

/-- Settles O47, read by read: its fields one after another, with a field of zeros for the bits that no field takes. -/
theorem readLayouts : Obligations.ReadLayouts := by
  intro p w window x y i z k j s listens named
  dsimp only
  refine ⟨?_, ?_, ?_, ?_, ?_, fun opened => ?_, fun shut closed => ?_, fun shut never => ?_, ?_, ?_, ?_, fun table index => ?_,
    fun table index view => ?_, fun table index none => ?_, fun table index found => ?_⟩
  · exact read_holds (i := .readLatches p) listens (doneWith_tail _ 4) rfl (by decide)
      (by simp [Latch.all, Child.all, latchFields, childFields]) (fun _ mem => mem)
  · exact read_holds listens
      ((readWindow_answer p named (page := 0#8) rfl).trans (doneWith_tail (motionPage s w) 7)) rfl (by decide)
      (by simp [motionPage]) (fun _ mem => mem)
  · exact read_holds listens
      ((readWindow_answer p named (page := 1#8) rfl).trans (doneWith_tail (travelPage s w) 29)) rfl (by decide)
      (by simp [travelPage]) (fun _ mem => mem)
  · exact read_holds listens
      ((readWindow_answer p named (page := 2#8) (congrArg some (pinchPage1_eq s w))).trans (doneWith_tail _ 30)) rfl (by decide)
      (by simp) (fun _ mem => mem)
  · exact read_holds listens
      ((readWindow_answer p named (page := 3#8) (congrArg some (pinchPage2_eq s w))).trans (doneWith_tail _ 38)) rfl (by decide)
      (by simp) (fun _ mem => mem)
  · exact read_holds listens (readSearch_answer p (page := 0#8) (congrArg some (searchPage0_open opened))) rfl
      (by decide) (by simp) (fun _ mem => mem)
  · exact read_holds listens (readSearch_answer p (page := 0#8) (congrArg some (searchPage0_closed shut closed))) rfl
      (by decide) (by simp) (fun _ mem => mem)
  · exact read_holds listens (readSearch_answer p (page := 0#8) (congrArg some (searchPage0_never shut never))) rfl
      (by decide) (by simp) (fun _ mem => mem)
  · simp only [← holdOffLeft_eq]
    exact read_holds listens (readSearch_answer p (page := 1#8) (fs := searchPage1 s) rfl) rfl (by decide)
      (by simp [searchPage1]) (fun _ mem => mem)
  · exact read_holds listens (readLastEntry_answer p (page := 0#8)
      (congrArg some (congrArg₂ (· ++ ·) (entryFields_eq s) (holdFields_eq s)))) rfl (by decide) (by simp)
      (fun _ mem => mem)
  · exact read_holds listens (readLastEntry_answer p (page := 1#8) rfl) rfl (by decide) (by simp) (fun _ mem => mem)
  · have entry : cursorEntry s (s.port p).cursor = fobEntry s i.val := by simp only [cursorEntry, table, index]
    exact read_holds listens ((readNext_answer p s).trans (congrArg Answer.doneWith (entry.trans (fobEntry_eq s i)))) rfl
      (by decide) (by simp) (fun _ mem => mem)
  · have entry : cursorEntry s (s.port p).cursor = profileEntry s w z.val := by simp only [cursorEntry, table, index, view]
    exact read_holds listens ((readNext_answer p s).trans (congrArg Answer.doneWith (entry.trans (profileEntry_eq s w z)))) rfl
      (by decide) (by simp) (fun _ mem => mem)
  · have entry : cursorEntry s (s.port p).cursor = queueEntry s k := by simp only [cursorEntry, table, index]
    have answer := (congrArg Answer.doneWith entry).trans (queueEntry_none none)
    exact read_holds listens ((readNext_answer p s).trans (answer.trans (doneWith_tail _ 1))) rfl (by decide)
      (by simp [queueSummary]) (fun _ mem => mem)
  · have entry : cursorEntry s (s.port p).cursor = queueEntry s k := by simp only [cursorEntry, table, index]
    have answer := (readNext_answer p s).trans ((congrArg Answer.doneWith entry).trans (doneWith_tail _ 1))
    refine read_holds listens answer rfl (by decide)
      (by simp [queueEntry_some found, targetFields_width, queueSummary]) ?_
    rw [queueEntry_places found]
    cases targets : j.targets with
    | lock g as =>
      dsimp only
      rw [← lockTarget_places targets]
      exact subset_of_entry_order ..
    | window t =>
      dsimp only
      rw [← windowTarget_places targets]
      exact subset_of_entry_order ..

end Sys2Proof.Machine

/-! ## The fob slots as the store gives them (R111, R112, R122): O6

A record is loaded against the identities of the ACTIVE slots below it (`loadedFobs_entry`), so no two ACTIVE slots hold one
identity. -/

namespace Sys2Proof.Machine
open Sys2Proof

section
variable {taken : List (BitVec 32)} {x : StoredSlot} {v : Vector StoredSlot 8}

/-! ### One slot -/

theorem loadedSlot_active_iff : (loadedSlot taken x).status = .ACTIVE ↔
    x.ok = true ∧ x.active = true ∧ x.identity ≠ 0#32 ∧ x.identity ∉ taken := by
  unfold loadedSlot
  split
  · simp_all [corruptSlot]
  · split
    · simp_all [FobSlot.empty]
    · split
      · rename_i fault
        have spoilt : ¬(x.identity ≠ 0#32 ∧ x.identity ∉ taken) := fun ⟨named, free⟩ => fault.elim named free
        simp_all [corruptSlot]
      · simp_all [activeFob]

theorem loadedSlot_of_active (active : (loadedSlot taken x).status = .ACTIVE) : loadedSlot taken x = activeFob x := by
  obtain ⟨ok, on, named, free⟩ := loadedSlot_active_iff.mp active
  simp [loadedSlot, ok, on, named, free]

/-! ### The slots in their order -/

/-- A slot is loaded against the identities that were taken from the start and those of the ACTIVE slots below it. -/
theorem loadSlots_entry {xs : List StoredSlot} {n : Nat} (stored : xs[n]? = some x) :
    ∃ held, (loadSlots taken xs)[n]? = some (loadedSlot held x) ∧ ∀ identity, identity ∈ held ↔ identity ∈ taken ∨
      ∃ k f, k < n ∧ (loadSlots taken xs)[k]? = some f ∧ f.status = .ACTIVE ∧ f.identity = identity := by
  induction xs generalizing taken n with
  | nil => cases stored
  | cons y ys ih =>
    cases n with
    | zero =>
      cases stored
      exact ⟨taken, rfl, fun _ => ⟨.inl, fun h => h.resolve_right (fun ⟨_, _, below, _⟩ => Nat.not_lt_zero _ below)⟩⟩
    | succ n =>
      let f := loadedSlot taken y
      obtain ⟨held, entry, names⟩ := ih (taken := if f.status = .ACTIVE then f.identity :: taken else taken) stored
      refine ⟨held, entry, fun identity => (names identity).trans ?_⟩
      have first : (identity ∈ if f.status = .ACTIVE then f.identity :: taken else taken) ↔
          identity ∈ taken ∨ (f.status = .ACTIVE ∧ f.identity = identity) := by
        split <;> simp_all [or_comm, eq_comm]
      rw [first, or_assoc]
      refine or_congr_right ⟨?_, ?_⟩
      · rintro (⟨active, named⟩ | ⟨k, g, below, found, law⟩)
        · exact ⟨0, f, Nat.succ_pos n, rfl, active, named⟩
        · exact ⟨k + 1, g, Nat.succ_lt_succ below, found, law⟩
      · rintro ⟨k, g, below, found, law⟩
        cases k with
        | zero =>
          cases found
          exact .inl law
        | succ k => exact .inr ⟨k, g, Nat.lt_of_succ_lt_succ below, found, law⟩

theorem loadedFobs_of_entry {i : Fin 8} {f : FobSlot} (found : (loadSlots [] v.toList)[i.val]? = some f) :
    (loadedFobs v)[i] = f := by
  simp [loadedFobs, found]

/-- A slot of the table is its record, loaded against the identities of the lower-numbered ACTIVE slots (R122). -/
theorem loadedFobs_entry (v : Vector StoredSlot 8) (i : Fin 8) :
    ∃ held, (loadedFobs v)[i] = loadedSlot held v[i] ∧ ∀ identity, identity ∈ held ↔
      ∃ k : Fin 8, k < i ∧ (loadedFobs v)[k].status = .ACTIVE ∧ (loadedFobs v)[k].identity = identity := by
  have stored : v.toList[i.val]? = some v[i] := by simp
  obtain ⟨held, entry, names⟩ := loadSlots_entry (taken := []) stored
  refine ⟨held, loadedFobs_of_entry entry, fun identity => (names identity).trans ?_⟩
  constructor
  · rintro (none | ⟨k, f, below, found, law⟩)
    · exact absurd none List.not_mem_nil
    · exact ⟨⟨k, below.trans i.isLt⟩, below, by rwa [loadedFobs_of_entry found]⟩
  · rintro ⟨k, below, law⟩
    have stored : v.toList[k.val]? = some v[k] := by simp
    obtain ⟨_, found, _⟩ := loadSlots_entry (taken := []) stored
    refine .inr ⟨k.val, _, below, found, ?_⟩
    rwa [loadedFobs_of_entry found] at law

/-- Of two ACTIVE slots the higher-numbered does not repeat the identity of the lower (R112). -/
theorem loadedFobs_distinct {i k : Fin 8} (below : k < i) (active : (loadedFobs v)[i].status = .ACTIVE)
    (other : (loadedFobs v)[k].status = .ACTIVE) : (loadedFobs v)[i].identity ≠ (loadedFobs v)[k].identity := by
  obtain ⟨held, entry, names⟩ := loadedFobs_entry v i
  rw [entry] at active ⊢
  obtain ⟨-, -, -, free⟩ := loadedSlot_active_iff.mp active
  rw [loadedSlot_of_active active]
  exact fun same => free ((names _).mpr ⟨k, below, other, same.symm⟩)

theorem loadedFobs_unique {i k : Fin 8} (active : (loadedFobs v)[i].status = .ACTIVE)
    (other : (loadedFobs v)[k].status = .ACTIVE)
    (same : (loadedFobs v)[i].identity = (loadedFobs v)[k].identity) : i = k := by
  rcases lt_trichotomy i k with below | rfl | below
  · exact absurd same.symm (loadedFobs_distinct below other active)
  · rfl
  · exact absurd same (loadedFobs_distinct below active other)

end

/-- Settles O6: each slot is its record loaded against the identities below it. -/
theorem loadedSlotsAreUnique : Obligations.LoadedSlotsAreUnique := by
  intro v i x f taken
  obtain ⟨held, entry, names⟩ := loadedFobs_entry v i
  have entry : f = loadedSlot held x := entry
  have names : x.identity ∈ held ↔ taken := names x.identity
  rw [← names]
  refine ⟨fun bad => ?_, fun ok empty => ?_, fun ok on fault => ?_, fun ok on named free => ?_,
    fun k active other same => loadedFobs_unique active other same⟩
  · rw [entry, loadedSlot, if_pos bad, corruptSlot]
  · rw [entry, loadedSlot, if_neg (by simp [ok]), if_pos empty]
  · rw [entry, loadedSlot, if_neg (by simp [ok]), if_neg (by simp [on]), if_pos fault, corruptSlot]
  · rw [entry, loadedSlot_of_active (loadedSlot_active_iff.mpr ⟨ok, on, named, free⟩)]
    rfl

end Sys2Proof.Machine

/-! ## What leaves the fobs and the writes alone (R111, R121, R163, R178)

`fobView s` is what the laws of the counters and of the fob table speak of. The operations on locks, windows, searches, the
hold and the crash record leave it, since what they change of the writer and of Port M is not part of it. -/

namespace Sys2Proof.Machine

open Sys2Proof

/-- The fob slots, what is being written and what waits to be written for a port, and Port M's command and transfer. -/
structure FobPart where
  fobs : Vector FobSlot 8
  writing : Option Payload
  portQueue : List PortWrite
  inFlight : Option Byte
  transfer : Option Transfer

def fobPart (s : State) : FobPart :=
  ⟨s.fobs, s.writer.running.map (·.payload), s.writer.portQueue, (s.port .M).inFlight, (s.port .M).transfer⟩

/-- The fobs lie outside what drives, queues and their notices may change, so an operation with an `outside` law leaves
their view by that law. -/
abbrev fobView (s : State) : FobPart := fobPart (outside s)

section
variable {s : State} {w : Win} {a : Act} {p : Port} {sw : Switch} {d : Dir}

theorem fobView_foldl {α : Type} {f : State → α → State} (same : ∀ s a, fobView (f s a) = fobView s) (l : List α)
    (s : State) : fobView (l.foldl f s) = fobView s := by
  induction l generalizing s with
  | nil => rfl
  | cons a l ih => rw [List.foldl_cons, ih, same]

/-! ### The lock table -/

@[simp] theorem fobView_wake : fobView (wake s) = fobView s := by
  unfold wake
  split
  · dsimp only
    split <;> rfl
  · rfl

@[simp] theorem fobView_cancelRelock : fobView (cancelRelock s) = fobView s := rfl

theorem fobView_contactWork {c : Contact} : fobView (contactWork c s) = fobView s := by
  have sensed : ∀ u, outside (sensedChanged (contactAct c) u) = outside u := fun u =>
    (actFrame_sensedChanged (.refl _ u)).outside
  simp [fobView, contactWork, sensed]

theorem fobView_ajarWork {isOpen : Bool} : fobView (ajarWork isOpen s) = fobView s := by
  unfold ajarWork
  split <;> exact fobView_wake

@[simp] theorem fobView_panelLatchRequest {o : Origin} {g : Goal} {as : List Act} :
    fobView (panelLatchRequest o g as s) = fobView s := by
  have formed := congrArg fobPart (outside_formJob o g as s)
  unfold panelLatchRequest
  split <;> (rename_i e; rw [e] at formed; exact formed)

theorem fobView_rockerWork {x : LockTurn} : fobView (rockerWork x s) = fobView s := by
  unfold rockerWork
  dsimp only
  split
  · split <;> simp
  · simp

theorem fobView_keyWork {x : LockTurn} : fobView (keyWork x s) = fobView s := by
  unfold keyWork
  dsimp only
  split
  · split
    · exact fobView_wake
    · refine Eq.trans (b := fobView (if _ then _ else _)) rfl ?_
      split <;> simp
  · exact fobView_panelLatchRequest.trans fobView_wake

theorem fobView_childButtonWork : fobView (childButtonWork s) = fobView s := by
  simp [fobView, childButtonWork]

theorem outside_invalidWork : outside (invalidWork a s) = outside s := by simp [invalidWork]

theorem fobView_decayWork : fobView (decayWork a s) = fobView s := by
  unfold decayWork
  dsimp only
  split <;> simp [fobView]

theorem fobView_retryWork : fobView (retryWork a s) = fobView s := by
  have pending : ∀ u, fobView (toPending a u) = fobView u := fun u => by cases a <;> rfl
  unfold retryWork
  split
  · rfl
  · split
    · rw [pending]
      simp [fobView]
    · split <;> simp [fobView]

theorem fobView_strokeEndWork {job : Option Nat} {g : Group} : fobView (strokeEndWork job g s) = fobView s := by
  unfold strokeEndWork
  split <;> simp [fobView]

theorem fobView_relockWork : fobView (relockWork s) = fobView s := by
  simp only [fobView, relockWork, outside_formJob]
  rfl

/-! ### Switches and window requests -/

@[simp] theorem outside_dropStanding : outside (dropStanding w s) = outside s := by
  unfold dropStanding
  dsimp only
  split
  · rfl
  · simp
  · simp
  · split <;> simp
  · rfl

@[simp] theorem outside_deepenStanding {x : Standing} : outside (deepenStanding w x s) = outside s := by
  unfold deepenStanding
  dsimp only
  split
  · simp
  · split
    · simp
    · split <;> simp
  · split <;> simp
  · rfl

@[simp] theorem outside_switchRequest {m : RunMode} : outside (switchRequest sw m d s) = outside s := by
  unfold switchRequest
  dsimp only
  split <;> simp

@[simp] theorem fobView_setSpent {b : Bool} : fobView (setSpent sw b s) = fobView s := rfl

@[simp] theorem fobView_pressSwitch {two : Bool} : fobView (pressSwitch sw d two s) = fobView s := by
  unfold pressSwitch
  dsimp only
  split
  · split <;> simp [fobView]
  · split <;> simp [fobView]

@[simp] theorem outside_deepenSwitch : outside (deepenSwitch sw d s) = outside s := by
  unfold deepenSwitch
  dsimp only
  split
  · rfl
  · split
    · split
      · rfl
      · split
        · split <;> simp
        · simp
    · simp

@[simp] theorem fobView_releaseSwitch : fobView (releaseSwitch sw s) = fobView s := by
  refine (fobView_foldl (fun u w => ?_) (releaseWindows sw) _).trans fobView_setSpent
  unfold releaseAt
  split
  · split <;> simp [fobView]
  · rfl

theorem fobView_switchWork {old new : Stage} : fobView (switchWork sw old new s) = fobView s := by
  unfold switchWork
  split
  · exact fobView_wake
  · simp
  · simp
  · split
    · split <;> simp [fobView]
    · simp

@[simp] theorem outside_stopRequest : outside (stopRequest w s).2 = outside s := by
  unfold stopRequest
  dsimp only
  split
  · rfl
  · rfl
  · split
    · split <;> simp
    · split
      · split <;> simp
      · rfl
  · split <;> simp

@[simp] theorem outside_portWindowRequest {k : WindowTask} : outside (portWindowRequest k s).2 = outside s := by
  have asked := outside_requestWindow k .USER s
  unfold portWindowRequest
  split
  · rfl
  · split <;> (rename_i e; rw [e] at asked; exact asked)

theorem outside_takeWindowRequest {x y : Byte} {z : BitVec 16} : outside (takeWindowRequest x y z s).2 = outside s := by
  have stopped : ∀ w, outside (stopAnswer (stopRequest w s)).2 = outside s := fun w => by simp [stopAnswer_snd]
  unfold takeWindowRequest
  split
  · split
    · exact stopped _
    · split
      · rfl
      · split
        · rfl
        · split
          · rfl
          · unfold moveRequest
            split
            · split <;> simp
            · simp
            · split
              · unfold gotoRequest
                dsimp only
                split
                · simp
                · split <;> (split <;> simp)
              · rfl
            · exact stopped _
  · rfl

/-! ### Lines, edges and timers of the windows -/

theorem outside_sensorLost : outside (sensorLost w s) = outside s := by
  unfold sensorLost removeUnfit
  dsimp only
  split
  · split <;> simp
  · simp

theorem outside_supplyWork {was : Nat} : outside (supplyWork was s) = outside s := by
  unfold supplyWork
  split
  · exact outside_foldl _ (fun t w => outside_undervoltageStop w t) _ _
  · split <;> simp

@[simp] theorem outside_pinch {x : LastPinch} : outside (pinch w x s) = outside s := by simp [pinch]
@[simp] theorem outside_stopAtTarget : outside (stopAtTarget w s) = outside s := by simp [stopAtTarget]
@[simp] theorem fobView_tookChoice : fobView s.tookChoice = fobView s := rfl

theorem fobView_qualifiedEdge {x : HallInput} {since : Nat} : fobView (qualifiedEdge w x since s) = fobView s := by
  have effects : ∀ (T : Nat) (u : State), fobView (edgeEffects w T u) = fobView u := by
    intro T u
    unfold edgeEffects
    dsimp only
    split
    · split
      · split
        · split <;> simp [fobView]
        · simp [fobView]
      · split <;> simp [fobView]
    · split
      · simp [fobView]
      · split <;> simp [fobView]
  unfold qualifiedEdge
  dsimp only
  split
  · rw [effects, fobView, outside_setWin]
  · rw [fobView, outside_setWin]

/-- A profile that changes leaves what is being written, though not whether it is current (R83). -/
@[simp] theorem fobView_markProfile : fobView (markProfile w s) = fobView s := by
  unfold markProfile
  dsimp only
  split
  · rename_i x running
    have running : s.writer.running = some x := running
    split
    · split
      · simp [fobView, fobPart, outside, running, State.port, PerPort.get, PortRec.quiet]
      · rfl
    · rfl
  · rfl

theorem fobView_stallWindow : fobView (stallWindow w s) = fobView s := by
  have learned : ∀ u, fobView (learnAtTop w u) = fobView u := by
    intro u
    unfold learnAtTop
    dsimp only
    split
    · rw [fobView_markProfile, fobView, outside_setWin]
    · rw [fobView, outside_setWin]
  have asked : ∀ u, fobView (askBackground w u) = fobView u := by
    intro u
    unfold askBackground
    split <;> rfl
  unfold stallWindow
  dsimp only
  split
  · split
    · unfold stallUp
      dsimp only
      split
      · unfold topReached
        simp [fobView, learned]
      · split <;> simp [fobView, stallFault]
    · unfold stallDown
      dsimp only
      split
      · simp [fobView]
      · split
        · split
          · simp [fobView, learnTravel, asked]
          · simp [fobView, stallFault]
        · split <;> simp [fobView, bottomReached, stallFault]
  · rfl

theorem outside_heatWork : outside (heatWork w s) = outside s := by simp [heatWork]
theorem outside_coolWork : outside (coolWork w s) = outside s := by simp [coolWork]
theorem outside_blockingWork {id : Nat} : outside (blockingWork id s) = outside s := by simp [blockingWork]

/-! ### Searches, the hold and the crash record -/

@[simp] theorem fobView_closeQuietly {o : SearchOutcome} {x : Option SearchAnswer} :
    fobView (closeQuietly o x s) = fobView s := by
  unfold closeQuietly
  split <;> rfl

@[simp] theorem fobView_closeSearch {o : SearchOutcome} {x : Option SearchAnswer} :
    fobView (closeSearch o x s) = fobView s := by
  unfold closeSearch
  split
  · exact fobView_closeQuietly
  · rfl

theorem fobView_touchWork {i : TouchInput} : fobView (touchWork i s) = fobView s := by
  unfold touchWork
  dsimp only
  split
  · exact fobView_wake
  · split
    · split <;> exact fobView_wake
    · split <;> exact fobView_wake

theorem fobView_of_background {t : State} (h : background t = background s) : fobView t = fobView s :=
  (congrArg fobPart h :)

@[simp] theorem fobView_closeHold : fobView (closeHold s) = fobView s := fobView_of_background (background_closeHold s)

theorem fobView_startComfort : fobView (startComfort s) = fobView s := by
  refine fobView_foldl (fun u w => ?_) Win.all _
  unfold comfortRequest
  split <;> simp [fobView]

theorem fobView_followLine {active : Bool} : fobView (followLine active s) = fobView s := by
  unfold followLine lineActive lineInactive
  dsimp only
  split
  · split <;> exact fobView_wake
  · split <;> rfl

theorem fobView_firstBase : fobView (firstBase s) = fobView s := by
  have removed : ∀ u, outside (removeLockJobs u) = outside u := fun u => by
    obtain ⟨-, -, -, kept, -⟩ := removeLockJobs_keep u
    exact kept
  unfold firstBase crashWindows
  rw [fobView, outside_removeAllWindowJobs, outside_haltAllWindows, removed, (endLatchWaits_frame _).outside,
    outside_crashCut]
  rfl

theorem fobView_launchCrash : fobView (launchCrash s) = fobView s := congrArg fobPart (launchCrash_frame s)

theorem fobView_indication {src : CrashSource} : fobView (indication src s) = fobView s := by
  unfold indication
  dsimp only
  split
  · rw [firstIndication_eq, fobView_launchCrash, fobView_closeSearch, fobView_closeHold, fobView_cancelRelock,
      fobView_firstBase]
    rfl
  · split
    · rfl
    · rw [fobView, relaunch_outside]
      rfl

/-! ### Parameters and RESTART -/

@[simp] theorem fobView_changeParams {v : Params} : fobView (changeParams v s) = fobView s := by
  have checked : ∀ u, fobView (checkSearch u) = fobView u := by
    intro u
    unfold checkSearch
    split
    · split <;> simp [fobView_closeSearch]
    · rfl
  have held : ∀ u, fobView (Win.all.foldl (fun t w => testHold w t) u) = fobView u :=
    fobView_foldl (fun u w => by rw [fobView, outside_testHold]) Win.all
  have tested : ∀ u, fobView (if v.heatLimit ≠ s.params.heatLimit then Win.all.foldl (fun t w => testHold w t) u else u) =
      fobView u := by
    intro u
    split
    · exact held u
    · rfl
  have triggered : fobView (if v.driveBudget ≠ s.params.driveBudget then trigger { s with params := v }
      else { s with params := v }) = fobView s := by
    split <;> rfl
  unfold changeParams
  dsimp only
  split
  · rw [checked, tested, triggered]
  · rw [tested, triggered]

theorem outside_restartDrives : outside (restartDrives s) = outside s := by
  have cut : ∀ u st, outside (restartStroke u st) = outside u := fun u st => by
    unfold restartStroke
    rw [outside_settleJob, (restartMembers_frame _ _).outside, outside_removeStroke]
  unfold restartDrives
  rw [outside_haltAllWindows, outside_trigger, outside_foldl _ cut]
  rfl

theorem fobView_takeRestart : fobView (takeRestart s).2 = fobView s := by
  have windows : ∀ u w, outside (restartWindow u w) = outside u := fun u w => by
    unfold restartWindow
    split <;> simp
  have reset : ∀ (u : State) (p : PerSwitch Bool), fobView { u with
      hold := Hold.closed, relock := none, keyLock := none, entry := none, spent := p } = fobView u := fun _ _ => rfl
  have cleared : ∀ u, outside { u with queue := [], nearFull := false } = outside u := fun _ => rfl
  have records : ∀ u, fobView (restartRecords u) = fobView u := by
    intro u
    have stopped : outside (Win.all.foldl restartWindow
        (Act.all.foldl restartAct { u with queue := [], nearFull := false })) = outside u := by
      rw [outside_foldl _ windows, (restartActs_frame _ _).outside, cleared]
    unfold restartRecords
    dsimp only
    rw [reset, fobView_closeQuietly, fobView, stopped]
  have params : ∀ u, fobView (restartParams u) = fobView u := fun u => by
    unfold restartParams
    rw [fobView_changeParams]
    rfl
  have noticed : ∀ u, fobView (restartNotices u) = fobView u := fun _ => rfl
  unfold takeRestart
  rw [noticed, params, records, fobView, outside_restartDrives]

end

end Sys2Proof.Machine

/-! ## The laws of the counters and of the fob table (R112, R121, R123, R163)

`FobsKept s t`: on the way from `s` to `t` both laws are kept and no counter falls. Beside a power-on and the completion of
an ENROLL or REVOKE write, which may lower a counter, every operation keeps the fobs so. -/

namespace Sys2Proof.Machine

open Sys2Proof

/-- What is being written. -/
def writing (s : State) : Option Payload := s.writer.running.map (·.payload)

/-- The law of the counters with what keeps it: no counter being written for a slot exceeds the counter in use (R121). -/
def commitLaw (s : State) : Prop :=
  counterLaw s ∧ ∀ i r, writing s = some (.commit i r) → r.counter ≤ (s.fob i).C

/-- No slot becomes ACTIVE or changes its identity. -/
def SlotsStand (s t : State) : Prop :=
  ∀ k, (t.fob k).status = .ACTIVE → (s.fob k).status = .ACTIVE ∧ (t.fob k).identity = (s.fob k).identity

structure FobLaws (s t : State) : Prop where
  commit : commitLaw s → commitLaw t
  enrol : enrolLaw s → enrolLaw t

structure FobsKept (s t : State) : Prop extends FobLaws s t where
  rises : ∀ i, (s.fob i).C ≤ (t.fob i).C

section
variable {s t u : State} {i : Fin 8} {p : Port} {x : Writing}

theorem FobLaws.trans (h : FobLaws s t) (k : FobLaws t u) : FobLaws s u := ⟨k.commit ∘ h.commit, k.enrol ∘ h.enrol⟩

theorem FobsKept.refl (s : State) : FobsKept s s := ⟨⟨id, id⟩, fun _ => le_rfl⟩

theorem FobsKept.trans (h : FobsKept s t) (k : FobsKept t u) : FobsKept s u :=
  ⟨h.toFobLaws.trans k.toFobLaws, fun i => (h.rises i).trans (k.rises i)⟩

/-! ### The view -/

theorem fobView_eq_iff : fobView t = fobView s ↔ t.fobs = s.fobs ∧ writing t = writing s ∧
    t.writer.portQueue = s.writer.portQueue ∧ (t.port .M).inFlight = (s.port .M).inFlight ∧
    (t.port .M).transfer = (s.port .M).transfer := FobPart.mk.injEq .. ▸ Iff.rfl

theorem fob_congr (fobs : t.fobs = s.fobs) (k : Fin 8) : t.fob k = s.fob k := by rw [State.fob, fobs]; rfl

theorem SlotsStand.of_eq (same : ∀ k, t.fob k = s.fob k) : SlotsStand s t :=
  fun k active => by rw [← same k]; exact ⟨active, rfl⟩

/-- The enrolments among the writes that wait. -/
def enrolments (xs : List PortWrite) : List (Fin 8 × BitVec 32) := xs.filterMap (fun x => match x with
  | .enroll i identity _ => some (i, identity)
  | _ => none)

/-- The enrolment that is being written. -/
def enrolmentOf (x : Option Payload) : List (Fin 8 × BitVec 32) :=
  match x with
  | some (.enroll i r) => [(i, r.identity)]
  | _ => []

theorem enrolling_eq (s : State) : enrolling s = enrolmentOf (writing s) ++ enrolments s.writer.portQueue := by
  unfold enrolling enrolmentOf writing enrolments
  rfl

/-- The law of the fob table where no enrolment comes to be under way and Port M stands. -/
theorem enrolLaw_of_fewer (law : enrolLaw s) (slots : SlotsStand s t) (fewer : (enrolling t).Sublist (enrolling s))
    (inFlight : (t.port .M).inFlight = (s.port .M).inFlight) (transfer : (t.port .M).transfer = (s.port .M).transfer) :
    enrolLaw t := by
  obtain ⟨table, one, under, line⟩ := law
  refine ⟨fun i active => ?_, fewer.length_le.trans one, fun x mem => ?_, ?_⟩
  · obtain ⟨was, same⟩ := slots i active
    obtain ⟨named, distinct⟩ := table i was
    refine ⟨same ▸ named, fun k other equal => ?_⟩
    obtain ⟨wasOther, sameOther⟩ := slots k other
    exact distinct k wasOther (sameOther.symm.trans (equal.trans same))
  · obtain ⟨named, command, free⟩ := under x (fewer.subset mem)
    refine ⟨named, inFlight ▸ command, fun k other active => ?_⟩
    obtain ⟨was, same⟩ := slots k active
    exact same ▸ free k other was
  · rw [transfer, inFlight]
    exact line

theorem FobsKept.view (h : FobsKept s t) (e : fobView u = fobView t) : FobsKept s u := by
  obtain ⟨fobs, write, queue, inFlight, transfer⟩ := fobView_eq_iff.mp e
  have fob := fob_congr fobs
  refine h.trans ⟨⟨fun ⟨stored, commit⟩ => ⟨fun i => ?_, fun i r e => ?_⟩, fun law => ?_⟩, fun i => (fob i).symm ▸ le_rfl⟩
  · exact fob i ▸ stored i
  · exact fob i ▸ commit i r (write ▸ e)
  · exact enrolLaw_of_fewer law (.of_eq fob) (by rw [enrolling_eq, enrolling_eq, write, queue]) inFlight transfer

theorem FobsKept.ofView (e : fobView t = fobView s) : FobsKept s t := (FobsKept.refl s).view e

/-! ### The change of a slot and of a port -/

/-- A slot keeps its identity and its stored counter, and its counter does not fall. -/
theorem fobs_setFob {f : FobSlot} (h : FobsKept s t) (status : f.status = (t.fob i).status)
    (identity : f.identity = (t.fob i).identity) (stored : f.storedC = (t.fob i).storedC) (rises : (t.fob i).C ≤ f.C) :
    FobsKept s (t.setFob i f) := by
  have slots : ∀ k, ((t.setFob i f).fob k).status = (t.fob k).status ∧
      ((t.setFob i f).fob k).identity = (t.fob k).identity ∧ ((t.setFob i f).fob k).storedC = (t.fob k).storedC ∧
      (t.fob k).C ≤ ((t.setFob i f).fob k).C := by
    intro k
    rcases eq_or_ne k i with rfl | other
    · rw [fob_setFob_same]
      exact ⟨status, identity, stored, rises⟩
    · rw [fob_setFob_ne _ _ other]
      exact ⟨rfl, rfl, rfl, le_rfl⟩
  refine h.trans ⟨⟨fun ⟨law, commit⟩ => ⟨fun k => ?_, fun k r e => ?_⟩, fun law => ?_⟩, fun k => (slots k).2.2.2⟩
  · obtain ⟨-, -, same, up⟩ := slots k
    exact same ▸ (law k).trans up
  · exact (commit k r e).trans (slots k).2.2.2
  · refine enrolLaw_of_fewer law (fun k active => ?_) (.refl _) rfl rfl
    obtain ⟨same, named, -⟩ := slots k
    exact ⟨same ▸ active, named⟩

/-- A port keeps its command, and its transfer is none, the one it has, or one that began with its command's flag (R163). -/
theorem fobs_setPort {r : PortRec} (h : FobsKept s t) (inFlight : r.inFlight = (t.port p).inFlight)
    (line : ∀ x, r.transfer = some x → x.inFlight = false → (t.port p).transfer = some x ∨ (t.port p).inFlight = none) :
    FobsKept s (t.setPort p r) := by
  cases p with
  | E => exact h.view rfl
  | M =>
    refine h.trans ⟨⟨id, fun ⟨table, one, under, law⟩ => ⟨table, one, fun x mem => ?_, fun x began driven idle => ?_⟩⟩,
      fun _ => le_rfl⟩
    · obtain ⟨named, command, free⟩ := under x mem
      exact ⟨named, by rw [port_setPort_same, inFlight]; exact command, free⟩
    · rw [port_setPort_same] at began ⊢
      rw [inFlight]
      exact (line x began idle).elim (fun same => law x same driven idle) id

/-- A port changes in fields that the laws do not speak of. -/
theorem fobs_portDetail {r : PortRec} (h : FobsKept s t) (inFlight : r.inFlight = (t.port p).inFlight)
    (transfer : r.transfer = (t.port p).transfer) : FobsKept s (t.setPort p r) :=
  fobs_setPort h inFlight (fun _ began _ => .inl (transfer ▸ began))

/-! ### The begin of a write and the end of an event (R178) -/

/-- What the begin of a write puts in the writer: a timer from now, and the first port-requested item, a commit of a
slot's counter or a profile. -/
theorem pump_cases (s : State) : pump s = s ∨ s.writer.running = none ∧ ∃ x, (pump s).writer.running = some x ∧
    (x.timer = ⟨s.now, 6⟩ ∨ x.timer = ⟨s.now, 10⟩) ∧
    ((∃ y, s.writer.portQueue = y :: (pump s).writer.portQueue ∧ x.payload = (portPayload y s).1) ∨
      (pump s).writer.portQueue = s.writer.portQueue ∧
        ((∃ i, x.payload = .commit i (slotRecord (s.fob i))) ∨ ∃ w q, x.payload = .profile w q)) := by
  unfold pump
  split
  · exact .inl rfl
  · rename_i idle
    have idle : s.writer.running = none := by simpa using idle
    split
    · rename_i y ys next
      refine .inr ⟨idle, _, rfl, ?_, .inl ⟨y, next, rfl⟩⟩
      cases y with
      | enroll _ _ _ | revoke _ => exact .inl rfl
      | profile _ | params => exact .inr rfl
    · split
      · exact .inr ⟨idle, _, rfl, .inl rfl, .inr ⟨rfl, .inl ⟨_, rfl⟩⟩⟩
      · split
        · exact .inr ⟨idle, _, rfl, .inr rfl, .inr ⟨rfl, .inr ⟨_, _, rfl⟩⟩⟩
        · exact .inl rfl

theorem fobs_pump (h : FobsKept s t) : FobsKept s (pump t) := by
  rcases pump_cases t with still | ⟨idle, x, runs, -, origin⟩
  · rw [still]
    exact h
  have fob : ∀ k, (pump t).fob k = t.fob k := fun k => by rw [pump_writer]; rfl
  have port : (pump t).port .M = t.port .M := by rw [pump_writer]; rfl
  have write : writing (pump t) = some x.payload := by rw [writing, runs]; rfl
  have none : writing t = none := by rw [writing, idle]; rfl
  refine h.trans ⟨⟨fun ⟨stored, _⟩ => ⟨fun k => fob k ▸ stored k, fun k r e => ?_⟩, fun law => ?_⟩,
    fun k => (fob k).symm ▸ le_rfl⟩
  · rw [write, Option.some_inj] at e
    rw [fob]
    rcases origin with ⟨y, -, same⟩ | ⟨-, ⟨i, same⟩ | ⟨w, q, same⟩⟩
    · cases y <;> cases same.symm.trans e
    · cases same.symm.trans e
      exact le_rfl
    · cases same.symm.trans e
  · have same : enrolling (pump t) = enrolling t := by
      rw [enrolling_eq, enrolling_eq, write, none]
      rcases origin with ⟨y, next, same⟩ | ⟨queue, ⟨i, same⟩ | ⟨w, q, same⟩⟩
      · rw [next, same]
        cases y <;> rfl
      · rw [queue, same]
        rfl
      · rw [queue, same]
        rfl
    exact enrolLaw_of_fewer law (.of_eq fob) (same ▸ .refl _) (congrArg _ port) (congrArg _ port)

theorem fobs_finish (h : FobsKept s t) : FobsKept s (finish t) := fobs_pump (h.view (congrArg fobPart (outside_settle t)))

theorem fobs_awaken (h : FobsKept s t) : FobsKept s (awaken t) := by
  unfold awaken
  split
  · exact fobs_finish (h.view fobView_wake)
  · exact h.view fobView_wake

theorem fobs_event {work : State → State} (keeps : ∀ {u}, FobsKept s u → FobsKept s (work u)) (h : FobsKept s t) :
    FobsKept s (event work t) := by
  unfold event
  split
  · exact h
  · exact fobs_finish (keeps h)

theorem fobs_lineEvent {changed : Bool} {level work : State → State} (line : fobView (level t) = fobView t)
    (keeps : ∀ {u}, FobsKept s u → FobsKept s (work u)) (h : FobsKept s t) :
    FobsKept s (lineEvent changed level work t) := by
  unfold lineEvent
  split
  · exact fobs_event keeps (h.view line)
  · exact h

theorem fobView_advanceTo (x : Timer) (s : State) : fobView (advanceTo x s) = fobView s := by
  unfold advanceTo
  split <;> rfl

theorem fobs_expiry {tm : State → Option Timer} {work : State → State} (keeps : ∀ {u}, FobsKept s u → FobsKept s (work u))
    (h : FobsKept s t) : FobsKept s (expiry tm work t) := by
  refine fobs_event (fun {u} k => ?_) h
  unfold expire
  split
  · exact k
  · exact keeps (k.view (fobView_advanceTo _ _))

end

end Sys2Proof.Machine

/-! ## Commands keep the fobs (R112 to R124, R159 to R165)

Only a presentation changes a slot in its command, and only to a higher counter; a command that writes finds Port M with no
transfer and no command in flight (`StoreFree`), so no enrolment is under way when another is asked for. -/

namespace Sys2Proof.Machine

open Sys2Proof

section
variable {s t u : State} {i : Fin 8} {p : Port} {b : Button} {c : Nat} {code : Byte}

/-! ### Presentations (R115 to R117) -/

/-- An accepted counter is above the one in use (R115). -/
theorem lt_of_accepted (accepted : (verdict i c b p s).1 = .ACCEPTED) : (s.fob i).C < c := by
  unfold verdict at accepted
  dsimp only at accepted
  by_contra low
  split at accepted
  · cases accepted
  · split at accepted
    · cases accepted
    · rw [if_pos (Nat.not_lt.mp low)] at accepted
      cases accepted

theorem fobs_accept (h : FobsKept s t) (above : (t.fob i).C < c) : FobsKept s (accept i c b p t).state :=
  (fobs_setFob (f := { t.fob i with
    C := c
    candidate := none
    commitPending := true
    acceptance := some ⟨t.reading, p, b⟩ }) h rfl rfl rfl (Nat.le_of_lt above)).view
    (fobView_of_background (background_accept i c b p t))

theorem fobs_declineSlot {r : PresentResult} (h : FobsKept s t) : FobsKept s (declineSlot r i c t) := by
  unfold declineSlot
  split
  · exact h.view rfl
  · exact fobs_setFob h rfl rfl rfl le_rfl
  · exact fobs_setFob h rfl rfl rfl le_rfl
  · exact fobs_setFob h rfl rfl rfl le_rfl
  · exact h

theorem fobs_verifyPresent {identity : BitVec 32} (h : FobsKept s t) : FobsKept s (verifyPresent identity c b p t).2 := by
  unfold verifyPresent
  split
  · exact h
  · dsimp only
    split
    · exact fobs_accept h (lt_of_accepted ‹_›)
    · exact fobs_declineSlot h

theorem fobs_takePresent {identity : BitVec 32} {counter : BitVec 24} {button tag : Byte} (h : FobsKept s t) :
    FobsKept s (takePresent p identity counter button tag t).2 := by
  unfold takePresent
  split
  · exact h
  · split
    · exact h
    · show FobsKept s (passivePresent identity counter.toNat tag.toNat p t).2
      unfold passivePresent
      split
      · exact (fobs_verifyPresent h).view fobView_closeSearch
      · exact h
      · exact h
  · exact fobs_verifyPresent h

/-! ### Commands that write (R84, R85, R123, R124, R163, R180, R183) -/

/-- Port M has no transfer and no command in flight, as the law of the fob table lets a taken command find it. -/
def StoreFree (s t : State) : Prop :=
  enrolLaw s → (t.port .M).transfer = none ∧ (t.port .M).inFlight = none

theorem StoreFree.view (h : StoreFree s t) (e : fobView u = fobView t) : StoreFree s u := by
  obtain ⟨-, -, -, inFlight, transfer⟩ := fobView_eq_iff.mp e
  rw [StoreFree, inFlight, transfer]
  exact h

theorem StoreFree.awaken (h : StoreFree s t) : StoreFree s (awaken t) := by
  have woken : StoreFree s (wake t) := h.view fobView_wake
  unfold Machine.awaken
  split
  · rw [StoreFree, show (finish (wake t)).port .M = (settle (wake t)).port .M by rw [finish, pump_writer]; rfl]
    exact woken.view (congrArg fobPart (outside_settle _))
  · exact woken

/-- The writes of a command begin to wait: at most one of them is an enrolment, of an identity that no other ACTIVE slot
holds. -/
theorem fobs_takeInFlight {xs : List PortWrite} (h : FobsKept s t) (free : StoreFree s t) (one : (enrolments xs).length ≤ 1)
    (fresh : ∀ x ∈ enrolments xs, x.2 ≠ 0#32 ∧ ¬ enrolledElsewhere x.1 x.2 t) : FobsKept s (takeInFlight code xs t).2 := by
  refine ⟨⟨fun law => h.commit law, fun law => ?_⟩, h.rises⟩
  obtain ⟨transfer, command⟩ := free law
  obtain ⟨table, -, under, -⟩ := h.enrol law
  have none : enrolling t = [] := List.eq_nil_iff_forall_not_mem.mpr (fun x mem => by
    obtain ⟨-, flying, -⟩ := under x mem
    rw [command] at flying
    cases flying)
  have asked : enrolling (takeInFlight code xs t).2 = enrolments xs := by
    rw [enrolling_eq] at none ⊢
    rw [show (takeInFlight code xs t).2.writer.portQueue = t.writer.portQueue ++ xs from rfl,
      show writing (takeInFlight code xs t).2 = writing t from rfl, enrolments, List.filterMap_append, ← List.append_assoc]
    exact (congrArg (· ++ enrolments xs) none).trans (List.nil_append _)
  refine ⟨table, asked ▸ one, fun x mem => ?_, fun x began => ?_⟩
  · obtain ⟨named, unique⟩ := fresh x (asked ▸ mem)
    exact ⟨named, rfl, fun k other active same => unique ⟨k, other, active, same⟩⟩
  · exact absurd (transfer.symm.trans began) nofun

/-- A command whose writes are no enrolments. -/
theorem fobs_takeWrites {xs : List PortWrite} (h : FobsKept s t) (free : StoreFree s t) (none : enrolments xs = []) :
    FobsKept s (takeInFlight code xs t).2 :=
  fobs_takeInFlight h free (by simp [none]) (by simp [none])

theorem enrolments_profiles (ws : List Win) : enrolments (ws.map .profile) = [] := by
  induction ws with
  | nil => rfl
  | cons w ws ih => exact ih

theorem fobs_takeEnroll {k : Byte} {identity : BitVec 32} {counter : BitVec 24} (h : FobsKept s t) (free : StoreFree s t) :
    FobsKept s (takeEnroll k identity counter t).2 := by
  cases named : slotOf k with
  | none => rw [takeEnroll_outOfRange named]; exact h
  | some i =>
    by_cases zero : identity = 0#32
    · rw [takeEnroll_noIdentity named zero]
      exact h
    obtain ⟨refused, taken⟩ := takeEnroll_named (t := t) (counter := counter) named zero
    by_cases known : enrolledElsewhere i identity t
    · rw [refused known]
      exact h
    · rw [taken known]
      refine fobs_takeInFlight h free le_rfl (fun x mem => ?_)
      obtain rfl : x = (i, identity) := List.mem_singleton.mp mem
      exact ⟨zero, known⟩

theorem fobs_takeRevoke {k : Byte} (h : FobsKept s t) (free : StoreFree s t) : FobsKept s (takeRevoke k t).2 := by
  unfold takeRevoke
  split
  · exact h
  · exact fobs_takeWrites h free rfl

theorem fobs_takeSaveProfiles (h : FobsKept s t) (free : StoreFree s t) : FobsKept s (takeSaveProfiles t).2 := by
  unfold takeSaveProfiles
  dsimp only
  split
  · exact h
  · exact fobs_takeWrites h free (enrolments_profiles _)

theorem fobs_takeClearProfile {k : Byte} (h : FobsKept s t) (free : StoreFree s t) :
    FobsKept s (takeClearProfile k t).2 := by
  unfold takeClearProfile
  split
  · exact h
  · exact fobs_takeWrites (h.view fobView_markProfile) (free.view fobView_markProfile) rfl

theorem fobs_takeStandby (h : FobsKept s t) (free : StoreFree s t) : FobsKept s (takeStandby t).2 := by
  unfold takeStandby
  dsimp only
  split
  · split
    · exact h.view rfl
    · exact fobs_takeWrites h free (enrolments_profiles _)
  · exact h

/-! ### Other commands -/

theorem fobView_takeLatchRequest {set target : Byte} : fobView (takeLatchRequest set target t).2 = fobView t := by
  have formed : ∀ x : Taken × State, fobView (latchTakenAnswer x).2 = fobView x.2 :=
    fun ⟨answer, v⟩ => by cases answer <;> rfl
  unfold takeLatchRequest
  split
  · split
    · rfl
    · split
      · rfl
      · rw [formed, fobView, outside_formJob]
  · rfl

theorem fobView_takeChildRequest {sides action : Byte} : fobView (takeChildRequest sides action t).2 = fobView t := by
  have formed : ∀ x : Taken × State, fobView (takenAnswer x).2 = fobView x.2 := fun ⟨answer, v⟩ => by cases answer <;> rfl
  unfold takeChildRequest
  split
  · rw [formed, fobView, outside_formJob]
  · rfl

theorem fobView_takeSetParam {k : Byte} {v : BitVec 16} : fobView (takeSetParam k v t).2 = fobView t := by
  unfold takeSetParam
  split
  · rfl
  · exact fobView_changeParams

theorem fobView_takeReadParam {k : Byte} : fobView (takeReadParam k t).2 = fobView t := by
  unfold takeReadParam
  split <;> rfl

theorem fobView_takeCrashClear : fobView (takeCrashClear t).2 = fobView t := by
  unfold takeCrashClear
  split
  · rfl
  · split
    · rfl
    · split <;> rfl

theorem fobView_takeSearchNone {tag : Byte} : fobView (takeSearchNone tag t).2 = fobView t := by
  unfold takeSearchNone
  split
  · exact fobView_closeSearch
  · rfl
  · rfl

theorem fobs_takeSelect {table w index st : Byte} (h : FobsKept s t) : FobsKept s (takeSelect p table w index st t).2 := by
  unfold takeSelect
  dsimp only
  split
  · split
    · split
      · exact fobs_portDetail h rfl rfl
      · exact h
    · exact h
  · exact h

/-! ### A command that is taken (R159, R161) -/

theorem fobs_acting {f : State → Answer × State} (h : FobsKept s (f t).2) : FobsKept s (acting f t).2 := fobs_finish h

/-- The commands that write are permitted on Port M alone (R165). -/
theorem eq_M_of_permitted (permitted : permittedOn p code = true) (store : permittedOnE code = false) : p = .M := by
  cases p with
  | M => rfl
  | E => exact absurd (permitted.symm.trans store) nofun

/-- The effect of every command that its port permits. -/
theorem fobs_effectOf {j : Instr} {args : List Byte} (h : FobsKept s t) (free : p = .M → StoreFree s t)
    (command : encodeRequest j = some (p, code, args)) (permitted : permittedOn p code = true) :
    FobsKept s (effectOf j t).2 := by
  cases j with
  | latchRequest _ _ _ => exact fobs_acting (h.view fobView_takeLatchRequest)
  | childRequest _ _ _ => exact fobs_acting (h.view fobView_takeChildRequest)
  | windowRequest _ _ _ _ => exact fobs_acting (h.view (congrArg fobPart outside_takeWindowRequest))
  | present _ _ _ _ _ => exact fobs_acting (fobs_takePresent h)
  | setParam _ _ _ => exact fobs_acting (h.view fobView_takeSetParam)
  | crashNotify _ => exact fobs_acting (h.view fobView_indication)
  | restart _ => exact fobs_acting (h.view fobView_takeRestart)
  | clearNotices _ _ | setMask _ _ | readNext _ => exact fobs_portDetail h rfl rfl
  | searchNone _ _ => exact h.view fobView_takeSearchNone
  | select _ _ _ _ _ => exact fobs_takeSelect h
  | readParam _ _ => exact h.view fobView_takeReadParam
  | crashClear _ => exact h.view fobView_takeCrashClear
  | clearProfile _ _ => cases command; exact fobs_acting (fobs_takeClearProfile h (free (eq_M_of_permitted permitted rfl)))
  | saveProfiles _ => cases command; exact fobs_acting (fobs_takeSaveProfiles h (free (eq_M_of_permitted permitted rfl)))
  | enroll _ _ _ _ => cases command; exact fobs_acting (fobs_takeEnroll h (free (eq_M_of_permitted permitted rfl)))
  | revoke _ _ => cases command; exact fobs_acting (fobs_takeRevoke h (free (eq_M_of_permitted permitted rfl)))
  | commitParams _ => cases command; exact fobs_acting (fobs_takeWrites h (free (eq_M_of_permitted permitted rfl)) rfl)
  | standby _ => cases command; exact fobs_acting (fobs_takeStandby h (free (eq_M_of_permitted permitted rfl)))
  | _ => exact h

theorem fobs_respond {a : Answer} (h : FobsKept s t) : FobsKept s (respond p code a t) := fobs_portDetail h rfl rfl

theorem fobs_request {j : Instr} {args : List Byte} (h : FobsKept s t) (free : p = .M → StoreFree s t)
    (command : encodeRequest j = some (p, code, args)) : FobsKept s (request p code (effectOf j) t) := by
  unfold request
  split
  · exact fobs_respond (fobs_effectOf (fobs_awaken h) (fun port => (free port).awaken) command ‹_›)
  · exact fobs_respond h

/-- A frame that carries a command carries it under the command's own code and on its port (R165). -/
theorem encodeRequest_of_decode {args : List Byte} {j : Instr} (decoded : decodeRequest p code args = some j) :
    ∃ rest, encodeRequest j = some (p, code, rest) := by
  have spelled : BitVec.ofNat 8 code.toNat = code := by simp
  unfold decodeRequest at decoded
  split at decoded
  case h_27 => cases decoded
  all_goals
    rename_i number
    rw [number] at spelled
    subst spelled
    cases decoded
    exact ⟨_, rfl⟩

theorem fobs_testTransfer {bytes : List Byte} {trailing : Bool} (h : FobsKept s t) (free : p = .M → StoreFree s t) :
    FobsKept s (testTransfer p bytes trailing t) := by
  unfold testTransfer
  dsimp only
  split
  · exact fobs_respond h
  · split
    · exact fobs_respond h
    · split
      · exact fobs_respond h
      · obtain ⟨_, command⟩ := encodeRequest_of_decode ‹_›
        exact fobs_request h free command

/-! ### Transfers (R159, R163) -/

theorem fobs_transferBegins (h : FobsKept s t) : FobsKept s (transferBegins p t) := by
  unfold transferBegins beginTransfer
  dsimp only
  split
  · exact fobs_awaken h
  · refine fobs_setPort (fobs_awaken h) rfl (fun x began idle => .inr ?_)
    obtain rfl := Option.some_inj.mp began
    simpa using idle

/-- A transfer's end takes its request only where its port was free at its beginning, and so still is. -/
theorem fobs_transferEnd {tested : State → State} (h : FobsKept s t)
    (keeps : ∀ {u}, FobsKept s u → (p = .M → StoreFree s u) → FobsKept s (tested u)) :
    FobsKept s (transferEnd p tested t) := by
  have begun : FobsKept s (if (t.port p).transfer.isSome then t else transferBegins p t) := by
    split
    · exact h
    · exact fobs_transferBegins h
  unfold transferEnd
  dsimp only
  generalize (if (t.port p).transfer.isSome then t else transferBegins p t) = u at begun
  have ended : FobsKept s (endTransfer p u) := fobs_setPort begun rfl (fun _ none => absurd none nofun)
  split
  · rename_i x line
    split
    · exact ended
    · rename_i taken
      obtain ⟨-, driven, idle⟩ : ¬ _ ∧ ¬ x.driven = false ∧ ¬ x.inFlight = true := by simpa only [not_or] using taken
      refine keeps ended (fun port law => ?_)
      subst port
      obtain ⟨-, -, -, free⟩ := begun.enrol law
      exact ⟨rfl, free x line (by simpa using driven) (by simpa using idle)⟩
  · exact begun

end

end Sys2Proof.Machine

/-! ## Every step keeps the laws of the counters and of the fob table: O59

Beside the steps that keep the fobs (`FobsKept`) stand the power-on, which loads them, and the completion of a write, which
brings what was written to its slot. -/

namespace Sys2Proof.Machine

open Sys2Proof

section
variable {s t u : State} {i k : Fin 8} {x : Writing} {f : FobSlot} {p : Payload}

/-! ### Power-on (R111, R112, R122, R181) -/

theorem loadedSlot_counters (taken : List (BitVec 32)) (y : StoredSlot) :
    (loadedSlot taken y).storedC = (loadedSlot taken y).C := by
  unfold loadedSlot
  split
  · rfl
  · split
    · rfl
    · split <;> rfl

theorem fobLaw_of_loaded {v : Vector StoredSlot 8} (loaded : t.fobs = loadedFobs v) : fobLaw t := by
  have fob : ∀ k, t.fob k = (loadedFobs v)[k] := fun k => by rw [State.fob, loaded]
  intro i active
  rw [fob] at active ⊢
  obtain ⟨held, entry, -⟩ := loadedFobs_entry v i
  refine ⟨?_, fun k other same => ?_⟩
  · rw [entry] at active ⊢
    rw [loadedSlot_of_active active]
    exact (loadedSlot_active_iff.mp active).2.2.1
  · rw [fob] at other same
    exact loadedFobs_unique other active same

theorem fobs_powerOn (ph : Phase) (pins : Pins) (s : State) : FobLaws s (powerOn ph pins s) where
  commit _ := by
    refine ⟨fun i => ?_, nofun⟩
    obtain ⟨held, entry, -⟩ := loadedFobs_entry s.store.slots i
    rw [show (powerOn ph pins s).fob i = loadedSlot held s.store.slots[i] from entry]
    exact (loadedSlot_counters held _).le
  enrol _ := by
    refine ⟨fobLaw_of_loaded rfl, Nat.zero_le _, fun x none => absurd none List.not_mem_nil, fun y line driven => ?_⟩
    obtain ⟨z, -, rfl⟩ := Option.map_eq_some_iff.mp line
    cases driven

/-! ### What was written (R121, R123, R124) -/

/-- A slot as an ENROLL write leaves it (R123). -/
def enrolledFob (r : SlotRecord) : FobSlot :=
  { FobSlot.empty with status := .ACTIVE, identity := r.identity, C := r.counter, storedC := r.counter }

/-- What a completed write changes of the slots. -/
def written (p : Payload) (s : State) : State :=
  match p with
  | .commit i r => s.setFob i { s.fob i with storedC := r.counter, commitPending := (s.fob i).C != r.counter }
  | .enroll i r => s.setFob i (enrolledFob r)
  | .revoke i => s.setFob i FobSlot.empty
  | _ => s

theorem fobView_writeDone (x : Writing) (s : State) :
    fobView (writeDone x s) = fobView (written x.payload (storeIdle s)) := by
  obtain ⟨p, -, -, -⟩ := x
  cases p with
  | enroll i r => exact (fobView_of_background (background_closeHoldOf i (slotWritten i r (enrolledFob r) s)) :)
  | revoke i => exact (fobView_of_background (background_closeHoldOf i (slotWritten i SlotRecord.empty FobSlot.empty s)) :)
  | commit _ _ => rfl
  | profile _ _ => rfl
  | params _ => rfl

theorem commitLaw_setFob (law : commitLaw s) (stored : f.storedC ≤ f.C) : commitLaw ((storeIdle s).setFob i f) := by
  refine ⟨fun k => ?_, nofun⟩
  rcases eq_or_ne k i with rfl | other
  · rw [fob_setFob_same]
    exact stored
  · rw [fob_setFob_ne _ _ other]
    exact law.1 k

theorem commitLaw_written (law : commitLaw s) (runs : writing s = some p) : commitLaw (written p (storeIdle s)) := by
  cases p with
  | commit i r => exact commitLaw_setFob law (law.2 i r runs)
  | enroll i r => exact commitLaw_setFob law le_rfl
  | revoke i => exact commitLaw_setFob law le_rfl
  | profile _ _ => exact ⟨law.1, nofun⟩
  | params _ => exact ⟨law.1, nofun⟩

theorem slotsStand_setFob (active : f.status = .ACTIVE → (s.fob i).status = .ACTIVE ∧ f.identity = (s.fob i).identity) :
    SlotsStand s (s.setFob i f) := by
  intro k
  rcases eq_or_ne k i with rfl | other
  · rw [fob_setFob_same]
    exact active
  · rw [fob_setFob_ne _ _ other]
    exact fun on => ⟨on, rfl⟩

/-- A write that is no enrolment makes none ACTIVE. -/
theorem slotsStand_written (other : ∀ i r, p ≠ .enroll i r) (s : State) : SlotsStand s (written p s) := by
  cases p with
  | commit i r => exact slotsStand_setFob (fun on => ⟨on, rfl⟩)
  | enroll i r => exact absurd rfl (other i r)
  | revoke i => exact slotsStand_setFob nofun
  | profile _ _ => exact .of_eq (fun _ => rfl)
  | params _ => exact .of_eq (fun _ => rfl)

theorem fobLaw_enrolled (law : fobLaw s) (named : f.identity ≠ 0#32)
    (free : ∀ k, k ≠ i → (s.fob k).status = .ACTIVE → (s.fob k).identity ≠ f.identity) : fobLaw (s.setFob i f) := by
  intro j active
  rcases eq_or_ne j i with rfl | apart
  · rw [fob_setFob_same]
    refine ⟨named, fun k on same => ?_⟩
    by_contra other
    rw [fob_setFob_ne _ _ other] at on same
    exact free k other on same
  · rw [fob_setFob_ne _ _ apart] at active ⊢
    obtain ⟨given, distinct⟩ := law j active
    refine ⟨given, fun k on same => ?_⟩
    rcases eq_or_ne k i with rfl | other
    · rw [fob_setFob_same] at same
      exact absurd same.symm (free j apart active)
    · rw [fob_setFob_ne _ _ other] at on same
      exact distinct k on same

theorem writing_written (p : Payload) (s : State) : writing (written p (storeIdle s)) = none := by cases p <;> rfl

theorem portQueue_written (p : Payload) (s : State) : (written p (storeIdle s)).writer.portQueue = s.writer.portQueue := by
  cases p <;> rfl

theorem port_written (p : Payload) (s : State) (q : Port) : (written p (storeIdle s)).port q = s.port q := by
  cases p <;> rfl

theorem enrolling_written (p : Payload) (s : State) :
    enrolling (written p (storeIdle s)) = enrolments s.writer.portQueue := by
  rw [enrolling_eq, writing_written, portQueue_written]
  rfl

theorem enrolLaw_written (law : enrolLaw s) (runs : writing s = some p) : enrolLaw (written p (storeIdle s)) := by
  have port := port_written p s .M
  have waits := enrolling_written p s
  have under := enrolling_eq s
  rw [runs] at under
  by_cases enrols : ∃ i r, p = .enroll i r
  · obtain ⟨i, r, rfl⟩ := enrols
    obtain ⟨table, one, fresh, line⟩ := law
    rw [under] at one fresh
    have none : enrolling (written (.enroll i r) (storeIdle s)) = [] := by
      rw [waits]
      simpa [enrolmentOf] using one
    obtain ⟨named, -, free⟩ := fresh (i, r.identity) (List.mem_append_left _ List.mem_cons_self)
    refine ⟨fobLaw_enrolled (s := storeIdle s) table named free, by simp [none], by simp [none], ?_⟩
    rw [port]
    exact line
  · have other : ∀ i r, p ≠ .enroll i r := fun i r e => enrols ⟨i, r, e⟩
    exact enrolLaw_of_fewer law (slotsStand_written other (storeIdle s))
      (by rw [waits, under]; exact List.sublist_append_right ..) (congrArg _ port) (congrArg _ port)

theorem fobs_writeDone (runs : s.writer.running = some x) : FobLaws s (writeDone x s) := by
  have runs : writing s = some x.payload := by rw [writing, runs]; rfl
  have seen := (FobsKept.ofView (fobView_writeDone x s)).toFobLaws
  exact ⟨fun law => seen.commit (commitLaw_written law runs), fun law => seen.enrol (enrolLaw_written law runs)⟩

/-! ### The answer to the command (R163) -/

theorem fobs_finalStatus {a : Answer} (none : enrolling s = []) : FobLaws s (finalStatus a s) := by
  cases command : (s.port .M).inFlight with
  | none =>
    rw [show finalStatus a s = s by simp only [finalStatus, command]]
    exact ⟨id, id⟩
  | some code =>
    rw [finalStatus_inFlight command]
    refine ⟨id, fun ⟨table, one, _, _⟩ => ⟨table, one, fun y mem => ?_, fun _ _ _ _ => rfl⟩⟩
    exact absurd (none ▸ mem : y ∈ []) List.not_mem_nil

/-- The command in flight ends with its last write, when no enrolment is left. -/
theorem fobs_portWriteDone (idle : writing s = none) : FobLaws s (portWriteDone x s) := by
  unfold portWriteDone
  split
  · rename_i last
    simp only [Bool.and_eq_true, List.isEmpty_iff] at last
    obtain ⟨-, last⟩ := last
    have none : enrolling s = [] := by
      rw [enrolling_eq, idle, last]
      rfl
    split
    · unfold retestStandby
      split
      · have kept := fobs_finalStatus (a := Answer.doneWith [(1, 1)]) (s := { s with phase := .STANDBY }) none
        exact ⟨kept.commit, kept.enrol⟩
      · exact fobs_finalStatus none
    · exact fobs_finalStatus none
  · exact ⟨id, id⟩

theorem writing_writeDone (x : Writing) (s : State) : writing (writeDone x s) = none := by
  obtain ⟨-, same, -⟩ := fobView_eq_iff.mp (fobView_writeDone x s)
  rw [same, writing_written]

theorem fobs_completed (runs : s.writer.running = some x) : FobLaws s (completed x s) :=
  ((fobs_writeDone runs).trans (fobs_portWriteDone (writing_writeDone x s))).trans (fobs_finish (.refl _)).toFobLaws

/-! ### The counters at a completion (R121) -/

theorem fob_completed (x : Writing) (s : State) (k : Fin 8) :
    (completed x s).fob k = (written x.payload (storeIdle s)).fob k := by
  obtain ⟨-, kept, -⟩ := completed_keeps x s
  obtain ⟨fobs, -⟩ := fobView_eq_iff.mp (fobView_writeDone x s)
  exact fob_congr (kept.trans fobs) k

/-- Only an ENROLL or REVOKE write of a slot changes its counter. -/
theorem counter_written (enroll : ∀ r, p ≠ .enroll k r) (revoke : p ≠ .revoke k) (s : State) :
    ((written p s).fob k).C = (s.fob k).C := by
  cases p with
  | commit i r =>
    rcases eq_or_ne k i with rfl | other
    · exact (congrArg FobSlot.C (fob_setFob_same s k _) :)
    · exact congrArg FobSlot.C (fob_setFob_ne _ _ other)
  | enroll i r => exact congrArg FobSlot.C (fob_setFob_ne _ _ (fun e => enroll r (e ▸ rfl)))
  | revoke i => exact congrArg FobSlot.C (fob_setFob_ne _ _ (fun e => revoke (e ▸ rfl)))
  | profile _ _ => rfl
  | params _ => rfl

theorem writeDone_now (x : Writing) (s : State) : (writeDone x s).now = s.now := by
  unfold writeDone
  dsimp only
  split
  · rfl
  · exact (background_now (background_closeHoldOf ..) :)
  · exact (background_now (background_closeHoldOf ..) :)
  · rfl
  · rfl

/-- The write that has run is not the one that runs next, whose timer starts now. -/
theorem completed_running (six : x.timer ≠ ⟨s.now, 6⟩) (ten : x.timer ≠ ⟨s.now, 10⟩) :
    (completed x s).writer.running ≠ some x := by
  obtain ⟨phase, ports, answered⟩ := portWriteDone_eq x (writeDone x s)
  have settled := outside_settle (portWriteDone x (writeDone x s))
  have now : (settle (portWriteDone x (writeDone x s))).now = s.now := by
    rw [outside_now settled, answered]
    exact writeDone_now x s
  have idle : (settle (portWriteDone x (writeDone x s))).writer.running = none := by
    rw [outside_writer settled, answered]
    exact Option.map_eq_none_iff.mp (writing_writeDone x s)
  intro again
  unfold completed finish at again
  rcases pump_cases (settle (portWriteDone x (writeDone x s))) with still | ⟨-, y, runs, timer, -⟩
  · rw [still, idle] at again
    cases again
  · obtain rfl := Option.some_inj.mp (runs.symm.trans again)
    rw [now] at timer
    exact timer.elim six ten

/-! ### Every command -/

/-- What a command leads to for the fobs. -/
inductive FobsStep (j : Instr) (s t : State) : Prop
  | kept : FobsKept s t → FobsStep j s t
  | loaded (ph : Phase) (pins : Pins) : fobView t = fobView (powerOn ph pins s) →
      (s.phase = .LOADING ∨ ∃ first, j = .powerOnReset first) → FobsStep j s t
  | completed (x : Writing) (u : State) : s.writer.running = some x → u.writer = s.writer → fobView u = fobView s →
      x.timer ≠ ⟨u.now, 6⟩ → x.timer ≠ ⟨u.now, 10⟩ → t = Machine.completed x u → FobsStep j s t

theorem FobsStep.laws {j : Instr} (h : FobsStep j s t) : FobLaws s t := by
  cases h with
  | kept kept => exact kept.toFobLaws
  | loaded ph pins seen => exact (fobs_powerOn ph pins s).trans (FobsKept.ofView seen).toFobLaws
  | completed x u runs writer seen _ _ done =>
    rw [done]
    exact (FobsKept.ofView seen).toFobLaws.trans (fobs_completed (writer ▸ runs))

/-- A counter only rises, but where a power-on loads it or an ENROLL or REVOKE write of its slot completes (R121). -/
theorem FobsStep.rises {j : Instr} (h : FobsStep j s t) (running : s.phase ≠ .LOADING) (on : ∀ pins, j ≠ .powerOnReset pins)
    (goesOn : ∀ x r, s.writer.running = some x → x.payload = .enroll k r ∨ x.payload = .revoke k →
      t.writer.running = s.writer.running) : (s.fob k).C ≤ (t.fob k).C := by
  cases h with
  | kept kept => exact kept.rises k
  | loaded ph pins _ cause => exact absurd cause (not_or.mpr ⟨running, not_exists.mpr on⟩)
  | completed x u runs writer seen six ten done =>
    have left : ∀ r, ¬(x.payload = .enroll k r ∨ x.payload = .revoke k) := fun r slot =>
      completed_running six ten (done ▸ (goesOn x r runs slot).trans runs)
    have same := counter_written (fun r e => left r (.inl e)) (fun e => left SlotRecord.empty (.inr e)) (storeIdle u)
    obtain ⟨fobs, -⟩ := fobView_eq_iff.mp seen
    rw [done, fob_completed, same]
    exact (congrArg FobSlot.C (fob_congr fobs k)).ge

/-- An expired timer is none that starts now with a span of its own (R185). -/
theorem advanceTo_passed {span : Nat} (some : 0 < span) (small : span < 4294967296) (y : Timer) (s : State) :
    y ≠ ⟨(advanceTo y s).now, span⟩ := by
  intro now
  unfold advanceTo at now
  split at now
  · rename_i due
    rw [now] at due
    have none : span = 0 := by simpa [timerDue, timerAge] using due
    exact absurd none (Nat.pos_iff_ne_zero.mp some)
  · have start : y.start = y.start + timeOf y.span := congrArg Timer.start now
    have zero : timeOf y.span = 0#32 := by simpa using start.symm
    have spanned : y.span = span := congrArg Timer.span now
    have value := congrArg BitVec.toNat zero
    rw [timeOf, spanned, BitVec.toNat_ofNat, Nat.mod_eq_of_lt small] at value
    exact absurd value (Nat.pos_iff_ne_zero.mp some)

theorem running_of_kind {kind : Payload → Bool} (found : runningOf kind s = some x) : s.writer.running = some x := by
  unfold runningOf at found
  split at found
  · split at found
    · cases found
      assumption
    · cases found
  · cases found

theorem fobsStep_completion {j : Instr} (kind : Payload → Bool) :
    FobsStep j s (expiry (writeTimer kind) (completion kind) s) := by
  unfold expiry event
  dsimp only
  split
  · exact .kept (.refl s)
  · cases found : runningOf kind s with
    | none =>
      rw [writeTimer, found]
      exact .kept (fobs_finish (.refl s))
    | some x =>
      have writer : (advanceTo x.timer s).writer = s.writer := by
        unfold advanceTo
        split <;> rfl
      have still : runningOf kind (advanceTo x.timer s) = some x := by
        rw [runningOf, writer]
        exact found
      refine .completed x (advanceTo x.timer s) (running_of_kind found) writer (fobView_advanceTo _ _)
        (advanceTo_passed (by decide) (by decide) _ _) (advanceTo_passed (by decide) (by decide) _ _) ?_
      rw [writeTimer, found, Option.map_some, expire, completion, still, completed]

theorem fobs_markRef {r : ReadingRef} (h : FobsKept s t) : FobsKept s (markRef r t) := by
  have waits : ∀ id u a, fobView (markWait id u a) = fobView u := fun id u a => congrArg fobPart (outside_setAct ..)
  cases r with
  | enqueue id =>
    refine h.view ?_
    unfold markRef
    rw [fobView_foldl (waits id)]
    rfl
  | acceptance _ | candidate _ => exact fobs_setFob h rfl rfl rfl le_rfl
  | _ => exact h.view rfl

/-- Every command leads to one of the three. -/
theorem fobsStep_exec {j : Instr} (e : exec j s = .next t) : FobsStep j s t := by
  have start := FobsKept.refl s
  cases command : encodeRequest j with
  | some y =>
    rw [exec_of_encodeRequest command] at e
    cases e
    exact .kept (fobs_transferEnd start (fun h free => fobs_request h free command))
  | none =>
    cases j with
    | powerOnReset pins => cases e; exact .loaded .LOADING _ rfl (.inr ⟨pins, rfl⟩)
    | portsEnabled =>
      cases e
      split
      · exact .loaded .ACTIVE s.pins rfl (.inl ‹_›)
      · exact .kept start
    | contactChange c closed => cases e; exact .kept (fobs_lineEvent rfl (fun h => h.view fobView_contactWork) start)
    | ajarChange l isOpen => cases e; exact .kept (fobs_lineEvent rfl (fun h => h.view fobView_ajarWork) start)
    | windowSwitchChange sw st => cases e; exact .kept (fobs_lineEvent rfl (fun h => h.view fobView_switchWork) start)
    | touch ti touched =>
      cases e
      refine .kept (fobs_lineEvent rfl (fun h => ?_) start)
      split
      · exact h.view fobView_touchWork
      · exact h
    | sensorSupplyChange w inRange =>
      cases e
      refine .kept (fobs_lineEvent rfl (fun h => ?_) start)
      split
      · exact h.view rfl
      · exact h.view (congrArg fobPart outside_sensorLost)
    | groupOvercurrent g active =>
      cases e
      refine .kept (fobs_lineEvent rfl (fun h => ?_) start)
      split
      · exact h.view (congrArg fobPart (outside_cutGroup ..))
      · exact h
    | windowOvercurrent w active =>
      cases e
      refine .kept (fobs_lineEvent rfl (fun h => ?_) start)
      split
      · exact h.view rfl
      · exact h
    | centralLockRocker x => cases e; exact .kept (fobs_event (fun h => h.view fobView_rockerWork) (start.view rfl))
    | keyCylinder x => cases e; exact .kept (fobs_event (fun h => h.view fobView_keyWork) (start.view rfl))
    | childSafetyButton => cases e; exact .kept (fobs_event (fun h => h.view fobView_childButtonWork) (start.view rfl))
    | panelKeyInputRelease pi => cases e; exact .kept (fobs_event (fun h => h.view fobView_wake) (start.view rfl))
    | supplySample mv =>
      cases e; exact .kept (fobs_event (fun h => h.view (congrArg fobPart outside_supplyWork)) (start.view rfl))
    | qualifiedEdge w y since =>
      cases e
      refine .kept (fobs_event (fun h => ?_) start)
      split
      · exact h.view fobView_qualifiedEdge
      · exact h
    | crashInChange active =>
      cases e
      have level : FobsKept s { s with pins := { s.pins with crashIn := active } } := start.view rfl
      split
      · exact .kept start
      · dsimp only
        split
        · exact .kept (level.view fobView_followLine)
        · exact .kept (fobs_event (fun h => h.view fobView_followLine) level)
    | transferBegin p => cases e; exact .kept (fobs_transferBegins start)
    | transferEnd p bytes trailing => cases e; exact .kept (fobs_transferEnd start fobs_testTransfer)
    | sensedInvalidExpiry d =>
      cases e; exact .kept (fobs_expiry (fun h => h.view (congrArg fobPart outside_invalidWork)) start)
    | overcurrentFaultClear w => cases e; exact .kept (fobs_expiry (fun h => h.view rfl) start)
    | qualificationTimerExpiry =>
      cases e; exact .kept (fobs_expiry (work := qualified) (fun h => h.view fobView_indication) start)
    | quietTimerExpiry => cases e; exact .kept (fobs_expiry (fun h => h.view rfl) start)
    | strokeEnd job g => cases e; exact .kept (fobs_expiry (fun h => h.view fobView_strokeEndWork) start)
    | retryWaitExpiry a => cases e; exact .kept (fobs_expiry (fun h => h.view fobView_retryWork) start)
    | strokeCountDecay a => cases e; exact .kept (fobs_expiry (fun h => h.view fobView_decayWork) start)
    | relockTimerExpiry => cases e; exact .kept (fobs_expiry (fun h => h.view fobView_relockWork) start)
    | brakingTimerExpiry w =>
      cases e; exact .kept (fobs_expiry (fun h => h.view (congrArg fobPart (outside_brakingOver ..))) start)
    | stall w => cases e; exact .kept (fobs_expiry (fun h => h.view fobView_stallWindow) start)
    | heatingTimerExpiry w => cases e; exact .kept (fobs_expiry (fun h => h.view (congrArg fobPart outside_heatWork)) start)
    | coolingTimerExpiry w => cases e; exact .kept (fobs_expiry (fun h => h.view (congrArg fobPart outside_coolWork)) start)
    | tallyTimerExpiry w => cases e; exact .kept (fobs_expiry (fun h => h.view rfl) start)
    | jobTurnsBlocking job =>
      cases e; exact .kept (fobs_expiry (fun h => h.view (congrArg fobPart outside_blockingWork)) start)
    | candidateLifetimeExpiry slot => cases e; exact .kept (fobs_expiry (fun h => fobs_setFob h rfl rfl rfl le_rfl) start)
    | startTimerExpiry => cases e; exact .kept (fobs_expiry (fun h => h.view fobView_startComfort) start)
    | gapTimerExpiry => cases e; exact .kept (fobs_expiry (fun h => h.view fobView_closeHold) start)
    | searchExpiry => cases e; exact .kept (fobs_expiry (fun h => h.view fobView_closeSearch) start)
    | holdOffEnd l => cases e; exact .kept (fobs_expiry (fun h => h.view rfl) start)
    | readingExpired r => cases e; exact .kept (fobs_expiry fobs_markRef start)
    | commitWriteComplete | profileWriteComplete | enrollWriteComplete | revokeWriteComplete | paramWriteComplete =>
      cases e; exact fobsStep_completion _
    | _ => cases command

/-! ### Every step -/

/-- A step runs the front command or an expiry, which has a timer; or it is a tick. -/
theorem step_cases (e : step s = .next t) : t = tick s ∨ ∃ j pending schedule,
    exec j { s with pending := pending, schedule := schedule } = .next t ∧
      (s.pending = j :: pending ∨ (timerOf j s).isSome = true) := by
  unfold step at e
  split at e
  · rename_i j rest front
    exact .inr ⟨j, rest, s.schedule, e, .inl front⟩
  · unfold idle at e
    dsimp only at e
    split at e
    · rename_i j picked
      have due : j ∈ dueNow s := by
        unfold chosen at picked
        split at picked
        · exact List.mem_of_mem_head? picked
        · exact List.mem_of_getElem? picked
      have timed : (timerOf j s).isSome = true := by
        obtain ⟨-, expired⟩ := List.mem_filter.mp due
        unfold isDue at expired
        split at expired
        · rename_i runs
          rw [runs]
          rfl
        · cases expired
      unfold spendChoice at e
      split at e
      · exact .inr ⟨j, s.pending, s.schedule.tail, e, .inr timed⟩
      · exact .inr ⟨j, s.pending, s.schedule, e, .inr timed⟩
    · cases e
      exact .inl rfl

theorem fobView_tick : fobView (tick s) = fobView s := by
  unfold tick
  split <;> rfl

theorem fobs_step_laws (e : step s = .next t) : FobLaws s t := by
  rcases step_cases e with rfl | ⟨j, pending, schedule, run, -⟩
  · exact (FobsKept.ofView fobView_tick).toFobLaws
  · have led := (fobsStep_exec run).laws
    exact ⟨led.commit, led.enrol⟩

/-- The rise of the counters, for a step with the load over and no power-on in front (R121). -/
theorem fobs_step_rises (e : step s = .next t) (running : s.phase ≠ .LOADING)
    (front : ∀ pins rest, s.pending ≠ .powerOnReset pins :: rest)
    (goesOn : ∀ x r, s.writer.running = some x → x.payload = .enroll k r ∨ x.payload = .revoke k →
      t.writer.running = s.writer.running) : (s.fob k).C ≤ (t.fob k).C := by
  rcases step_cases e with rfl | ⟨j, pending, schedule, run, cause⟩
  · exact (FobsKept.ofView fobView_tick).rises k
  · refine (fobsStep_exec run).rises running (fun pins on => ?_) goesOn
    subst on
    exact cause.elim (front pins pending) (absurd · nofun)

theorem commitLaw_iff : commitLaw s ↔ counterLaw s ∧ ∀ x i r, s.writer.running = some x → x.payload = .commit i r →
    r.counter ≤ (s.fob i).C := by
  refine and_congr_right (fun _ => ?_)
  simp only [writing, Option.map_eq_some_iff]
  exact ⟨fun h x i r runs is => h i r ⟨x, runs, is⟩, fun h i r ⟨x, runs, is⟩ => h x i r runs is⟩

end

/-- Settles O59, by what each command leads to for the fobs (`FobsStep`). -/
theorem counterLawKeptByEveryStep : Obligations.CounterLawKeptByEveryStep := by
  intro s t e
  have laws := fobs_step_laws e
  exact ⟨fun law commit => commitLaw_iff.mp (laws.commit (commitLaw_iff.mpr ⟨law, commit⟩)),
    fun running front i goesOn => fobs_step_rises e running front goesOn, laws.enrol⟩

end Sys2Proof.Machine

/-! ## PRESENT that is not accepted (R113 to R115, R117, R119, R127, R138, R139): O35

The verdict by the counter, then what `takePresent` makes of it on its button, then the event, which finds nothing left to
do. -/

namespace Sys2Proof.Machine

open Sys2Proof

section
variable {s t : State} {b : Button} {i : Fin 8} {p : Port} {c : Nat} {r : PresentResult} {slot : Option (Fin 8)}
  {x : OpenSearch} {identity : BitVec 32} {counter : BitVec 24} {button tag : Byte}

/-! ### The verdict (R115) -/

theorem verdict_held (same : c = (s.fob i).C) (held : b = .LOCK_HELD ∧ s.hold.isOpen = true ∧ s.hold.slot = i) :
    verdict i c b p s = (.HOLD_EXTENDED, false) := by
  unfold verdict
  exact if_pos ⟨same, held⟩

theorem verdict_duplicate (same : c = (s.fob i).C) (free : ¬(b = .LOCK_HELD ∧ s.hold.isOpen = true ∧ s.hold.slot = i))
    (again : isDuplicate (s.fob i) b p s = true) : verdict i c b p s = (.DUPLICATE, false) := by
  unfold verdict
  dsimp only
  rw [if_neg (fun h => free h.2), if_pos ⟨same, again⟩]

/-- A counter that is used up, with no hold to extend and no frame to repeat. -/
theorem verdict_replay (low : c ≤ (s.fob i).C)
    (fresh : c = (s.fob i).C → ¬(b = .LOCK_HELD ∧ s.hold.isOpen = true ∧ s.hold.slot = i) ∧
      isDuplicate (s.fob i) b p s = false) :
    verdict i c b p s = (.REPLAY, false) := by
  unfold verdict
  dsimp only
  rw [if_neg (fun ⟨same, held⟩ => (fresh same).1 held), if_neg (fun ⟨same, again⟩ => by simp [(fresh same).2] at again),
    if_pos low]

/-- Past the window of 64 the counter is neither in use nor used up. -/
theorem verdict_past (past : (s.fob i).C + 64 < c) : verdict i c b p s =
    if c ≤ (s.fob i).C + 32768 then if confirms (s.fob i) c then (.ACCEPTED, true) else (.RESYNC_NEEDED, false)
    else (.OUT_OF_WINDOW, false) := by
  unfold verdict
  dsimp only
  rw [if_neg (by omega), if_neg (by omega), if_neg (by omega), if_neg (by omega)]

theorem verdict_resync (past : (s.fob i).C + 64 < c) (near : c ≤ (s.fob i).C + 32768)
    (unknown : confirms (s.fob i) c = false) : verdict i c b p s = (.RESYNC_NEEDED, false) := by
  rw [verdict_past past, if_pos near, if_neg (by simp [unknown])]

theorem verdict_outOfWindow (far : (s.fob i).C + 32768 < c) : verdict i c b p s = (.OUT_OF_WINDOW, false) := by
  rw [verdict_past (by omega), if_neg (by omega)]

/-! ### What PRESENT does with it (R113, R114, R117, R119, R139) -/

/-- What a presentation gives that is not accepted. -/
def declined (r : PresentResult) (slot : Option (Fin 8)) : Presented := ⟨r, false, none, 0, slot⟩

theorem verifyPresent_unknown (unknown : activeSlot identity s = none) :
    verifyPresent identity c b p s = (declined .UNKNOWN_FOB none, s) := by
  rw [verifyPresent, unknown]
  rfl

theorem verifyPresent_declined (active : activeSlot identity s = some i) (result : verdict i c b p s = (r, false))
    (failed : r ≠ .ACCEPTED) : verifyPresent identity c b p s = (declined r (some i), declineSlot r i c s) := by
  rw [verifyPresent, active]
  dsimp only
  rw [result, if_neg failed]
  rfl

theorem takePresent_button (named : buttonOf button = some b) (pressed : b ≠ .PASSIVE)
    (verified : verifyPresent identity counter.toNat b p s = (declined r slot, t)) :
    takePresent p identity counter button tag s = (presentedAnswer (declined r slot), t) := by
  rw [takePresent, named]
  cases b with
  | PASSIVE => exact absurd rfl pressed
  | _ => dsimp only; rw [verified]

theorem takePresent_passive (answer : passivePresent identity counter.toNat tag.toNat .E s = (declined r slot, t)) :
    takePresent .E identity counter 3#8 tag s = (presentedAnswer (declined r slot), t) := by
  rw [takePresent, show buttonOf 3#8 = some .PASSIVE from rfl]
  dsimp only
  rw [if_neg nofun, answer]

/-- A tag that no open search has (R139). -/
theorem passivePresent_unmatched (other : s.search.current.any (fun y => y.tag = tag.toNat) = false) :
    (s.search.last.any (fun y => y.tag = tag.toNat) = true →
      passivePresent identity c tag.toNat p s = (declined .LATE none, s)) ∧
    (s.search.last.any (fun y => y.tag = tag.toNat) = false →
      passivePresent identity c tag.toNat p s = (declined .WRONG_TAG none, s)) := by
  refine ⟨fun late => ?_, fun wrong => ?_⟩
  · simp [passivePresent, matchTag, other, late, declined]
  · simp [passivePresent, matchTag, other, wrong, declined]

/-- The open search x closes by an answer that is not accepted (R138, R139). -/
def rejectedBy (x : OpenSearch) (r : PresentResult) (slot : Option (Fin 8)) (s : State) : State :=
  raise .SEARCH_ENDED { s with search := { s.search with
    current := none
    last := some (closedRecord x s.reading .FOUND_REJECTED (some ⟨slot, r, none, none⟩)) } }

theorem passivePresent_rejected (current : s.search.current = some x) (named : x.tag = tag.toNat) (failed : r ≠ .ACCEPTED)
    (verified : verifyPresent identity c .PASSIVE p s = (declined r slot, t)) (kept : t.search.current = some x) :
    passivePresent identity c tag.toNat p s = (declined r slot, rejectedBy x r slot t) := by
  have found : matchTag tag.toNat s = .OPEN := by simp [matchTag, current, named]
  rw [passivePresent, found]
  dsimp only
  rw [verified, closeByAnswer]
  simp [declined, failed, closeSearch, closeQuietly, kept, startsHoldOff, rejectedBy]

/-! ### The event -/

theorem calm_declineSlot (h : calm s) : calm (declineSlot r i c s) := by
  unfold declineSlot
  split
  · exact calm_congr rfl rfl rfl rfl rfl h
  · exact calm_setFob h rfl
  · exact calm_setFob h rfl
  · exact calm_setFob h rfl
  · exact h

/-- A presentation that is not accepted is answered DONE, and its event ends with its own work. -/
theorem exec_declined (listens : listening p s) (still : calm t)
    (e : takePresent p identity counter button tag (arrived p s) = (presentedAnswer (declined r slot), t)) :
    exec (.present p identity counter button tag) s = .next (respond p 0x30#8
      ⟨.DONE, packData [(4, presentCode r), (1, 0), (3, 7), (8, 0), (4, (slot.map (·.val)).getD 15)]⟩ t) := by
  rw [exec_present listens e, finish_calm still]
  rfl

/-- PRESENT that is refused for its button or its port. -/
theorem exec_refused {x : Answer} (listens : listening p s) (still : calm s)
    (e : takePresent p identity counter button tag (arrived p s) = (x, arrived p s)) :
    exec (.present p identity counter button tag) s = .next (respond p 0x30#8 x (arrived p s)) :=
  commandRow_refused listens still (permitted_present p) e

/-- A button of a fob, whose counter is not accepted. -/
theorem exec_button (listens : listening p s) (still : calm s) (named : buttonOf button = some b) (pressed : b ≠ .PASSIVE)
    (active : activeSlot identity s = some i) (failed : r ≠ .ACCEPTED)
    (result : verdict i counter.toNat b p (arrived p s) = (r, false)) :
    exec (.present p identity counter button tag) s = .next (respond p 0x30#8
      ⟨.DONE, packData [(4, presentCode r), (1, 0), (3, 7), (8, 0), (4, i.val)]⟩
      (declineSlot r i counter.toNat (arrived p s))) := by
  have verified := verifyPresent_declined (s := arrived p s) active result failed
  exact exec_declined (slot := some i) listens (calm_declineSlot (calm_arrived still))
    (takePresent_button named pressed verified)

/-- A passive answer to the open search, which is not accepted. -/
theorem exec_passive (listens : listening .E s) (current : s.search.current = some x) (named : x.tag = tag.toNat)
    (failed : r ≠ .ACCEPTED) (still : calm t) (kept : t.search.current = some x)
    (verified : verifyPresent identity counter.toNat .PASSIVE .E (arrived .E s) = (declined r slot, t)) :
    exec (.present .E identity counter 3#8 tag) s = .next (respond .E 0x30#8
      ⟨.DONE, packData [(4, presentCode r), (1, 0), (3, 7), (8, 0), (4, (slot.map (·.val)).getD 15)]⟩
      (rejectedBy x r slot t)) :=
  exec_declined listens (calm_congr rfl rfl rfl rfl rfl still)
    (takePresent_passive (passivePresent_rejected (s := arrived .E s) current named failed verified kept))

end

/-- Settles O35, by the verdict for each counter. -/
theorem presentRejectionsByCounter : Obligations.PresentRejectionsByCounter := by
  intro p identity counter button tag b i x s listens still c f a held rejected answered closed
  refine ⟨fun high => ?_, fun named pressed unknown => ?_, fun named pressed active => ?_, fun passive port => ?_,
    fun passive port other => ?_, fun passive port current matched => ?_⟩
  · have none : buttonOf button = none := List.getElem?_eq_none high
    exact exec_refused listens still (by rw [takePresent, none])
  · exact exec_declined (slot := none) listens (calm_arrived still)
      (takePresent_button named pressed (verifyPresent_unknown (s := a) unknown))
  · have press {r : PresentResult} (failed : r ≠ .ACCEPTED) (result : verdict i c b p a = (r, false)) :=
      exec_button (tag := tag) listens still named pressed active failed result
    exact ⟨fun same hold => press nofun (verdict_held (s := a) same hold),
      fun same free again => press nofun (verdict_duplicate (s := a) same free again),
      fun same free once => press nofun (verdict_replay (s := a) same.le (fun _ => ⟨free, once⟩)),
      fun low => press nofun (verdict_replay (s := a) low.le (fun same => absurd same low.ne)),
      fun past near unknown => press nofun (verdict_resync (s := a) past near unknown),
      fun far => press nofun (verdict_outOfWindow (s := a) far)⟩
  · subst passive port
    exact exec_refused listens still rfl
  · subst passive port
    obtain ⟨late, wrong⟩ := passivePresent_unmatched (s := a) (identity := identity) (c := c) (p := .E) other
    exact ⟨fun was => exec_declined (slot := none) listens (calm_arrived still) (takePresent_passive (late was)),
      fun never => exec_declined (slot := none) listens (calm_arrived still) (takePresent_passive (wrong never))⟩
  · subst passive port
    have answer {r : PresentResult} (active : activeSlot identity s = some i) (failed : r ≠ .ACCEPTED)
        (kept : (declineSlot r i c a).search.current = some x) (result : verdict i c .PASSIVE .E a = (r, false)) :=
      exec_passive (slot := some i) listens current matched failed (calm_declineSlot (calm_arrived still)) kept
        (verifyPresent_declined (s := a) active result failed)
    exact ⟨fun unknown => exec_passive (slot := none) listens current matched nofun (calm_arrived still) current
        (verifyPresent_unknown (s := a) unknown),
      fun active low => answer active nofun current (verdict_replay (s := a) low.le (fun same => absurd same low.ne)),
      fun active past near unknown => answer active nofun current (verdict_resync (s := a) past near unknown)⟩

end Sys2Proof.Machine
